-- ==== Sys2Proof/Word.lean ====
section
/-! DEFINITION. The word types of the RM32: what the manual treats as bits. -/

namespace Sys2Proof

/-- One byte of a frame, a ring entry or the window. -/
abbrev Byte := BitVec 8

/-- A 16-bit index or sequence number, which wraps by design (R393, R422). -/
abbrev Word16 := BitVec 16

/-- A 32-bit register or field. -/
abbrev Word32 := BitVec 32

/-- A 64-bit register or tile word. -/
abbrev Word64 := BitVec 64

/-- An axis of the module, 0 to 31 (R53). -/
abbrev AxisId := Fin 32

/-- A Causeway port C0 to C3 (R338). -/
abbrev PortId := Fin 4

/-- A tide A to D (R269). -/
abbrev TideId := Fin 4

end Sys2Proof
end

