-- ==== Sys2Proof/Syntax.lean ====
section
/-! DEFINITION. The commands of the RM32: one constructor of `Instr` for each row of spec/opcode_table.json, with the
operands that the rules give it. Every command carries the LT instant `t` in ns at which it happens (log 1). -/

namespace Sys2Proof

/-- The two ports over which a host reaches the window (R406). -/
inductive HostPort where
  | qspi
  | eth
  deriving DecidableEq, Repr

/-- The header of a mailbox request as the supervisory processor took it (R426). -/
structure Hdr where
  /-- Ring the request came from (R421). -/
  ring : Fin 4
  /-- Node and MSG number of the ferry message that carried the request; `none` for a ring of this node (R429). -/
  via : Option (Nat × Nat)
  tag : Nat
  length : Nat
  bulk : Bool
  persist : Bool
  more : Bool
  target : Nat
  /-- Offset of the bulk region in the bulk area (R426). -/
  bulkOfs : Nat
  deriving DecidableEq, Repr

/-- The payload of MOVE_QUEUE (R215, R438). `points` holds the group points given in bulk. -/
structure MoveReq where
  tgt : Nat
  kind : Nat
  blend : Nat
  replace : Bool
  startAt : Bool
  endRun : Bool
  reservedFlags : Nat
  vFrac : Nat
  aFrac : Nat
  dFrac : Nat
  jFrac : Nat
  startN : Nat
  tol : Nat
  target : Int
  centre0 : Int
  centre1 : Int
  turns : Nat
  points : List Int
  deriving DecidableEq, Repr

/-- The payload of JOG (R242, R438). -/
structure JogReq where
  axis : Nat
  kind : Nat
  vFrac : Nat
  aFrac : Nat
  dFrac : Nat
  jFrac : Nat
  value : Int
  deriving DecidableEq, Repr

/-- The payload of LATCH_ARM (R261, R438). -/
structure LatchReq where
  axis : Nat
  mask : Nat
  win0Start : Int
  win0End : Int
  win1Start : Int
  win1End : Int
  deriving DecidableEq, Repr

/-- The payload of GEAR_ENGAGE (R288, R438). -/
structure GearReq where
  axis : Nat
  kind : Nat
  table : Nat
  land : Nat
  master : Nat
  num : Int
  den : Nat
  len : Nat
  mSpec : Nat
  mAbs : Nat
  pTarget : Int
  xS : Int
  deriving DecidableEq, Repr

/-- The payload of CAM_LOAD, with the points of its segment (R293, R438). -/
structure CamReq where
  table : Nat
  n : Nat
  rise : Int
  segOfs : Nat
  ys : List Int
  deriving DecidableEq, Repr

/-- The payload of TIMED_OUTPUT (R398, R438). `t0` is FT in ns, or NT seconds with `t0ns`. -/
structure TqReq where
  channel : Nat
  kind : Nat
  scale : Nat
  polarity : Nat
  count : Nat
  t0 : Int
  t0ns : Nat
  period : Nat
  width : Nat
  deriving DecidableEq, Repr

/-- One upstream burst as a link PHY received it (R57, R79, R88). Stamps are in units of 0.125 ns of LT. -/
structure Burst where
  /-- The code groups as received, abcdei before fghj, bit a the most significant of ten. -/
  groups : List Nat
  /-- First bit of /S/ at the pad (R382). -/
  stampS : Nat
  /-- Reception of the last code group (R36). -/
  stampEnd : Nat
  /-- Vertical eye margin of this burst, in percent of the margin at the end of training (R64). -/
  eyePct : Nat
  /-- Settings to which the equaliser has adapted by this burst: CTLE gain in dB and three DFE taps (R62). -/
  ctle : Nat
  dfe : List Int
  deriving DecidableEq, Repr

/-- What the hardware observes in a tile pass (R38, R322, R327, R330). All empty on healthy silicon. -/
structure TileObs where
  /-- Tiles whose pass has a program-memory parity error. -/
  parity : List (Fin 5)
  /-- Axes whose area has an uncorrectable state-store error on a word that is read. -/
  ssUe : List AxisId
  /-- Axes with a corrected state-store error. -/
  ssCe : List AxisId
  /-- First differing store that the comparator saw: axis, word offset, ns after the window opened. -/
  mismatch : Option (AxisId × Nat × Nat)
  /-- Tiles that do not write their last payload by t_close. -/
  late : List (Fin 5)
  deriving DecidableEq, Repr

/-- A Causeway frame as it arrived on a port (R338, R342): its code groups from the /I2/ sets before it on, bit a the most
significant of ten, with its arrival stamp in 0.125 ns of LT (R382). -/
structure CFrame where
  groups : List Nat
  stamp : Nat
  deriving DecidableEq, Repr

/-- An Ethernet frame with the fields that window access uses (R413). -/
structure EthFrame where
  src : Nat
  version : Nat
  kind : Nat
  seq : Nat
  addr : Nat
  len : Nat
  data : List Byte
  deriving DecidableEq, Repr

/-- The head of an Ethernet frame that arrives at the host port: EtherType behind any tag, VLAN ID of the tag (0 without one), and whether it
is addressed to the module's MAC address (R412, R413). -/
structure EthHead where
  etherType : Nat
  vlan : Nat
  own : Bool
  deriving DecidableEq, Repr

/-- The port takes the frame: PTP, or window access that is addressed to the module, untagged or priority-tagged (R412, R413). -/
def EthHead.taken (f : EthHead) : Bool := decide (f.vlan = 0 ∧ (f.etherType = 0x88F7 ∨ (f.etherType = 0x88B5 ∧ f.own = true)))

/-- An IEEE 1588 message on the host port, reduced to what the chapter uses (R386, R387, R391). -/
inductive PtpMsg where
  /-- An Announce of a foreign master: priority vector in comparison order, steps removed, identity. -/
  | announce (domain : Nat) (rank : List Nat) (steps : Nat) (gmId : Nat) (quality : Nat) (utcOffset : Int) (leap61 leap59 : Bool)
  /-- A Sync, with its Follow_Up where there is one: LT stamp of its arrival in 0.125 ns, origin timestamp of the master and correction in
  2^-16 ns. -/
  | sync (domain : Nat) (stamp : Nat) (origin corr : Int)
  /-- A Delay_Resp: the master's receive timestamp of this port's Delay_Req, less the correction, in 2^-16 ns. -/
  | delayResp (domain : Nat) (rx : Int)
  /-- A Pdelay_Resp, with its Follow_Up: LT stamp of its arrival, the peer's receive and transmit timestamps with the correction. -/
  | pdelayResp (domain : Nat) (stamp : Nat) (rx tx : Int)
  /-- A Delay_Req or a Pdelay_Req of another port: LT stamp of its arrival in 0.125 ns. -/
  | delayReq (domain : Nat) (peer : Bool) (stamp : Nat)
  /-- A management GET. -/
  | managementGet
  /-- Any message that is not supported. -/
  | other
  deriving DecidableEq, Repr

/-- A PTP message that is due for sending (R391). -/
inductive PtpKind where
  | announce
  | sync
  /-- A Delay_Req, in the peer-to-peer mechanism a Pdelay_Req. -/
  | delayReq
  deriving DecidableEq, Repr

/-- What the module sends as PTP (R391). -/
inductive PtpSend where
  /-- Grandmaster's identity, quality and steps, UTC offset and leap flags as they are passed through. -/
  | announce (gmId quality steps : Nat) (utcOffset : Int) (leap61 leap59 : Bool)
  /-- Origin timestamp in 2^-16 ns of NT. -/
  | sync (origin : Int)
  | delayReq
  /-- Answers to a Delay_Req, with its receive timestamp in 2^-16 ns of NT, to a Pdelay_Req and to a management GET. -/
  | delayResp (rx : Int)
  | pdelayResp (rx tx : Int)
  | managementResp
  deriving DecidableEq, Repr

/-- A received CAN frame (R526, R529). `sof` is the LT stamp of SOF in 0.125 ns. -/
structure CanFrame where
  id : Nat
  ide : Bool
  remote : Bool
  fdf : Bool
  brs : Bool
  dlc : Nat
  data : List Byte
  sof : Nat
  deriving DecidableEq, Repr

/-- An error on a CAN bus: the counter changes that ISO 11898-1 gives it (R533). -/
structure CanError where
  tecDelta : Int
  recDelta : Int
  deriving DecidableEq, Repr

/-- The two safety paths (R488). -/
inductive SPath where
  | proc
  | logic
  deriving DecidableEq, Repr

/-- The two safety outputs (R488). -/
inductive SOut where
  | soa
  | sob
  deriving DecidableEq, Repr

/-- The networks that carry safe messages (R506). -/
inductive SNet where
  | causeway
  | can1
  deriving DecidableEq, Repr

/-- A frame of the safety exchange as both ends took it (R26, R27, R494). -/
structure SafetyFrame where
  crcOk : Bool
  /-- The field die sees no edges on the SOA enable channel, stuck high or low, while SOA is commanded closed (R27). -/
  stuck : Bool
  readSoa : Bool
  readSob : Bool
  /-- CONFIG_CRC that the logic path reports. -/
  logicCrc : Nat
  deriving DecidableEq, Repr

/-- What a field-link-up frame carries beside the die's own states (R26, R525): `vfld` in 10 mV, and the outputs whose current limit
or thermal shutdown acts now, bit o for DQ o (R521). -/
structure FieldUp where
  vfld : Nat
  acting : Nat
  deriving DecidableEq, Repr

/-- Memory errors that the ECC logic reports (R13, R487): of the LPDDR4X inside the recorder and acquisition regions or outside
them, and of the supervisory SRAM. An error in the recorder's ring lies in the block of control cycle (n, k). -/
inductive MemErr where
  | dramCe
  | dramUe
  | ringUe (n k : Nat)
  | supCe
  | supUe
  deriving DecidableEq, Repr

/-- A service pass: its LT instant, and the memory errors that the supervisory processor finds with it (R13, R423). -/
structure ServicePass where
  t : Nat
  errs : List MemErr
  deriving DecidableEq, Repr

/-- The clock relations that are checked (R21). -/
inductive ClockRel where
  | refKeep
  | safeRef
  | refSafe
  | field
  deriving DecidableEq, Repr

/-- The power domains in the order of R15 (R470). -/
inductive Domain where
  | keep
  | sup
  | mem
  | prof
  | t0
  | t1
  | t2
  | t3
  | t4
  | axl
  | fab
  | host
  | safe
  | field
  deriving DecidableEq, Repr

/-- What the boot finds (R434 and R572-R574, R334): verification of the images, tile slices and power-on tests. -/
structure BootObs where
  vsysMv : Nat
  imageAOk : Bool
  imageBOk : Bool
  /-- Tiles whose slice fails at this reset (R334). -/
  sliceFails : List (Fin 5)
  /-- The power-on subset passes apart from the tile slices (R574). -/
  postOk : Bool
  /-- The safety paths pass their power-on self-tests (R490). -/
  safeTestOk : Bool
  vbakMv : Nat
  /-- The KEEP domain has kept its contents; and its seconds counter (R595). -/
  keepValid : Bool
  keepSeconds : Nat
  /-- The firmware reaches HOST_STATE 2 (R573). -/
  ready : Bool
  /-- The monitors as the re-plan at power-up reads them: one list for each period it tries (R581). -/
  readings : List (List Int)
  deriving DecidableEq, Repr

/-- Why a Causeway port falls (R339). -/
inductive PortLoss where
  | lock
  | violations
  | probes
  deriving DecidableEq, Repr

/-- Which of an axis's switch inputs (R248). -/
inductive SwitchSel where
  | pos
  | neg
  | home
  deriving DecidableEq, Repr

/-- One command of the block: a mailbox operation that is carried out, a host transaction, or an event of R35-R598.
The constructor's row of the table is the one that LAWS.json names. Log 10 (DESIGN CHOICE). -/
inductive Instr where
  | paramGet (t : Nat) (h : Hdr) (id count bank : Nat)
  | paramSet (t : Nat) (h : Hdr) (id count : Nat) (vals : List Byte)
  | paramStage (t : Nat) (h : Hdr) (id count ofs : Nat) (vals : List Byte)
  | check (t : Nat) (h : Hdr)
  | apply (t : Nat) (h : Hdr) (when_ n : Nat)
  | discard (t : Nat) (h : Hdr)
  | axisEnable (t : Nat) (h : Hdr) (mask : Nat)
  | axisDisable (t : Nat) (h : Hdr) (mask : Nat)
  | modeSet (t : Nat) (h : Hdr) (axis mode : Nat)
  | moveQueue (t : Nat) (h : Hdr) (m : MoveReq)
  | moveFlush (t : Nat) (h : Hdr) (tgt : Nat)
  | stop (t : Nat) (h : Hdr) (tgt : Nat)
  | quickstop (t : Nat) (h : Hdr) (tgt : Nat)
  | jog (t : Nat) (h : Hdr) (j : JogReq)
  | home (t : Nat) (h : Hdr) (axis : Nat)
  | latchArm (t : Nat) (h : Hdr) (l : LatchReq)
  | tideDefine (t : Nat) (h : Hdr) (body : List Byte)
  | tideSchedule (t : Nat) (h : Hdr) (tide n : Nat)
  | gearEngage (t : Nat) (h : Hdr) (g : GearReq)
  | camLoad (t : Nat) (h : Hdr) (c : CamReq)
  | faultRead (t : Nat) (h : Hdr) (first count : Nat)
  | faultAck (t : Nat) (h : Hdr) (record : Nat)
  | faultInject (t : Nat) (h : Hdr) (cls code unit window : Nat)
  | traceSetup (t : Nat) (h : Hdr) (pairs : List (Nat × Nat))
  | traceArm (t : Nat) (h : Hdr) (action : Nat)
  | traceRead (t : Nat) (h : Hdr) (ofs : Nat)
  | recordFreeze (t : Nat) (h : Hdr) (action : Nat)
  | replayRun (t : Nat) (h : Hdr) (first cycles mask : Nat)
  | timeGet (t : Nat) (h : Hdr)
  | timedOutput (t : Nat) (h : Hdr) (p : TqReq)
  | timeAcceptJump (t : Nat) (h : Hdr) (seconds : Nat)
  | fabricDiscover (t : Nat) (h : Hdr)
  | timetableLoad (t : Nat) (h : Hdr) (body : List Byte)
  | timetableSwitch (t : Nat) (h : Hdr) (tt : Nat)
  | bistRun (t : Nat) (h : Hdr) (scope : Nat)
  | lifecycleAdvance (t : Nat) (h : Hdr) (target : Nat) (body : List Byte)
  | debugChallenge (t : Nat) (h : Hdr) (kind : Nat)
  | debugResponse (t : Nat) (h : Hdr) (body : List Byte)
  | fwUpdateBegin (t : Nat) (h : Hdr) (len version : Nat)
  | fwUpdateData (t : Nat) (h : Hdr) (ofs : Nat) (body : List Byte)
  | fwUpdateEnd (t : Nat) (h : Hdr) (activate : Nat)
  | safetyConfig (t : Nat) (h : Hdr) (body : List Byte)
  | reqProdWrite (t : Nat) (port : HostPort) (ring : Fin 4) (v : Word16)
  | rspConsWrite (t : Nat) (port : HostPort) (ring : Fin 4) (v : Word16)
  | evtConsWrite (t : Nat) (port : HostPort) (v : Word16)
  | heartbeatWrite (t : Nat) (port : HostPort) (v : Word32)
  | hostSilent (t : Nat)
  | evtRegisterRead (t : Nat) (port : HostPort)
  | hostErrRead (t : Nat) (port : HostPort)
  | fldCntRead (t : Nat) (port : HostPort)
  | canStatRead (t : Nat) (port : HostPort) (ch : Fin 2)
  | fldOutWrite (t : Nat) (port : HostPort) (v : Word32)
  | objStatClear (t : Nat) (port : HostPort) (v : Byte)
  | txReq (t : Nat) (port : HostPort)
  | registerWrite (t : Nat) (port : HostPort) (addr : Word16) (bytes : List Byte)
  | qspiFast (t : Nat) (addr : Word16) (n : Nat) (until_ : Nat)
  | qspiRead (t : Nat) (addr : Word16) (n : Nat) (until_ : Nat)
  | qspiWrite (t : Nat) (addr : Word16) (bytes : List Byte)
  | qspiUnknownCommand (t : Nat) (cmd : Byte)
  | ethWindowRead (t : Nat) (f : EthFrame)
  | ethWindowWrite (t : Nat) (f : EthFrame)
  | ethFrameDiscard (t : Nat) (f : EthHead)
  | ethLink (t : Nat) (up : Bool)
  | mailboxServicePass (p : ServicePass)
  | controlCycleStart (t : Nat)
  | upstreamFrameRx (t : Nat) (ax : AxisId) (b : Burst)
  | upstreamDeadline (t : Nat)
  | lostFrameLimit (t : Nat) (ax : AxisId)
  | tileWindowOpen (t : Nat) (obs : TileObs)
  | tileWindowClose (t : Nat) (obs : TileObs)
  | selfTestSliceDone (t : Nat) (txPass t4Pass : Bool)
  | snapshotCopyDone (t : Nat)
  | downstreamSend (t : Nat) (stamps : List Nat)
  | fastStatusFlip (t : Nat)
  | cyclingStart (t : Nat)
  | applyPrepared (t : Nat)
  | applyTakeEffect (t : Nat)
  | applyPersistDone (t : Nat) (ok : Bool)
  | fabricApplyDecision (t : Nat)
  | fabricApplySwitch (t : Nat)
  | modeSwitchCycle (t : Nat) (ax : AxisId)
  | enableCycle (t : Nat)
  | linkWakeRx (t : Nat) (ax : AxisId) (b : Burst)
  | linkTrainRx (t : Nat) (ax : AxisId) (b : Burst)
  | trainFail (t : Nat) (ax : AxisId)
  | measureDone (t : Nat) (ax : AxisId)
  | linkIdleExchange (t : Nat) (ax : AxisId) (stamp : Nat)
  | linkLost (t : Nat) (ax : AxisId)
  | eyeLow (t : Nat) (ax : AxisId)
  | stoMismatch (t : Nat) (ax : AxisId)
  | tripClearTimeout (t : Nat) (ax : AxisId)
  | idBound (t : Nat) (ax : AxisId)
  | stepperHoldReduce (t : Nat) (ax : AxisId)
  | moveStartAtDue (t : Nat) (tgt : Nat)
  | jogTimeout (t : Nat) (ax : AxisId)
  | standstill (t : Nat) (ax : AxisId)
  | stopTimeout (t : Nat) (ax : AxisId)
  | homePhaseEnd (t : Nat) (ax : AxisId)
  | homePressed (t : Nat) (ax : AxisId)
  | limitDebounce (t : Nat) (ax : AxisId) (sw : SwitchSel)
  | chatterEnd (t : Nat) (ax : AxisId) (sw : SwitchSel)
  | emulatorEdge (t : Nat)
  | tilePowered (t : Nat) (tile : Fin 5)
  | tideDecision (t : Nat) (tide : TideId)
  | tideSwitch (t : Nat) (tide : TideId)
  | tideAdopt (t : Nat) (tide : TideId)
  | tideStale (t : Nat) (tide : TideId)
  | masterStale (t : Nat) (ax : AxisId)
  | gearEngageBegin (t : Nat) (ax : AxisId)
  | gearSynced (t : Nat) (ax : AxisId)
  | fabricCycleStart (t : Nat)
  | berthLaunch (t : Nat) (berth : Nat)
  | berthFrameRx (t : Nat) (port : PortId) (f : CFrame)
  | clockSyncUpdate (t : Nat)
  | noSource (t : Nat)
  | syncLost (t : Nat)
  | silentReturn (t : Nat)
  | joinComplete (t : Nat)
  | nodesLost (t : Nat)
  | portLock (t : Nat) (port : PortId)
  | linkDown (t : Nat) (port : PortId) (why : PortLoss)
  | probeSend (t : Nat) (port : PortId) (stamp : Nat)
  | probeRx (t : Nat) (port : PortId) (f : CFrame)
  | coldstartEntry (t : Nat)
  | coldstartSend (t : Nat)
  | coldstartRx (t : Nat) (port : PortId) (f : CFrame)
  | censusRx (t : Nat) (port : PortId) (f : CFrame)
  | censusReturn (t : Nat) (f : CFrame)
  | assignRx (t : Nat) (port : PortId) (f : CFrame)
  | autoDiscovery (t : Nat)
  | startFrameRx (t : Nat) (port : PortId) (f : CFrame)
  | timetableSwitchAt (t : Nat)
  | ferrySegmentRx (t : Nat) (payload : List Byte)
  | ferryRetransmit (t : Nat) (msg seg : Nat)
  | timetableRepeat (t : Nat)
  | timetableLoadTimeout (t : Nat)
  | ptpMessageRx (t : Nat) (m : PtpMsg)
  | ptpMessageSend (t : Nat) (k : PtpKind)
  | ptpLost (t : Nat)
  | ppsiEdge (t : Nat)
  | ntRecordSend (t : Nat)
  | ntRecordApply (t : Nat)
  | ntHoldover (t : Nat)
  | keepSecondsCorrect (t : Nat)
  | tqEdge (t : Nat) (ch : Fin 4)
  | ppsoEdge (t : Nat)
  | clockCheck (t : Nat) (rel : ClockRel) (ppm : Int) (stopped : Bool)
  | pllUnlock (t : Nat) (pll : Fin 14)
  | injectionWindowEnd (t : Nat) (slot : Nat)
  | safetyExchangeFrame (t : Nat) (f : SafetyFrame)
  | safeInputFilter (t : Nat) (path : SPath) (input : Fin 8) (level : Bool)
  | testPulse (t : Nat) (tp : Fin 2) (low : Bool) (readings : Byte)
  | discrepancy (t : Nat) (path : SPath) (pair : Fin 4)
  | ss1TimerEnd (t : Nat) (path : SPath)
  | resetRelease (t : Nat) (path : SPath)
  | soReadback (t : Nat) (path : SPath) (out : SOut)
  | safeMessageSend (t : Nat)
  | safeMessageRx (t : Nat) (net : SNet) (body : List Byte)
  | msgWatchdog (t : Nat) (sub : Fin 8) (net : SNet)
  | safetyConfigDone (t : Nat) (procCrc logicCrc : Nat)
  | diEdge (t : Nat) (input : Fin 16) (level : Bool)
  | diFilterExpiry (t : Nat) (input : Fin 16)
  | wireBreak (t : Nat) (input : Fin 16) (broken : Bool)
  | fieldLinkDownFrame (t : Nat)
  | fieldLinkUpFrame (t : Nat) (f : FieldUp)
  | fieldSilent (t : Nat)
  | fieldDownSilence (t : Nat)
  | vfldSag (t : Nat)
  | vfldRestore (t : Nat)
  | dqOverload (t : Nat) (o : Fin 8)
  | dqExternal (t : Nat) (o : Fin 8)
  | openLoad (t : Nat) (o : Fin 8)
  | canFrameRx (t : Nat) (ch : Fin 2) (f : CanFrame)
  | canTxDone (t : Nat) (ch : Fin 2) (obj : Fin 128) (ok : Bool) (sof : Nat)
  | canPeriodicDue (t : Nat) (ch : Fin 2) (obj : Fin 128)
  | canBusError (t : Nat) (ch : Fin 2) (e : CanError)
  | busOffRecovery (t : Nat) (ch : Fin 2)
  | recorderFreeze (t : Nat)
  | replayDone (t : Nat)
  | bistDone (t : Nat) (countOk sigOk : Bool)
  | lifecycleProgrammed (t : Nat)
  | lifecycleReset (t : Nat) (boot : BootObs)
  | debugNonceExpire (t : Nat)
  | debugAuthDelay (t : Nat)
  | fwTrialReadyTimeout (t : Nat) (boot : BootObs)
  | fwTrialEnd (t : Nat)
  | ageingMeasure (t : Nat) (readings : List Int)
  | marginReplan (t : Nat) (readings : List (List Int))
  | powerUp (t : Nat) (boot : BootObs)
  | vsysLow (t : Nat) (mv : Nat)
  | vsysLowClear (t : Nat) (mv : Nat)
  | shutdown (t : Nat) (mv : Nat)
  | rstNLow (t : Nat)
  | rstNHigh (t : Nat) (boot : BootObs)
  | domainLost (t : Nat) (d : Domain)
  | vbakCheck (t : Nat) (mv : Nat)
  | tempThreshold (t : Nat) (deci : Int)
  | supWatchdog (t : Nat) (boot : BootObs)
  | pllLockRegained (t : Nat) (pll : Fin 14)
  | safetyExchangeAbsence (t : Nat)
  | coldSpareSelfTest (t : Nat) (pass : Bool)
  | dqOverloadCleared (t : Nat) (o : Fin 8)
  | dqExternalCleared (t : Nat) (o : Fin 8)
  | canBusIntegration (t : Nat) (ch : Fin 2)
  deriving DecidableEq, Repr

end Sys2Proof
end

