-- ==== Sys2Proof/Machine/Arith.lean ====
section
/-! DEFINITION. Fixed-point arithmetic of R5 and R6, byte order of R3, serial numbers of R393, and the canonical lists
that hold sparse data. Every quantity is computed exactly in `Int` or `Rat` and narrowed at the end. -/

namespace Sys2Proof.Machine

/-- Saturation into `[lo, hi]` (R6). -/
def clamp (lo hi x : Int) : Int := if x < lo then lo else if hi < x then hi else x

/-- Saturation at the limits of an n-bit two's complement format (R6). -/
def satS (n : Nat) (x : Int) : Int := clamp (-(2 ^ (n - 1))) (2 ^ (n - 1) - 1) x

/-- Saturation at the limits of an n-bit unsigned format (R6). -/
def satU (n : Nat) (x : Int) : Int := clamp 0 (2 ^ n - 1) x

/-- Reduction of a value to n bits, unsigned. -/
def wrapU (n : Nat) (x : Int) : Int := x % 2 ^ n

/-- Reduction of a value to n bits, two's complement. -/
def wrapS (n : Nat) (x : Int) : Int :=
  let u := x % 2 ^ n
  if 2 ^ (n - 1) ≤ u then u - 2 ^ n else u

/-- Division that rounds half up (R6); a divisor of 0 gives 0 and stands in no rule. -/
def divHalfUp (a : Int) (b : Int) : Int :=
  if b = 0 then 0 else if b < 0 then (2 * (-a) + (-b)) / (2 * (-b)) else (2 * a + b) / (2 * b)

/-- Arithmetic right shift that rounds half up (R6). -/
def shrHalfUp (a : Int) (n : Nat) : Int := if n = 0 then a else (a + 2 ^ (n - 1)) / 2 ^ n

/-- Rounding of an exact fraction half up (R6). -/
def ratHalfUp (q : Rat) : Int := (q + 1 / 2).floor

/-- A value held with `n` fraction bits, rounded half up (R6). -/
def holdBits (n : Nat) (q : Rat) : Rat := (ratHalfUp (q * 2 ^ n) : Rat) / 2 ^ n

/-- A saturating counter of n bits, one step up. -/
def incSat (n : Nat) (x : Nat) : Nat := if x + 1 < 2 ^ n then x + 1 else 2 ^ n - 1

/-- Bit test of a number. -/
def bitOf (x : Nat) (i : Nat) : Bool := x.testBit i

/-- A flag as a number. -/
def b2n (b : Bool) : Nat := if b then 1 else 0

/-- Sign of a value. -/
def signOf (x : Int) : Int := if x < 0 then -1 else if 0 < x then 1 else 0

/-- Magnitude of a value. -/
def absI (x : Int) : Int := if x < 0 then -x else x

/-- Newton step on the integer square root, with fuel. -/
def isqrtLoop : Nat → Nat → Nat → Nat
  | 0, _, x => x
  | k + 1, n, x =>
    let y := (x + n / x) / 2
    if y < x then isqrtLoop k n y else x

/-- Integer square root, rounded down. -/
def isqrt (n : Nat) : Nat := if n = 0 then 0 else isqrtLoop 300 n (2 ^ (n.log2 / 2 + 1))

/-- Square root of a number, rounded half up: for an integer radicand the root never lies at a half (R6). Log 176 (DEDUCED). -/
def sqrtHalfUp (n : Nat) : Nat :=
  let r := isqrt n
  if r * r + r < n then r + 1 else r

/-- Sum of a list of naturals. -/
def natSum (l : List Nat) : Nat := l.foldl (· + ·) 0

/-- Serial-number comparison (R393): `b` is later than `a` for a width of `w` bits. -/
def serialLater (w : Nat) (a b : Nat) : Bool :=
  let d := ((b : Int) - a) % 2 ^ w
  decide (1 ≤ d ∧ d ≤ 2 ^ (w - 1))

/-- A 32-bit fabric cycle number extended to 64 bits: nearest to the present cycle, the later one on a tie (R394). -/
def extendN (now : Nat) (low : Nat) : Int :=
  let d := ((low : Int) - now) % 2 ^ 32
  if d ≤ 2 ^ 31 then (now : Int) + d else (now : Int) + d - 2 ^ 32

/-- The bytes of a value, least significant first (R3). -/
def toLE : Nat → Int → List Byte
  | 0, _ => []
  | n + 1, x => BitVec.ofInt 8 x :: toLE n (x / 256)

/-- The unsigned value of bytes, least significant first (R3). -/
def ofLE : List Byte → Nat
  | [] => 0
  | b :: r => b.toNat + 256 * ofLE r

/-- The two's complement value of bytes, least significant first (R3). -/
def ofLES (l : List Byte) : Int := wrapS (8 * l.length) (ofLE l)

/-- `n` bytes from offset `o` of a field of bytes; missing bytes read 0. -/
def bytesAt (l : List Byte) (o n : Nat) : List Byte :=
  let r := (l.drop o).take n
  r ++ List.replicate (n - r.length) 0

/-- Unsigned field of `n` bytes at offset `o`. -/
def getU (l : List Byte) (o n : Nat) : Nat := ofLE (bytesAt l o n)

/-- Signed field of `n` bytes at offset `o`. -/
def getS (l : List Byte) (o n : Nat) : Int := ofLES (bytesAt l o n)

/-- Cut a list of bytes into groups of `n`. -/
def chunks (n : Nat) : Nat → List Byte → List (List Byte)
  | 0, _ => []
  | k + 1, l => l.take n :: chunks n k (l.drop n)

/-- Bits packed upward from bit 0: each entry is a width and a value. -/
def packBits : List (Nat × Nat) → Nat
  | [] => 0
  | (w, v) :: r => v % 2 ^ w + 2 ^ w * packBits r

/-- The field of `w` bits from bit `o`. -/
def fieldOf (x : Nat) (o w : Nat) : Nat := x / 2 ^ o % 2 ^ w

/-- Value of key `k` in a sparse sorted list, or the default. -/
def alGet {α : Type} (d : α) (k : Nat) : List (Nat × α) → α
  | [] => d
  | (j, v) :: r => if j = k then v else alGet d k r

/-- Insert into a sparse list with strictly rising keys. -/
def alPut {α : Type} (k : Nat) (v : α) : List (Nat × α) → List (Nat × α)
  | [] => [(k, v)]
  | (j, w) :: r => if k < j then (k, v) :: (j, w) :: r else if k = j then (k, v) :: r else (j, w) :: alPut k v r

/-- Remove a key from a sparse list. -/
def alDel {α : Type} (k : Nat) : List (Nat × α) → List (Nat × α)
  | [] => []
  | (j, w) :: r => if j = k then r else (j, w) :: alDel k r

/-- Write a value, keeping the canonical form: the default is not listed. -/
def alSet {α : Type} [DecidableEq α] (d : α) (k : Nat) (v : α) (l : List (Nat × α)) : List (Nat × α) :=
  if v = d then alDel k l else alPut k v l

/-- Keys strictly rising and no entry equal to the default. -/
def alWf {α : Type} [DecidableEq α] (d : α) : List (Nat × α) → Bool
  | [] => true
  | [(_, v)] => decide (v ≠ d)
  | (j, v) :: (k, w) :: r => decide (v ≠ d) && decide (j < k) && alWf d ((k, w) :: r)

/-- Stable insertion into a list sorted by a key. -/
def insertBy {α : Type} (key : α → Nat) (x : α) : List α → List α
  | [] => [x]
  | y :: r => if key x < key y then x :: y :: r else y :: insertBy key x r

/-- Stable sort by a key. -/
def sortBy {α : Type} (key : α → Nat) (l : List α) : List α := l.foldl (fun acc x => insertBy key x acc) []

/-- The last `n` entries of a list. -/
def lastN {α : Type} (n : Nat) (l : List α) : List α := l.drop (l.length - n)

/-- The 32 axes in ascending order. -/
def allAxes : List AxisId := List.finRange 32

/-- An axis named by a number, if it exists. -/
def axisOf? (n : Nat) : Option AxisId := if h : n < 32 then some ⟨n, h⟩ else none

/-- Axes of a mask, ascending. -/
def maskAxes (m : Nat) : List AxisId := allAxes.filter (fun a => bitOf m a.val)

end Sys2Proof.Machine
end

