-- ==== Sys2Proof/Machine/StateBase.lean ====
section
/-! DEFINITION. State of the parameter banks, the host ports, the fault collector, the time unit and the supplies, as
plain data. The default of every field is its value at reset (INVENTORY.md names the rule or the log entry). -/

namespace Sys2Proof.Machine

/-- How a parameter takes effect (R9); `ro` marks a read-only one (R456). -/
inductive ApplyCode where
  | commit
  | now
  | cycle
  | reset
  | ro
  deriving DecidableEq, Repr

/-- One number of the parameter dictionary (R447-R450). -/
structure PRow where
  /-- Class and number, 0xCCNN. -/
  key : Nat
  /-- How many of its kind the class has: channels, axes, tides (R449). -/
  count : Nat
  /-- Bytes of one element; 0 for Bulk. -/
  sz : Nat
  signed : Bool
  /-- Elements of one value; 0 for Bulk. -/
  n : Nat
  /-- Ranges in which every element must lie (R451). -/
  ranges : List (Int × Int)
  dflt : List Int
  app : ApplyCode
  deriving DecidableEq, Repr

/-- A bank: values that differ from the dictionary's default, by parameter ID 0xCCNNii, keys rising. -/
abbrev Bank := List (Nat × List Int)

/-- A mailbox request that a later response completes (R425): its ring, or the ferry message that carried it (R429). -/
structure ReqRef where
  ring : Nat
  via : Option (Nat × Nat)
  tag : Nat
  op : Nat
  deriving DecidableEq, Repr

/-- An APPLY that awaits its boundary (R441, R443). -/
structure PendApply where
  req : Option ReqRef
  /-- The request asks for storing. -/
  persist : Bool
  /-- WHEN 1: a fabric-wide apply at cycle `n`. -/
  fabric : Bool
  n : Nat
  /-- Coefficients are prepared (R441). -/
  prepared : Bool
  /-- Address of the origin (R443). -/
  origin : Nat
  tag : Nat
  /-- Member addresses that must acknowledge, at the origin. -/
  members : List Nat
  acked : List Nat
  /-- This node passed CHECK and reports ACK. -/
  ownAck : Bool
  /-- 0 none yet, 1 COMMIT, 2 CANCEL. -/
  decision : Nat
  deriving DecidableEq, Repr

/-- Parameter banks (R9, R436, R439, R453, R457). Log 7 (DESIGN CHOICE). -/
structure PrmState where
  topcoat : Bank := []
  undercoat : Bank := []
  /-- NOW and CYCLE values in force. -/
  live : Bank := []
  /-- CYCLE writes accepted and not yet in force (R454). -/
  cyclePend : Bank := []
  /-- RESET values in force. -/
  resetLive : Bank := []
  /-- Stored RESET values, which a read returns (R9). -/
  resetStored : Bank := []
  /-- Stored COMMIT set (R457). -/
  stored : Option Bank := none
  topcoatValid : Bool := false
  frozen : Bool := false
  applyGen : Nat := 0
  pend : Option PendApply := none
  /-- The request that waits for the store of its topcoat (R441). -/
  persist : Option ReqRef := none
  /-- The topcoat that the store takes, and APPLY_GEN, N and k of its apply (R441). -/
  persistSet : Bank := []
  persistResult : Nat × Nat × Nat := (0, 0, 0)
  /-- Bulk objects being staged in segments: parameter ID, next offset, bytes (R435). -/
  segs : List (Nat × List Byte) := []
  deriving DecidableEq, Repr

/-- One request ring and its response ring (R421, R424). -/
structure Ring where
  reqProd : Word16 := 0
  reqCons : Word16 := 0
  rspProd : Word16 := 0
  rspCons : Word16 := 0
  /-- 0 unbound, 1 quad-SPI, 2 Ethernet. -/
  port : Nat := 0
  /-- Requests answered PENDING and not completed (R424). -/
  pending : Nat := 0
  deriving DecidableEq, Repr

/-- The fields of one buffer of the fast status window (R416). Log 88 (DESIGN CHOICE). -/
structure FastBuf where
  fabN : Nat := 0
  ctrlK : Nat := 0
  pubSkip : Nat := 0
  ft : Int := 0
  applyGen : Nat := 0
  modState : Nat := 0
  fltLevel : Nat := 0xFFFFFFFFFFFFFFFF
  fltCount : Nat := 0
  fltNewest : Nat := 0xFFFF
  tidePos : List Int := [0, 0, 0, 0]
  /-- AXIS_STATE, FERR and P_FB of each axis. -/
  axes : List (Nat × Int × Int) := List.replicate 32 (0, 0, 0)
  deriving DecidableEq, Repr

/-- Identification block (R431). Log 9 (DESIGN CHOICE). -/
structure Ident where
  hwRev : Nat := 0x43
  fwMajor : Nat := 3
  fwMinor : Nat := 2
  fwPatch : Nat := 0
  uid : Nat := 0
  mac : Nat := 0
  image : Nat := 0
  imageFallback : Bool := false
  resetCause : Nat := 0
  bootCount : Nat := 0
  deriving DecidableEq, Repr

/-- A mailbox request that a ferry message has brought: the ring it came from, the node and MSG that the response names, and its bytes
(R356, R429). -/
structure RemoteReq where
  ring : Fin 4
  src : Nat
  msg : Nat
  data : List Byte
  deriving DecidableEq, Repr

/-- Host ports and mailboxes (14_host_mailbox.md). -/
structure HostState where
  /-- 0 boot loader, 1 firmware starting, 2 ready, 3 no valid image (R419). -/
  hostState : Nat := 0
  evtPush : Bool := false
  hostWd : Nat := 0
  /-- LT in ns of the last write to HEARTBEAT, or of the write that started the check. -/
  lastBeat : Nat := 0
  rings : Vector Ring 4 := Vector.replicate 4 {}
  evtProd : Word16 := 0
  evtCons : Word16 := 0
  evtLost : Nat := 0
  /-- Completed responses that wait for a free response entry: ring and entry bytes (R425). -/
  rspWait : List (Nat × List Byte) := []
  /-- Requests of other nodes that wait for a service pass, oldest first (R429). -/
  remoteIn : List RemoteReq := []
  /-- Dropped events of the present command (R430). -/
  evtDropped : Nat := 0
  ignored : Nat := 0
  overrun : Nat := 0
  ethDiscard : Nat := 0
  /-- Ring entries and bulk area: bytes that differ from 0, addresses rising (R407). -/
  mem : List Host.Cell := []
  /-- MB_CTRL [15:1] as written; and HOST_SILENT has been raised and not ended (R420). -/
  mbRes : Nat := 0
  silent : Bool := false
  bufs : Vector FastBuf 2 := Vector.replicate 2 {}
  /-- Buffer index that the flip names (R410). -/
  bufIdx : Fin 2 := 0
  /-- Buffer that an open transaction reads, until the given LT in ns. -/
  held : Option (Fin 2 × Nat) := none
  pubSkip : Nat := 0
  /-- Source MAC of the last WRITE frame (R414). -/
  writeMac : Option Nat := none
  ethUp : Bool := false
  /-- A host transaction has completed since reset (R348, R406). -/
  hostTxn : Bool := false
  ident : Ident := {}
  /-- CAN_SEL of each port, quad-SPI first (R530). -/
  canSel : Nat × Nat := (0, 0)
  deriving DecidableEq, Repr

/-- Configuration of the field die as field-link-down frames carry it (R26): filter, mode and wire-break detection of the inputs,
the safe states, the silence time, and the period of the test pulses. Before the first frame the die holds the defaults of the
dictionary. Log 232 (DESIGN CHOICE). -/
structure DieCfg where
  filterUs : List Nat := List.replicate 8 1000
  pulsed : Nat := 0
  wireBreak : Nat := 0
  dqSafe : List Int := List.replicate 8 0
  silenceMs : Nat := 50
  tpMs : Nat := 20
  restoreAuto : Bool := false
  deriving DecidableEq, Repr

/-- A field-link-down frame (R26, R519, R524). -/
structure FieldDown where
  dq : Nat
  l5 : Bool
  cfg : DieCfg
  deriving DecidableEq, Repr

/-- What left the module in the present command: read data, frames and messages. Log 89 (DESIGN CHOICE). -/
structure OutBox where
  /-- Window bytes that a quad-SPI transaction, or the read of one register, returned. -/
  qspi : List Byte := []
  eth : List EthFrame := []
  /-- Causeway frames by port, as code groups (R338). -/
  fab : List (Nat × List Nat) := []
  /-- Probe and other frames carry an egress stamp in the next one; PTP messages sent. -/
  ptp : List PtpSend := []
  /-- CAN frames by channel. -/
  can : List (Nat × CanFrame) := []
  /-- Downstream axis-link bursts by axis, as code groups (R57). -/
  link : List (Nat × List Nat) := []
  /-- Field-link-down frames (R26). -/
  field : List FieldDown := []
  deriving DecidableEq, Repr

/-- One fault record (R471). -/
structure FltRec where
  code : Nat := 0
  unit : Nat := 0
  cls : Nat := 0
  level : Nat := 0
  dflt : Nat := 0
  /-- 0 empty, 1 ACTIVE, 2 LATCHED, 3 CLOSED. -/
  state : Nat := 0
  isInj : Bool := false
  real : Bool := false
  escalated : Bool := false
  merged : Bool := false
  fromReset : Bool := false
  timeLt : Bool := false
  repeat_ : Nat := 0
  first : Int := 0
  last : Int := 0
  cleared : Int := -(2 ^ 63)
  /-- End of the injection window in LT ns, while injected and not real (R483). -/
  winEnd : Nat := 0
  /-- A clearing action of kind A runs (R481). -/
  acting : Bool := false
  /-- Number of the record in order of opening, for "oldest" (R474). -/
  order : Nat := 0
  /-- Incident that raised it (R478): 0 none. -/
  incident : Nat := 0
  /-- Axes of the group or tide that its reaction at level 3 or above has affected: AXIS_ENABLE refuses them (R467, R468). -/
  masks : List Nat := []
  deriving DecidableEq, Repr

/-- What a detector reports to the collector (R473, R472). -/
structure Occ where
  code : Nat
  unit : Nat
  /-- Detector's present level; `none` for the table's. -/
  level : Option Nat
  /-- The condition has ended (kind C), instead of an occurrence. -/
  ended : Bool
  /-- The detector's own stamp, where it carries one (R472). -/
  stamp : Option Int
  /-- Incident number under R478, 0 for none. -/
  incident : Nat
  deriving DecidableEq, Repr

/-- The fault collector (16_faults.md). -/
structure FltState where
  /-- Slots 0-255 that have held a record, rising; every other slot is empty. -/
  recs : List (Nat × FltRec) := []
  /-- 0xFFFF while no record has opened (R474). -/
  newest : Nat := 0xFFFF
  lost : Nat := 0
  errLow : Bool := true
  /-- Restoration of R476 is done; ERR_N stays low until then (R486). -/
  restored : Bool := false
  opened : Nat := 0
  /-- Occurrences that reached the collector in the present command and are not decided (R475). -/
  inbox : List Occ := []
  incidents : Nat := 0
  /-- FAULT_ACK 0xFFFF or of TRIP records that wait: record slot and request (R481). -/
  acks : List (Nat × ReqRef) := []
  deriving DecidableEq, Repr

/-- Anchor of one fabric cycle (R379). -/
structure Anchor where
  n : Nat
  /-- L_n in ns. -/
  lt : Nat
  /-- F_n in 2^-16 ns. -/
  f : Int
  /-- r_n in 2^-48. -/
  r : Int
  deriving DecidableEq, Repr

/-- An NT record (R385). -/
structure NtRec where
  gen : Nat
  applyN : Nat
  /-- Offset O_N in 2^-16 ns. -/
  o : Int
  valid : Bool
  step : Bool
  utcValid : Bool
  leap61 : Bool
  leap59 : Bool
  /-- s in 2^-48. -/
  slew : Int
  utcOffset : Int
  source : Nat
  gmId : Nat
  gmQuality : Nat
  steps : Nat
  /-- S(N) in 2^-16 ns of FT. -/
  sN : Int
  deriving DecidableEq, Repr

/-- A foreign master's dataset, in comparison order (R386, R392). -/
structure Master where
  rank : List Nat
  steps : Nat
  gmId : Nat
  quality : Nat
  utcOffset : Int
  leap61 : Bool
  leap59 : Bool
  deriving DecidableEq, Repr

/-- A running TQ program (R398). -/
structure TqProg where
  once : Bool
  nt : Bool
  /-- T0 in ns of its scale. -/
  t0 : Int
  period : Nat
  width : Nat
  lowPulse : Bool
  /-- 0 without end. -/
  count : Nat
  /-- Next edge k. -/
  k : Nat
  deriving DecidableEq, Repr

/-- One TQ channel (R397-R400). -/
structure TqChan where
  prog : Option TqProg := none
  /-- Level of the pad. -/
  pad : Bool := false
  /-- FT in ns at which the running pulse ends. -/
  pulseEnd : Option Int := none
  /-- The running pulse is a low one. -/
  pulseLow : Bool := false
  deriving DecidableEq, Repr

/-- The time unit (13_time.md). Log 6 (DESIGN CHOICE). -/
structure TimeState where
  /-- LT in ns (R378). -/
  lt : Nat := 0
  /-- Anchors of the last fabric cycles, newest first (R381). -/
  anchors : List Anchor := [⟨0, 0, 0, 0⟩]
  nt : Option NtRec := none
  ntNext : Option NtRec := none
  /-- Records that take effect after that one, in order. -/
  ntLater : List NtRec := []
  /-- f and s of R387 in 2^-48. -/
  servoF : Int := 0
  servoS : Int := 0
  lastMeas : Option Int := none
  /-- Last e in 2^-16 ns (R404). -/
  lastE : Int := 0
  isSource : Bool := false
  jumpPending : Bool := false
  jumpAccepted : Bool := false
  /-- A step decided by the source for its next record, in 2^-16 ns. -/
  stepDue : Option Int := none
  /-- Seconds that TIME_ACCEPT_JUMP named for the next PPSI edge (R402). -/
  ppsiSeconds : Option Nat := none
  ppsiOk : Bool := false
  /-- FT in 2^-16 ns of the last accepted PPSI edge. -/
  ppsiLast : Option Int := none
  ppsiBad : Nat := 0
  /-- IEEE 1588 portState (R404). -/
  portState : Nat := 0
  lastSync : Option Nat := none
  master : Option Master := none
  ptpUnsupported : Nat := 0
  /-- Path delay in 2^-16 ns; the last Sync's origin and NT of its arrival; NT at which the last delay request left (R25, R391). -/
  ptpPath : Int := 0
  ptpSync : Option (Int × Int) := none
  ptpReq : Option Int := none
  /-- Last NT record sent: fabric cycle. -/
  ntSent : Option Nat := none
  holdover : Bool := false
  tq : Vector TqChan 4 := Vector.replicate 4 {}
  tqDropped : Nat := 0
  ppso : Bool := false
  ppsoEnd : Option Int := none
  keepSeconds : Nat := 0
  keepCorrected : Option Nat := none
  deriving DecidableEq, Repr

/-- Supplies, clocks and temperature (01_construction.md, 21_electrical.md). -/
structure PowerState where
  /-- Domains in regulation, in the order of R15: KEEP SUP MEM PROF T0-T4 AXL FAB HOST SAFE FIELD. -/
  on : Vector Bool 14 := #v[true, false, false, false, false, false, false, false, false, false, false, false, false, false]
  vsysMv : Nat := 0
  vbakMv : Nat := 0
  rstLow : Bool := false
  /-- Temperature of the die in 0.1 K steps of degrees Celsius. -/
  temp : Int := 0
  /-- Level of the temperature threshold in force (R598). -/
  tempState : Nat := 0
  pllLost : List Nat := []
  refPpm : Int := 0
  refStopped : Bool := false
  safePpm : Int := 0
  /-- Last-reset-cause register of KEEP: code, unit, level and KEEP seconds of the fault that reset the module (R476). -/
  keepFault : Option (Nat × Nat × Nat × Nat) := none
  /-- Start of the VSYS sag that runs. -/
  vsysLow : Bool := false
  /-- Domains whose rail has left regulation since the start, by number (R19). -/
  lost : List Nat := []
  deriving DecidableEq, Repr

end Sys2Proof.Machine
end

