-- ==== Sys2Proof/Machine/Params.lean ====
section
/-! DEFINITION. The parameter dictionary (R447-R463 and the tables that R449 joins): numbers, sizes, ranges, defaults and
apply codes of every parameter, and the two banks. A key is 0xCCNN: class and number. -/

namespace Sys2Proof.Machine

/-- `mod.node_id_fixed`. -/
abbrev pModNodeIdFixed : Nat := 0x0101

/-- `mod.coldstart_allowed`. -/
abbrev pModColdstartAllowed : Nat := 0x0102

/-- `mod.rm8_fault_mode`. -/
abbrev pModRm8FaultMode : Nat := 0x0103

/-- `mod.emu_source`. -/
abbrev pModEmuSource : Nat := 0x0110

/-- `cyc.period_ns`. -/
abbrev pCycPeriodNs : Nat := 0x0201

/-- `cyc.phase_ns`. -/
abbrev pCycPhaseNs : Nat := 0x0202

/-- `cyc.vel_div`. -/
abbrev pCycVelDiv : Nat := 0x0203

/-- `cyc.pos_div`. -/
abbrev pCycPosDiv : Nat := 0x0204

/-- `cyc.spare_mode`. -/
abbrev pCycSpareMode : Nat := 0x0205

/-- `cyc.tile_assign`. -/
abbrev pCycTileAssign : Nat := 0x0206

/-- `cyc.tile_map`. -/
abbrev pCycTileMap : Nat := 0x0207

/-- `cyc.tile_status`. -/
abbrev pCycTileStatus : Nat := 0x0208

/-- `cyc.cb_sel`. -/
abbrev pCycCbSel : Nat := 0x0209

/-- `cyc.cb_image`. -/
abbrev pCycCbImage : Nat := 0x020A

/-- `time.jump_limit_ns`. -/
abbrev pTimeJumpLimitNs : Nat := 0x0301

/-- `time.ptp_mode`. -/
abbrev pTimePtpMode : Nat := 0x0302

/-- `time.ptp_domain`. -/
abbrev pTimePtpDomain : Nat := 0x0303

/-- `time.ptp_delay`. -/
abbrev pTimePtpDelay : Nat := 0x0304

/-- `time.ptp_transport`. -/
abbrev pTimePtpTransport : Nat := 0x0305

/-- `time.ptp_step`. -/
abbrev pTimePtpStep : Nat := 0x0306

/-- `time.ptp_log_sync`. -/
abbrev pTimePtpLogSync : Nat := 0x0307

/-- `time.eth_tx_lat_ns`. -/
abbrev pTimeEthTxLatNs : Nat := 0x0308

/-- `time.eth_rx_lat_ns`. -/
abbrev pTimeEthRxLatNs : Nat := 0x0309

/-- `time.nt_source`. -/
abbrev pTimeNtSource : Nat := 0x030A

/-- `time.pps_out`. -/
abbrev pTimePpsOut : Nat := 0x030B

/-- `time.tq[n].mode`. -/
abbrev pTimeTqMode : Nat := 0x0310

/-- `time.status`. -/
abbrev pTimeStatus : Nat := 0x0320

/-- `fab.cycle_ns`. -/
abbrev pFabCycleNs : Nat := 0x0401

/-- `fab.timetable`. -/
abbrev pFabTimetable : Nat := 0x0402

/-- `fab.sync_sources`. -/
abbrev pFabSyncSources : Nat := 0x0403

/-- `fab.precision_limit_ns`. -/
abbrev pFabPrecisionLimitNs : Nat := 0x0404

/-- `fab.port[p].enable`. -/
abbrev pFabPortEnable : Nat := 0x0405

/-- `fab.harbour`. -/
abbrev pFabHarbour : Nat := 0x0406

/-- `fab.reint_limit_ns`. -/
abbrev pFabReintLimitNs : Nat := 0x0407

/-- `fab.status`. -/
abbrev pFabStatus : Nat := 0x0410

/-- `fab.port[p].status`. -/
abbrev pFabPortStatus : Nat := 0x0411

/-- `host.qspi_mode`. -/
abbrev pHostQspiMode : Nat := 0x0501

/-- `host.eth_mode`. -/
abbrev pHostEthMode : Nat := 0x0502

/-- `host.ring_port`. -/
abbrev pHostRingPort : Nat := 0x0503

/-- `flt.err_pin_level`. -/
abbrev pFltErrPinLevel : Nat := 0x0601

/-- `flt.class[c].base_level`. -/
abbrev pFltClassBaseLevel : Nat := 0x0602

/-- `flt.class[c].escalate`. -/
abbrev pFltClassEscalate : Nat := 0x0603

/-- `flt.transient_limit`. -/
abbrev pFltTransientLimit : Nat := 0x0604

/-- `acq.ch[k].source`. -/
abbrev pAcqChSource : Nat := 0x0701

/-- `acq.ch[k].deadband`. -/
abbrev pAcqChDeadband : Nat := 0x0702

/-- `acq.trig[t].kind`. -/
abbrev pAcqTrigKind : Nat := 0x0710

/-- `acq.trig[t].source`. -/
abbrev pAcqTrigSource : Nat := 0x0711

/-- `acq.trig[t].level_a`. -/
abbrev pAcqTrigLevelA : Nat := 0x0712

/-- `acq.trig[t].level_b`. -/
abbrev pAcqTrigLevelB : Nat := 0x0713

/-- `acq.trig[t].time_ns`. -/
abbrev pAcqTrigTimeNs : Nat := 0x0714

/-- `acq.trig[t].polarity`. -/
abbrev pAcqTrigPolarity : Nat := 0x0715

/-- `acq.pretrigger`. -/
abbrev pAcqPretrigger : Nat := 0x0720

/-- `fld.di[i].mode`. -/
abbrev pFldDiMode : Nat := 0x0801

/-- `fld.di[i].filter_us`. -/
abbrev pFldDiFilterUs : Nat := 0x0802

/-- `fld.di[i].wire_break`. -/
abbrev pFldDiWireBreak : Nat := 0x0803

/-- `fld.dq[o].safe_state`. -/
abbrev pFldDqSafeState : Nat := 0x0810

/-- `fld.silence_timeout_ms`. -/
abbrev pFldSilenceTimeoutMs : Nat := 0x0820

/-- `fld.restore_auto`. -/
abbrev pFldRestoreAuto : Nat := 0x0821

/-- `can[c].mode`. -/
abbrev pCanMode : Nat := 0x0901

/-- `can[c].rate_nominal`. -/
abbrev pCanRateNominal : Nat := 0x0902

/-- `can[c].rate_data`. -/
abbrev pCanRateData : Nat := 0x0903

/-- `can[c].sp_nominal`. -/
abbrev pCanSpNominal : Nat := 0x0904

/-- `can[c].sp_data`. -/
abbrev pCanSpData : Nat := 0x0905

/-- `can[c].objects`. -/
abbrev pCanObjects : Nat := 0x0906

/-- `safe.pair[p].function`. -/
abbrev pSafePairFunction : Nat := 0x0A01

/-- `safe.pair[p].discrepancy_ms`. -/
abbrev pSafePairDiscrepancyMs : Nat := 0x0A02

/-- `safe.tp_period_ms`. -/
abbrev pSafeTpPeriodMs : Nat := 0x0A03

/-- `safe.msg_watchdog_ms`. -/
abbrev pSafeMsgWatchdogMs : Nat := 0x0A04

/-- `safe.config_crc`. -/
abbrev pSafeConfigCrc : Nat := 0x0A10

/-- `age.reserve_mv`. -/
abbrev pAgeReserveMv : Nat := 0x0B01

/-- `age.vcore_mv`. -/
abbrev pAgeVcoreMv : Nat := 0x0B10

/-- `age.min_period_ns`. -/
abbrev pAgeMinPeriodNs : Nat := 0x0B11

/-- `age.margin[m]`. -/
abbrev pAgeMargin : Nat := 0x0B12

/-- `age.status`. -/
abbrev pAgeStatus : Nat := 0x0B13

/-- `tide[t].source`. -/
abbrev pTideSource : Nat := 0x0C01

/-- `tide[t].units_per_cycle`. -/
abbrev pTideUnitsPerCycle : Nat := 0x0C02

/-- `tide[t].origin_node`. -/
abbrev pTideOriginNode : Nat := 0x0C03

/-- `tide[t].stale_cycles`. -/
abbrev pTideStaleCycles : Nat := 0x0C04

/-- `tide[t].emu_resolution`. -/
abbrev pTideEmuResolution : Nat := 0x0C10

/-- `tide[t].status`. -/
abbrev pTideStatus : Nat := 0x0C20

/-- `tide[t].generation`. -/
abbrev pTideGeneration : Nat := 0x0C21

/-- `tide[t].crc`. -/
abbrev pTideCrc : Nat := 0x0C22

/-- `cam[c].info`. -/
abbrev pCamInfo : Nat := 0x0D01

/-- `grp[g].member`. -/
abbrev pGrpMember : Nat := 0x0E01

/-- `grp[g].weight`. -/
abbrev pGrpWeight : Nat := 0x0E02

/-- `grp[g].v_max`. -/
abbrev pGrpVMax : Nat := 0x0E03

/-- `grp[g].a_max`. -/
abbrev pGrpAMax : Nat := 0x0E04

/-- `grp[g].d_max`. -/
abbrev pGrpDMax : Nat := 0x0E05

/-- `grp[g].j_max`. -/
abbrev pGrpJMax : Nat := 0x0E06

/-- `grp[g].stop_decel`. -/
abbrev pGrpStopDecel : Nat := 0x0E07

/-- `grp[g].quick_decel`. -/
abbrev pGrpQuickDecel : Nat := 0x0E08

/-- `grp[g].blend_mode`. -/
abbrev pGrpBlendMode : Nat := 0x0E09

/-- `grp[g].blend_tol`. -/
abbrev pGrpBlendTol : Nat := 0x0E0A

/-- `grp[g].arc_tol`. -/
abbrev pGrpArcTol : Nat := 0x0E0B

/-- `grp[g].status`. -/
abbrev pGrpStatus : Nat := 0x0E10

/-- `ax.mot.kind`. -/
abbrev pAxMotKind : Nat := 0x2001

/-- `ax.mot.pole_pairs`. -/
abbrev pAxMotPolePairs : Nat := 0x2002

/-- `ax.mot.i_rated`. -/
abbrev pAxMotIRated : Nat := 0x2003

/-- `ax.mot.i_peak`. -/
abbrev pAxMotIPeak : Nat := 0x2004

/-- `ax.mot.res`. -/
abbrev pAxMotRes : Nat := 0x2005

/-- `ax.mot.l_d`. -/
abbrev pAxMotLD : Nat := 0x2006

/-- `ax.mot.l_q`. -/
abbrev pAxMotLQ : Nat := 0x2007

/-- `ax.mot.flux`. -/
abbrev pAxMotFlux : Nat := 0x2008

/-- `ax.cur.kp`. -/
abbrev pAxCurKp : Nat := 0x2101

/-- `ax.cur.ki`. -/
abbrev pAxCurKi : Nat := 0x2102

/-- `ax.cur.ff_vbus`. -/
abbrev pAxCurFfVbus : Nat := 0x2103

/-- `ax.cur.ff_bemf`. -/
abbrev pAxCurFfBemf : Nat := 0x2104

/-- `ax.cur.limit`. -/
abbrev pAxCurLimit : Nat := 0x2105

/-- `ax.cur.adapt`. -/
abbrev pAxCurAdapt : Nat := 0x2106

/-- `ax.id.tau_ms`. -/
abbrev pAxIdTauMs : Nat := 0x2201

/-- `ax.id.bound_pct`. -/
abbrev pAxIdBoundPct : Nat := 0x2202

/-- `ax.id.excite_min`. -/
abbrev pAxIdExciteMin : Nat := 0x2203

/-- `ax.id.inject`. -/
abbrev pAxIdInject : Nat := 0x2204

/-- `ax.id.res_est`. -/
abbrev pAxIdResEst : Nat := 0x2210

/-- `ax.id.ld_est`. -/
abbrev pAxIdLdEst : Nat := 0x2211

/-- `ax.id.lq_est`. -/
abbrev pAxIdLqEst : Nat := 0x2212

/-- `ax.id.flux_est`. -/
abbrev pAxIdFluxEst : Nat := 0x2213

/-- `ax.id.status`. -/
abbrev pAxIdStatus : Nat := 0x2214

/-- `ax.id.inertia_est`. -/
abbrev pAxIdInertiaEst : Nat := 0x2215

/-- `ax.vel.kp`. -/
abbrev pAxVelKp : Nat := 0x2301

/-- `ax.vel.ki`. -/
abbrev pAxVelKi : Nat := 0x2302

/-- `ax.vel.ff_acc`. -/
abbrev pAxVelFfAcc : Nat := 0x2303

/-- `ax.vel.bq[0]`. -/
abbrev pAxVelBq : Nat := 0x2304

/-- `ax.vel.bq_en`. -/
abbrev pAxVelBqEn : Nat := 0x2308

/-- `ax.vel.limit`. -/
abbrev pAxVelLimit : Nat := 0x2309

/-- `ax.vel.inertia`. -/
abbrev pAxVelInertia : Nat := 0x230A

/-- `ax.vel.obs_bw`. -/
abbrev pAxVelObsBw : Nat := 0x230B

/-- `ax.vel.int_limit`. -/
abbrev pAxVelIntLimit : Nat := 0x230C

/-- `ax.pos.kp`. -/
abbrev pAxPosKp : Nat := 0x2401

/-- `ax.pos.ff_vel`. -/
abbrev pAxPosFfVel : Nat := 0x2402

/-- `ax.pos.ferr_limit`. -/
abbrev pAxPosFerrLimit : Nat := 0x2403

/-- `ax.fb.kind`. -/
abbrev pAxFbKind : Nat := 0x2501

/-- `ax.fb.lines`. -/
abbrev pAxFbLines : Nat := 0x2502

/-- `ax.fb.index_mode`. -/
abbrev pAxFbIndexMode : Nat := 0x2503

/-- `ax.fb.illegal_limit`. -/
abbrev pAxFbIllegalLimit : Nat := 0x2504

/-- `ax.fb.plaus_limit`. -/
abbrev pAxFbPlausLimit : Nat := 0x2505

/-- `ax.fb.plaus_cycles`. -/
abbrev pAxFbPlausCycles : Nat := 0x2506

/-- `ax.fb.emu_resolution`. -/
abbrev pAxFbEmuResolution : Nat := 0x2507

/-- `ax.fb.lines_den`. -/
abbrev pAxFbLinesDen : Nat := 0x2508

/-- `ax.fb.dir`. -/
abbrev pAxFbDir : Nat := 0x2509

/-- `ax.fb.sc_off_sin`. -/
abbrev pAxFbScOffSin : Nat := 0x250A

/-- `ax.fb.sc_off_cos`. -/
abbrev pAxFbScOffCos : Nat := 0x250B

/-- `ax.fb.sc_gain`. -/
abbrev pAxFbScGain : Nat := 0x250C

/-- `ax.fb.sc_phase`. -/
abbrev pAxFbScPhase : Nat := 0x250D

/-- `ax.fb.sc_adapt`. -/
abbrev pAxFbScAdapt : Nat := 0x250E

/-- `ax.fb.sc_ampl_min`. -/
abbrev pAxFbScAmplMin : Nat := 0x250F

/-- `ax.fb.sc_ampl_max`. -/
abbrev pAxFbScAmplMax : Nat := 0x2510

/-- `ax.fb.sc_fmax`. -/
abbrev pAxFbScFmax : Nat := 0x2511

/-- `ax.fb.comm_method`. -/
abbrev pAxFbCommMethod : Nat := 0x2512

/-- `ax.fb.comm_offset`. -/
abbrev pAxFbCommOffset : Nat := 0x2513

/-- `ax.fb.hall_offset`. -/
abbrev pAxFbHallOffset : Nat := 0x2514

/-- `ax.fb.index_pos`. -/
abbrev pAxFbIndexPos : Nat := 0x2515

/-- `ax.fb.index_tol`. -/
abbrev pAxFbIndexTol : Nat := 0x2516

/-- `ax.fb.index_arm`. -/
abbrev pAxFbIndexArm : Nat := 0x2517

/-- `ax.fb.sc_state`. -/
abbrev pAxFbScState : Nat := 0x2518

/-- `ax.fb.flags`. -/
abbrev pAxFbFlags : Nat := 0x2519

/-- `ax.fb.latch0_cfg`. -/
abbrev pAxFbLatch0Cfg : Nat := 0x2520

/-- `ax.fb.latch1_cfg`. -/
abbrev pAxFbLatch1Cfg : Nat := 0x2521

/-- `ax.fb.latch0_result`. -/
abbrev pAxFbLatch0Result : Nat := 0x2522

/-- `ax.fb.latch1_result`. -/
abbrev pAxFbLatch1Result : Nat := 0x2523

/-- `ax.prof.v_max`. -/
abbrev pAxProfVMax : Nat := 0x2601

/-- `ax.prof.a_max`. -/
abbrev pAxProfAMax : Nat := 0x2602

/-- `ax.prof.d_max`. -/
abbrev pAxProfDMax : Nat := 0x2603

/-- `ax.prof.j_max`. -/
abbrev pAxProfJMax : Nat := 0x2604

/-- `ax.prof.stop_decel`. -/
abbrev pAxProfStopDecel : Nat := 0x2605

/-- `ax.prof.quick_decel`. -/
abbrev pAxProfQuickDecel : Nat := 0x2606

/-- `ax.prof.blend_mode`. -/
abbrev pAxProfBlendMode : Nat := 0x2607

/-- `ax.prof.blend_tol`. -/
abbrev pAxProfBlendTol : Nat := 0x2608

/-- `ax.prof.jog_timeout_ms`. -/
abbrev pAxProfJogTimeoutMs : Nat := 0x2609

/-- `ax.prof.still_v`. -/
abbrev pAxProfStillV : Nat := 0x260A

/-- `ax.prof.stop_timeout_ms`. -/
abbrev pAxProfStopTimeoutMs : Nat := 0x260B

/-- `ax.prof.soft_min`. -/
abbrev pAxProfSoftMin : Nat := 0x260C

/-- `ax.prof.soft_max`. -/
abbrev pAxProfSoftMax : Nat := 0x260D

/-- `ax.prof.status`. -/
abbrev pAxProfStatus : Nat := 0x2610

/-- `ax.home.method`. -/
abbrev pAxHomeMethod : Nat := 0x2701

/-- `ax.home.v_search`. -/
abbrev pAxHomeVSearch : Nat := 0x2702

/-- `ax.home.v_creep`. -/
abbrev pAxHomeVCreep : Nat := 0x2703

/-- `ax.home.offset`. -/
abbrev pAxHomeOffset : Nat := 0x2704

/-- `ax.home.dir`. -/
abbrev pAxHomeDir : Nat := 0x2705

/-- `ax.home.switch_src`. -/
abbrev pAxHomeSwitchSrc : Nat := 0x2706

/-- `ax.home.current`. -/
abbrev pAxHomeCurrent : Nat := 0x2707

/-- `ax.home.press_ms`. -/
abbrev pAxHomePressMs : Nat := 0x2708

/-- `ax.home.max_travel`. -/
abbrev pAxHomeMaxTravel : Nat := 0x2709

/-- `ax.home.status`. -/
abbrev pAxHomeStatus : Nat := 0x2710

/-- `ax.lim.debounce_us`. -/
abbrev pAxLimDebounceUs : Nat := 0x2801

/-- `ax.lim.chatter_count`. -/
abbrev pAxLimChatterCount : Nat := 0x2802

/-- `ax.lim.chatter_window_ms`. -/
abbrev pAxLimChatterWindowMs : Nat := 0x2803

/-- `ax.lim.stable_ms`. -/
abbrev pAxLimStableMs : Nat := 0x2804

/-- `ax.lim.pos_src`. -/
abbrev pAxLimPosSrc : Nat := 0x2805

/-- `ax.lim.neg_src`. -/
abbrev pAxLimNegSrc : Nat := 0x2806

/-- `ax.lim.polarity`. -/
abbrev pAxLimPolarity : Nat := 0x2807

/-- `ax.gear.master`. -/
abbrev pAxGearMaster : Nat := 0x2901

/-- `ax.gear.num`. -/
abbrev pAxGearNum : Nat := 0x2902

/-- `ax.gear.den`. -/
abbrev pAxGearDen : Nat := 0x2903

/-- `ax.gear.engage`. -/
abbrev pAxGearEngage : Nat := 0x2904

/-- `ax.gear.publish`. -/
abbrev pAxGearPublish : Nat := 0x2905

/-- `ax.gear.status`. -/
abbrev pAxGearStatus : Nat := 0x2910

/-- `ax.stp.hold_delay_ms`. -/
abbrev pAxStpHoldDelayMs : Nat := 0x2A01

/-- `ax.stp.hold_pct`. -/
abbrev pAxStpHoldPct : Nat := 0x2A02

/-- `ax.stp.band`. -/
abbrev pAxStpBand : Nat := 0x2A03

/-- `ax.stp.offset_adapt`. -/
abbrev pAxStpOffsetAdapt : Nat := 0x2A04

/-- `ax.stp.stall_angle`. -/
abbrev pAxStpStallAngle : Nat := 0x2A05

/-- `ax.stp.stall_steps`. -/
abbrev pAxStpStallSteps : Nat := 0x2A06

/-- `ax.pwm.carrier`. -/
abbrev pAxPwmCarrier : Nat := 0x2B01

/-- `ax.pwm.period_ns`. -/
abbrev pAxPwmPeriodNs : Nat := 0x2B02

/-- `ax.pwm.on_ns`. -/
abbrev pAxPwmOnNs : Nat := 0x2B03

/-- `ax.pwm.off_ns`. -/
abbrev pAxPwmOffNs : Nat := 0x2B04

/-- `ax.pwm.dead_ns`. -/
abbrev pAxPwmDeadNs : Nat := 0x2B05

/-- `ax.pwm.min_pulse_ns`. -/
abbrev pAxPwmMinPulseNs : Nat := 0x2B06

/-- `ax.pwm.span_mode`. -/
abbrev pAxPwmSpanMode : Nat := 0x2B07

/-- `ax.pwm.comp_band`. -/
abbrev pAxPwmCompBand : Nat := 0x2B08

/-- `ax.pwm.test_period`. -/
abbrev pAxPwmTestPeriod : Nat := 0x2B10

/-- `ax.pwm.test_on`. -/
abbrev pAxPwmTestOn : Nat := 0x2B11

/-- `ax.lnk.enable`. -/
abbrev pAxLnkEnable : Nat := 0x2C01

/-- `ax.lnk.state`. -/
abbrev pAxLnkState : Nat := 0x2C10

/-- `ax.lnk.delay_ps`. -/
abbrev pAxLnkDelayPs : Nat := 0x2C11

/-- `ax.lnk.lost_count`. -/
abbrev pAxLnkLostCount : Nat := 0x2C12

/-- `ax.lnk.crc_count`. -/
abbrev pAxLnkCrcCount : Nat := 0x2C13

/-- `ax.lnk.eye_pct`. -/
abbrev pAxLnkEyePct : Nat := 0x2C14

/-- `ax.mode.blend_ms`. -/
abbrev pAxModeBlendMs : Nat := 0x2D01

/-- `ax.mode.torque_ref`. -/
abbrev pAxModeTorqueRef : Nat := 0x2D02

/-- 128 message objects that are disabled (R461, R528). -/
def objectsDefault : List Int := List.replicate 2048 0

/-- Parameters of class 0x01 (R449). -/
def dict01 : List PRow := [
  ⟨0x0101, 1, 1, false, 1, [(0, 255)], [255], .commit⟩,
  ⟨0x0102, 1, 1, false, 1, [(0, 1)], [1], .commit⟩,
  ⟨0x0103, 1, 1, false, 1, [(0, 1)], [0], .commit⟩,
  ⟨0x0110, 1, 1, false, 1, [(0, 31), (64, 67), (255, 255)], [255], .commit⟩]

/-- Parameters of class 0x02 (R449). -/
def dict02 : List PRow := [
  ⟨0x0201, 1, 4, false, 1, [(8000, 250000)], [31250], .commit⟩,
  ⟨0x0202, 1, 4, false, 1, [(0, 250000)], [0], .commit⟩,
  ⟨0x0203, 1, 1, false, 1, [(1, 2), (4, 4), (8, 8)], [1], .commit⟩,
  ⟨0x0204, 1, 1, false, 1, [(1, 2), (4, 4), (8, 8)], [1], .commit⟩,
  ⟨0x0205, 1, 1, false, 1, [(0, 2)], [2], .commit⟩,
  ⟨0x0206, 1, 8, false, 5, [(0, 18446744073709551615)], [0x0706050403020100, 0x0F0E0D0C0B0A0908, 0x1716151413121110, 0x1F1E1D1C1B1A1918, 0xFFFFFFFFFFFFFFFF], .commit⟩,
  ⟨0x0207, 1, 8, false, 5, [(0, 18446744073709551615)], [0x0706050403020100, 0x0F0E0D0C0B0A0908, 0x1716151413121110, 0x1F1E1D1C1B1A1918, 0xFFFFFFFFFFFFFFFF], .ro⟩,
  ⟨0x0208, 1, 16, false, 1, [(0, 340282366920938463463374607431768211455)], [0], .ro⟩,
  ⟨0x0209, 32, 1, false, 4, [(0, 255)], List.replicate 4 255, .commit⟩,
  ⟨0x020A, 1, 0, false, 0, [(0, 255)], [], .commit⟩]

/-- Parameters of class 0x03 (R449). -/
def dict03 : List PRow := [
  ⟨0x0301, 1, 4, false, 1, [(1000, 1000000000)], [100000], .commit⟩,
  ⟨0x0302, 1, 1, false, 1, [(0, 3)], [0], .commit⟩,
  ⟨0x0303, 1, 1, false, 1, [(0, 127)], [0], .commit⟩,
  ⟨0x0304, 1, 1, false, 1, [(0, 1)], [0], .commit⟩,
  ⟨0x0305, 1, 1, false, 1, [(0, 1)], [0], .commit⟩,
  ⟨0x0306, 1, 1, false, 1, [(0, 1)], [1], .commit⟩,
  ⟨0x0307, 1, 1, true, 1, [(-7, 1)], [-3], .commit⟩,
  ⟨0x0308, 1, 2, false, 1, [(0, 2000)], [0], .commit⟩,
  ⟨0x0309, 1, 2, false, 1, [(0, 2000)], [0], .commit⟩,
  ⟨0x030A, 1, 1, false, 1, [(0, 2)], [0], .commit⟩,
  ⟨0x030B, 1, 1, false, 1, [(0, 2)], [0], .commit⟩,
  ⟨0x0310, 4, 1, false, 1, [(0, 3)], [0], .commit⟩,
  ⟨0x0320, 1, 16, false, 1, [(0, 340282366920938463463374607431768211455)], [0], .ro⟩]

/-- Parameters of class 0x04 (R449). -/
def dict04 : List PRow := [
  ⟨0x0401, 1, 4, false, 1, [(62500, 2000000)], [250000], .commit⟩,
  ⟨0x0402, 1, 1, false, 1, [(0, 7), (255, 255)], [255], .commit⟩,
  ⟨0x0403, 1, 1, false, 8, [(0, 255)], List.replicate 8 255, .commit⟩,
  ⟨0x0404, 1, 2, false, 1, [(4, 100)], [20], .commit⟩,
  ⟨0x0405, 4, 1, false, 1, [(0, 1)], [1], .commit⟩,
  ⟨0x0406, 1, 1, false, 1, [(0, 2)], [0], .commit⟩,
  ⟨0x0407, 1, 4, false, 1, [(1000, 10000000)], [1000000], .commit⟩,
  ⟨0x0410, 1, 16, false, 1, [(0, 340282366920938463463374607431768211455)], [0x000FFF00], .ro⟩,
  ⟨0x0411, 4, 8, false, 1, [(0, 18446744073709551615)], [0], .ro⟩]

/-- Parameters of class 0x05 (R449). -/
def dict05 : List PRow := [
  ⟨0x0501, 1, 1, false, 1, [(0, 2)], [1], .reset⟩,
  ⟨0x0502, 1, 1, false, 1, [(0, 2)], [0], .reset⟩,
  ⟨0x0503, 1, 1, false, 1, [(0, 255)], [0], .reset⟩]

/-- Parameters of class 0x06 (R449). -/
def dict06 : List PRow := [
  ⟨0x0601, 1, 1, false, 1, [(0, 5)], [3], .commit⟩,
  ⟨0x0602, 16, 1, false, 1, [(0, 5)], [0], .commit⟩,
  ⟨0x0603, 16, 1, false, 1, [(0, 1)], [1], .commit⟩,
  ⟨0x0604, 1, 1, false, 1, [(1, 15)], [3], .commit⟩]

/-- Parameters of class 0x07 (R449). -/
def dict07 : List PRow := [
  ⟨0x0701, 16, 2, false, 1, [(0, 4159), (65535, 65535)], [65535], .cycle⟩,
  ⟨0x0702, 16, 8, false, 1, [(0, 18446744073709551615)], [0], .cycle⟩,
  ⟨0x0710, 4, 1, false, 1, [(0, 6)], [0], .cycle⟩,
  ⟨0x0711, 4, 2, false, 1, [(0, 4159), (65535, 65535)], [65535], .cycle⟩,
  ⟨0x0712, 4, 8, true, 1, [(-9223372036854775808, 9223372036854775807)], [0], .cycle⟩,
  ⟨0x0713, 4, 8, true, 1, [(-9223372036854775808, 9223372036854775807)], [0], .cycle⟩,
  ⟨0x0714, 4, 8, false, 1, [(0, 1000000000000)], [0], .cycle⟩,
  ⟨0x0715, 4, 1, false, 1, [(0, 2)], [0], .cycle⟩,
  ⟨0x0720, 1, 1, false, 1, [(0, 100)], [10], .cycle⟩]

/-- Parameters of class 0x08 (R449). -/
def dict08 : List PRow := [
  ⟨0x0801, 16, 1, false, 1, [(0, 1)], [0], .commit⟩,
  ⟨0x0802, 16, 2, false, 1, [(0, 20000)], [1000], .commit⟩,
  ⟨0x0803, 16, 1, false, 1, [(0, 1)], [0], .commit⟩,
  ⟨0x0810, 8, 1, false, 1, [(0, 2)], [0], .commit⟩,
  ⟨0x0820, 1, 2, false, 1, [(5, 1000)], [50], .commit⟩,
  ⟨0x0821, 1, 1, false, 1, [(0, 1)], [0], .commit⟩]

/-- Parameters of class 0x09 (R449). -/
def dict09 : List PRow := [
  ⟨0x0901, 2, 1, false, 1, [(0, 3)], [0], .commit⟩,
  ⟨0x0902, 2, 2, false, 1, [(10, 1000)], [500], .commit⟩,
  ⟨0x0903, 2, 2, false, 1, [(0, 0), (500, 8000)], [2000], .commit⟩,
  ⟨0x0904, 2, 2, false, 1, [(500, 900)], [800], .commit⟩,
  ⟨0x0905, 2, 2, false, 1, [(500, 900)], [750], .commit⟩,
  ⟨0x0906, 2, 0, false, 0, [(0, 255)], objectsDefault, .commit⟩]

/-- Parameters of class 0x0A (R449). -/
def dict0A : List PRow := [
  ⟨0x0A01, 4, 1, false, 1, [(0, 255)], [0], .ro⟩,
  ⟨0x0A02, 4, 2, false, 1, [(0, 65535)], [100], .ro⟩,
  ⟨0x0A03, 1, 2, false, 1, [(0, 65535)], [20], .ro⟩,
  ⟨0x0A04, 1, 2, false, 1, [(0, 65535)], [20], .ro⟩,
  ⟨0x0A10, 1, 4, false, 1, [(0, 4294967295)], [0], .ro⟩]

/-- Parameters of class 0x0B (R449). -/
def dict0B : List PRow := [
  ⟨0x0B01, 1, 2, false, 1, [(5, 50)], [15], .commit⟩,
  ⟨0x0B10, 1, 2, false, 1, [(0, 65535)], [800], .ro⟩,
  ⟨0x0B11, 1, 4, false, 1, [(0, 4294967295)], [8000], .ro⟩,
  ⟨0x0B12, 48, 2, true, 1, [(-32768, 32767)], [0], .ro⟩,
  ⟨0x0B13, 1, 4, false, 1, [(0, 4294967295)], [0], .ro⟩]

/-- Parameters of class 0x0C (R449). -/
def dict0C : List PRow := [
  ⟨0x0C01, 4, 1, false, 1, [(0, 1), (128, 159)], [0], .commit⟩,
  ⟨0x0C02, 4, 8, true, 1, [(1, 4611686018427387904)], [4294967296], .commit⟩,
  ⟨0x0C03, 4, 1, false, 1, [(0, 254)], [0], .commit⟩,
  ⟨0x0C04, 4, 1, false, 1, [(1, 64)], [4], .commit⟩,
  ⟨0x0C10, 4, 4, false, 1, [(1, 1048576)], [1000], .commit⟩,
  ⟨0x0C20, 4, 4, false, 1, [(0, 4294967295)], [0], .ro⟩,
  ⟨0x0C21, 4, 4, false, 1, [(0, 4294967295)], [0], .ro⟩,
  ⟨0x0C22, 4, 4, false, 1, [(0, 4294967295)], [0], .ro⟩]

/-- Parameters of class 0x0D (R449). -/
def dict0D : List PRow := [
  ⟨0x0D01, 64, 4, false, 4, [(0, 4294967295)], List.replicate 4 0, .ro⟩]

/-- Parameters of class 0x0E (R449). -/
def dict0E : List PRow := [
  ⟨0x0E01, 8, 1, false, 8, [(0, 31), (255, 255)], List.replicate 8 255, .commit⟩,
  ⟨0x0E02, 8, 4, true, 8, [(256, 16777216)], List.replicate 8 65536, .commit⟩,
  ⟨0x0E03, 8, 8, true, 1, [(1, 9223372036854775807)], [214748364800], .commit⟩,
  ⟨0x0E04, 8, 8, true, 1, [(1, 9223372036854775807)], [2147483648000], .commit⟩,
  ⟨0x0E05, 8, 8, true, 1, [(1, 9223372036854775807)], [2147483648000], .commit⟩,
  ⟨0x0E06, 8, 8, true, 1, [(1, 9223372036854775807)], [214748364800000], .commit⟩,
  ⟨0x0E07, 8, 8, true, 1, [(1, 9223372036854775807)], [2147483648000], .commit⟩,
  ⟨0x0E08, 8, 8, true, 1, [(1, 9223372036854775807)], [8589934592000], .commit⟩,
  ⟨0x0E09, 8, 1, false, 1, [(0, 2)], [0], .commit⟩,
  ⟨0x0E0A, 8, 8, false, 1, [(0, 4294967296)], [16777216], .commit⟩,
  ⟨0x0E0B, 8, 8, false, 1, [(0, 4294967296)], [65536], .commit⟩,
  ⟨0x0E10, 8, 4, false, 1, [(0, 4294967295)], [0], .ro⟩]

/-- Parameters of class 0x20 (R449). -/
def dict20 : List PRow := [
  ⟨0x2001, 32, 1, false, 1, [(0, 3)], [0], .commit⟩,
  ⟨0x2002, 32, 1, false, 1, [(1, 255)], [4], .commit⟩,
  ⟨0x2003, 32, 4, false, 1, [(1, 1000000)], [1000], .commit⟩,
  ⟨0x2004, 32, 4, false, 1, [(1, 1000000)], [3000], .commit⟩,
  ⟨0x2005, 32, 4, false, 1, [(1, 1000000)], [1000], .commit⟩,
  ⟨0x2006, 32, 4, false, 1, [(1, 4000000000)], [1000000], .commit⟩,
  ⟨0x2007, 32, 4, false, 1, [(1, 4000000000)], [1000000], .commit⟩,
  ⟨0x2008, 32, 4, false, 1, [(0, 10000000)], [100000], .commit⟩]

/-- Parameters of class 0x21 (R449). -/
def dict21 : List PRow := [
  ⟨0x2101, 32, 4, true, 1, [(0, 16777216)], [32768], .commit⟩,
  ⟨0x2102, 32, 4, true, 1, [(0, 2147483647)], [6553600], .commit⟩,
  ⟨0x2103, 32, 4, true, 1, [(0, 65536)], [65536], .commit⟩,
  ⟨0x2104, 32, 4, true, 1, [(0, 65536)], [65536], .commit⟩,
  ⟨0x2105, 32, 2, true, 1, [(0, 32767)], [16384], .commit⟩,
  ⟨0x2106, 32, 1, false, 1, [(0, 2)], [0], .commit⟩]

/-- Parameters of class 0x22 (R449). -/
def dict22 : List PRow := [
  ⟨0x2201, 32, 2, false, 1, [(10, 10000)], [500], .commit⟩,
  ⟨0x2202, 32, 1, false, 1, [(5, 90)], [50], .commit⟩,
  ⟨0x2203, 32, 4, true, 1, [(655, 32768)], [3277], .commit⟩,
  ⟨0x2204, 32, 2, true, 1, [(0, 4096)], [0], .commit⟩,
  ⟨0x2210, 32, 4, false, 1, [(0, 4294967295)], [1000], .ro⟩,
  ⟨0x2211, 32, 4, false, 1, [(0, 4294967295)], [1000000], .ro⟩,
  ⟨0x2212, 32, 4, false, 1, [(0, 4294967295)], [1000000], .ro⟩,
  ⟨0x2213, 32, 4, false, 1, [(0, 4294967295)], [100000], .ro⟩,
  ⟨0x2214, 32, 2, false, 1, [(0, 65535)], [15], .ro⟩,
  ⟨0x2215, 32, 4, false, 1, [(0, 4294967295)], [100], .ro⟩]

/-- Parameters of class 0x23 (R449). -/
def dict23 : List PRow := [
  ⟨0x2301, 32, 4, true, 1, [(0, 2147483647)], [65536], .commit⟩,
  ⟨0x2302, 32, 4, true, 1, [(0, 2147483647)], [1048576], .commit⟩,
  ⟨0x2303, 32, 4, true, 1, [(0, 131072)], [0], .commit⟩,
  ⟨0x2304, 32, 4, true, 5, [(-2147483648, 2147483647)], [1073741824, 0, 0, 0, 0], .commit⟩,
  ⟨0x2305, 32, 4, true, 5, [(-2147483648, 2147483647)], [1073741824, 0, 0, 0, 0], .commit⟩,
  ⟨0x2306, 32, 4, true, 5, [(-2147483648, 2147483647)], [1073741824, 0, 0, 0, 0], .commit⟩,
  ⟨0x2307, 32, 4, true, 5, [(-2147483648, 2147483647)], [1073741824, 0, 0, 0, 0], .commit⟩,
  ⟨0x2308, 32, 1, false, 1, [(0, 15)], [0], .commit⟩,
  ⟨0x2309, 32, 8, true, 1, [(1, 140737488355328)], [214748364800], .commit⟩,
  ⟨0x230A, 32, 4, false, 1, [(1, 4000000000)], [100], .commit⟩,
  ⟨0x230B, 32, 2, false, 1, [(10, 5000)], [200], .commit⟩,
  ⟨0x230C, 32, 2, true, 1, [(0, 32767)], [32767], .commit⟩]

/-- Parameters of class 0x24 (R449). -/
def dict24 : List PRow := [
  ⟨0x2401, 32, 4, true, 1, [(0, 2147483647)], [3276800], .commit⟩,
  ⟨0x2402, 32, 4, true, 1, [(0, 65536)], [65536], .commit⟩,
  ⟨0x2403, 32, 8, false, 1, [(0, 281474976710656)], [4294967296], .commit⟩]

/-- Parameters of class 0x25 (R449). -/
def dict25 : List PRow := [
  ⟨0x2501, 32, 1, false, 1, [(0, 2)], [2], .commit⟩,
  ⟨0x2502, 32, 4, false, 1, [(1, 1048576)], [2048], .commit⟩,
  ⟨0x2503, 32, 1, false, 1, [(0, 2)], [0], .commit⟩,
  ⟨0x2504, 32, 2, false, 1, [(0, 1000)], [10], .commit⟩,
  ⟨0x2505, 32, 8, false, 1, [(0, 1099511627776)], [16777216], .commit⟩,
  ⟨0x2506, 32, 2, false, 1, [(1, 1000)], [8], .commit⟩,
  ⟨0x2507, 32, 4, false, 1, [(1, 1048576)], [1024], .commit⟩,
  ⟨0x2508, 32, 2, false, 1, [(1, 65535)], [1], .commit⟩,
  ⟨0x2509, 32, 1, false, 1, [(0, 1)], [0], .commit⟩,
  ⟨0x250A, 32, 2, true, 1, [(-8192, 8192)], [0], .commit⟩,
  ⟨0x250B, 32, 2, true, 1, [(-8192, 8192)], [0], .commit⟩,
  ⟨0x250C, 32, 4, true, 1, [(49152, 81920)], [65536], .commit⟩,
  ⟨0x250D, 32, 4, true, 1, [(-268435456, 268435456)], [0], .commit⟩,
  ⟨0x250E, 32, 1, false, 1, [(0, 1)], [0], .commit⟩,
  ⟨0x250F, 32, 2, true, 1, [(1024, 32767)], [6554], .commit⟩,
  ⟨0x2510, 32, 2, true, 1, [(1024, 32767)], [32767], .commit⟩,
  ⟨0x2511, 32, 4, false, 1, [(1000, 2000000)], [500000], .commit⟩,
  ⟨0x2512, 32, 1, false, 1, [(0, 3)], [1], .commit⟩,
  ⟨0x2513, 32, 4, false, 1, [(0, 4294967295)], [0], .commit⟩,
  ⟨0x2514, 32, 4, false, 1, [(0, 4294967295)], [0], .commit⟩,
  ⟨0x2515, 32, 8, true, 1, [(-9223372036854775808, 9223372036854775807)], [0], .commit⟩,
  ⟨0x2516, 32, 8, false, 1, [(0, 4294967296)], [8388608], .commit⟩,
  ⟨0x2517, 32, 1, false, 1, [(0, 1)], [0], .now⟩,
  ⟨0x2518, 32, 4, true, 4, [(-2147483648, 2147483647)], [0, 0, 65536, 0], .ro⟩,
  ⟨0x2519, 32, 4, false, 1, [(0, 4294967295)], [0], .ro⟩,
  ⟨0x2520, 32, 4, false, 1, [(0, 4294967295)], [255], .commit⟩,
  ⟨0x2521, 32, 4, false, 1, [(0, 4294967295)], [255], .commit⟩,
  ⟨0x2522, 32, 32, false, 1, [(0, 115792089237316195423570985008687907853269984665640564039457584007913129639935)], [0], .ro⟩,
  ⟨0x2523, 32, 32, false, 1, [(0, 115792089237316195423570985008687907853269984665640564039457584007913129639935)], [0], .ro⟩]

/-- Parameters of class 0x26 (R449). -/
def dict26 : List PRow := [
  ⟨0x2601, 32, 8, true, 1, [(1, 9223372036854775807)], [214748364800], .commit⟩,
  ⟨0x2602, 32, 8, true, 1, [(1, 9223372036854775807)], [2147483648000], .commit⟩,
  ⟨0x2603, 32, 8, true, 1, [(1, 9223372036854775807)], [2147483648000], .commit⟩,
  ⟨0x2604, 32, 8, true, 1, [(1, 9223372036854775807)], [214748364800000], .commit⟩,
  ⟨0x2605, 32, 8, true, 1, [(1, 9223372036854775807)], [2147483648000], .commit⟩,
  ⟨0x2606, 32, 8, true, 1, [(1, 9223372036854775807)], [8589934592000], .commit⟩,
  ⟨0x2607, 32, 1, false, 1, [(0, 2)], [0], .commit⟩,
  ⟨0x2608, 32, 8, false, 1, [(0, 4294967296)], [16777216], .commit⟩,
  ⟨0x2609, 32, 2, false, 1, [(10, 10000)], [200], .commit⟩,
  ⟨0x260A, 32, 8, false, 1, [(0, 4294967296)], [16777216], .commit⟩,
  ⟨0x260B, 32, 2, false, 1, [(10, 60000)], [2000], .commit⟩,
  ⟨0x260C, 32, 8, true, 1, [(-9223372036854775808, 9223372036854775807)], [-9223372036854775808], .commit⟩,
  ⟨0x260D, 32, 8, true, 1, [(-9223372036854775808, 9223372036854775807)], [9223372036854775807], .commit⟩,
  ⟨0x2610, 32, 4, false, 1, [(0, 4294967295)], [0], .ro⟩]

/-- Parameters of class 0x27 (R449). -/
def dict27 : List PRow := [
  ⟨0x2701, 32, 1, false, 1, [(0, 5)], [5], .commit⟩,
  ⟨0x2702, 32, 8, true, 1, [(1, 9223372036854775807)], [2147483648], .commit⟩,
  ⟨0x2703, 32, 8, true, 1, [(1, 9223372036854775807)], [268435456], .commit⟩,
  ⟨0x2704, 32, 8, true, 1, [(-9223372036854775808, 9223372036854775807)], [0], .commit⟩,
  ⟨0x2705, 32, 1, false, 1, [(0, 1)], [0], .commit⟩,
  ⟨0x2706, 32, 1, false, 1, [(0, 255)], [255], .commit⟩,
  ⟨0x2707, 32, 2, true, 1, [(256, 32767)], [4096], .commit⟩,
  ⟨0x2708, 32, 2, false, 1, [(1, 10000)], [50], .commit⟩,
  ⟨0x2709, 32, 8, false, 1, [(0, 18446744073709551615)], [429496729600], .commit⟩,
  ⟨0x2710, 32, 4, false, 1, [(0, 4294967295)], [0], .ro⟩]

/-- Parameters of class 0x28 (R449). -/
def dict28 : List PRow := [
  ⟨0x2801, 32, 2, false, 1, [(0, 10000)], [200], .commit⟩,
  ⟨0x2802, 32, 1, false, 1, [(0, 255)], [8], .commit⟩,
  ⟨0x2803, 32, 2, false, 1, [(1, 10000)], [100], .commit⟩,
  ⟨0x2804, 32, 2, false, 1, [(1, 60000)], [500], .commit⟩,
  ⟨0x2805, 32, 1, false, 1, [(0, 255)], [255], .commit⟩,
  ⟨0x2806, 32, 1, false, 1, [(0, 255)], [255], .commit⟩,
  ⟨0x2807, 32, 1, false, 1, [(0, 7)], [3], .commit⟩]

/-- Parameters of class 0x29 (R449). -/
def dict29 : List PRow := [
  ⟨0x2901, 32, 4, false, 1, [(0, 4294967295)], [0], .commit⟩,
  ⟨0x2902, 32, 4, true, 1, [(-2147483648, 2147483647)], [1], .commit⟩,
  ⟨0x2903, 32, 4, false, 1, [(1, 4294967295)], [1], .commit⟩,
  ⟨0x2904, 32, 8, false, 1, [(0, 1099511627776)], [1073741824], .commit⟩,
  ⟨0x2905, 32, 1, false, 1, [(0, 2)], [0], .commit⟩,
  ⟨0x2910, 32, 4, false, 1, [(0, 4294967295)], [0], .ro⟩]

/-- Parameters of class 0x2A (R449). -/
def dict2A : List PRow := [
  ⟨0x2A01, 32, 2, false, 1, [(0, 60000)], [500], .commit⟩,
  ⟨0x2A02, 32, 1, false, 1, [(0, 100)], [50], .commit⟩,
  ⟨0x2A03, 32, 2, true, 1, [(16, 8192)], [1024], .commit⟩,
  ⟨0x2A04, 32, 4, true, 1, [(0, 32768)], [8192], .commit⟩,
  ⟨0x2A05, 32, 4, false, 1, [(67108864, 1073741823)], [715827883], .commit⟩,
  ⟨0x2A06, 32, 1, false, 1, [(0, 255)], [0], .commit⟩]

/-- Parameters of class 0x2B (R449). -/
def dict2B : List PRow := [
  ⟨0x2B01, 32, 1, false, 1, [(0, 3)], [0], .commit⟩,
  ⟨0x2B02, 32, 4, false, 1, [(4000, 1000000)], [125000], .commit⟩,
  ⟨0x2B03, 32, 4, false, 1, [(0, 1000000)], [8000], .commit⟩,
  ⟨0x2B04, 32, 4, false, 1, [(0, 1000000)], [8000], .commit⟩,
  ⟨0x2B05, 32, 4, false, 1, [(0, 8000)], [4000], .commit⟩,
  ⟨0x2B06, 32, 4, false, 1, [(0, 20000)], [800], .commit⟩,
  ⟨0x2B07, 32, 1, false, 1, [(0, 1)], [0], .commit⟩,
  ⟨0x2B08, 32, 2, true, 1, [(0, 8192)], [256], .commit⟩,
  ⟨0x2B10, 32, 8, false, 1, [(0, 18446744073709551615)], [0], .now⟩,
  ⟨0x2B11, 32, 8, false, 1, [(0, 18446744073709551615)], [0], .now⟩]

/-- Parameters of class 0x2C (R449). -/
def dict2C : List PRow := [
  ⟨0x2C01, 32, 1, false, 1, [(0, 1)], [1], .now⟩,
  ⟨0x2C10, 32, 1, false, 1, [(0, 255)], [0], .ro⟩,
  ⟨0x2C11, 32, 4, false, 1, [(0, 4294967295)], [0], .ro⟩,
  ⟨0x2C12, 32, 4, false, 1, [(0, 4294967295)], [0], .ro⟩,
  ⟨0x2C13, 32, 4, false, 1, [(0, 4294967295)], [0], .ro⟩,
  ⟨0x2C14, 32, 1, false, 1, [(0, 255)], [0], .ro⟩]

/-- Parameters of class 0x2D (R449). -/
def dict2D : List PRow := [
  ⟨0x2D01, 32, 2, false, 1, [(0, 10000)], [20], .commit⟩,
  ⟨0x2D02, 32, 2, true, 1, [(-32767, 32767)], [0], .cycle⟩]

/-- The table of a class (R449); classes without one hold no number. -/
def dictOf (cls : Nat) : List PRow :=
  match cls with
  | 0x01 => dict01
  | 0x02 => dict02
  | 0x03 => dict03
  | 0x04 => dict04
  | 0x05 => dict05
  | 0x06 => dict06
  | 0x07 => dict07
  | 0x08 => dict08
  | 0x09 => dict09
  | 0x0A => dict0A
  | 0x0B => dict0B
  | 0x0C => dict0C
  | 0x0D => dict0D
  | 0x0E => dict0E
  | 0x20 => dict20
  | 0x21 => dict21
  | 0x22 => dict22
  | 0x23 => dict23
  | 0x24 => dict24
  | 0x25 => dict25
  | 0x26 => dict26
  | 0x27 => dict27
  | 0x28 => dict28
  | 0x29 => dict29
  | 0x2A => dict2A
  | 0x2B => dict2B
  | 0x2C => dict2C
  | 0x2D => dict2D
  | _ => []

/-- The row of a number, if its class holds it (R447). -/
def rowOf (key : Nat) : Option PRow := (dictOf (key / 256)).find? (fun r => r.key = key)

/-- The Default column, or the Reset value of a read-only parameter (R453). -/
def dfltOf (key : Nat) : List Int :=
  match rowOf key with
  | some r => r.dflt
  | none => []

/-- Value of a parameter in a bank. -/
def bankGet (b : Bank) (key inst : Nat) : List Int := alGet (dfltOf key) (key * 256 + inst) b

/-- Write a parameter into a bank, which lists only values that differ from the default. -/
def bankSet (b : Bank) (key inst : Nat) (v : List Int) : Bank := alSet (dfltOf key) (key * 256 + inst) v b

/-- An element lies in one of the ranges (R451). -/
def inRanges (rs : List (Int × Int)) (x : Int) : Bool := rs.any (fun r => decide (r.1 ≤ x ∧ x ≤ r.2))

/-- A switch source code of R248. -/
def switchSrcOk (x : Int) : Bool := decide ((0 ≤ x ∧ x ≤ 0x12) ∨ x = 0xFF)

/-- A latch configuration whose codes are listed and whose reserved bits are 0 (R260). -/
def latchCfgOk (x : Nat) : Bool :=
  let src := fieldOf x 0 8
  decide ((8 ≤ src ∧ src ≤ 0x12) ∨ src = 0xFF) && decide (fieldOf x 8 2 ≠ 3) && decide (fieldOf x 11 2 ≠ 3)
    && decide (x / 2 ^ 16 = 0)

/-- A master code without reserved values (R286). -/
def masterOk (x : Nat) : Bool :=
  let kind := fieldOf x 0 8
  let idx := fieldOf x 8 8
  let node := fieldOf x 16 8
  decide (x / 2 ^ 24 = 0) &&
    (if kind = 0 then decide (node = 0)
     else if kind = 1 then decide (idx ≤ 3 ∧ node = 0)
     else if kind ≤ 3 then decide (idx ≤ 31 ∧ node = 0)
     else decide (kind = 4 ∧ idx ≤ 31 ∧ node ≤ 254))

/-- Checks beside the ranges: codes and reserved bits of packed values (R451). -/
def packedOk (key : Nat) (x : Int) : Bool :=
  if key = pAxLimPosSrc ∨ key = pAxLimNegSrc ∨ key = pAxHomeSwitchSrc then switchSrcOk x
  else if key = pAxFbLatch0Cfg ∨ key = pAxFbLatch1Cfg then latchCfgOk x.toNat
  else if key = pAxGearMaster then masterOk x.toNat
  else if key = pAxPwmTestPeriod ∨ key = pAxPwmTestOn then
    decide (fieldOf x.toNat 24 8 = 0 ∧ fieldOf x.toNat 48 16 = 0)
  else if key = pHostRingPort then
    [0, 2, 4, 6].all (fun o => decide (fieldOf x.toNat o 2 ≠ 3))
  else if key = pCycTileAssign then
    [0, 8, 16, 24, 32, 40, 48, 56].all (fun o => decide (fieldOf x.toNat o 8 < 32 ∨ fieldOf x.toNat o 8 = 255))
  else true

/-- One element of a parameter is in range (R451). -/
def elemOk (r : PRow) (x : Int) : Bool := inRanges r.ranges x && packedOk r.key x

/-- Elements of a value list from its bytes (R434, R450). -/
def elemsOf (r : PRow) (l : List Byte) (cnt : Nat) : List Int :=
  (chunks r.sz cnt l).map (fun c => if r.signed then ofLES c else (ofLE c : Int))

/-- Bytes of one value. -/
def valueBytes (r : PRow) (v : List Int) : List Byte :=
  if r.n = 0 then v.map (fun x => BitVec.ofInt 8 x) else (v.map (toLE r.sz)).flatten

/-- Index of the first element that is out of range. -/
def firstBad (r : PRow) : Nat → List Int → Option Nat
  | _, [] => none
  | i, x :: t => if elemOk r x then firstBad r (i + 1) t else some i

end Sys2Proof.Machine
end

