-- ==== Sys2Proof/Machine/StateAxis.lean ====
section
/-! DEFINITION. State of one axis and of one group: link, feedback, current, velocity and position stages, modes, moves,
homing, latches and gear, as plain data. The default of every field is its value at reset (INVENTORY.md). -/

namespace Sys2Proof.Machine

/-- The fields of an accepted upstream frame (R79, R82). -/
structure UpFrame where
  type : Nat := 0
  statA : Nat := 0
  seq : Nat := 0
  statB : Nat := 0
  dnErr : Nat := 0
  temp : Int := 0
  turnaround : Nat := 0
  indexTs : Int := -(2 ^ 31)
  reg0Ts : Int := -(2 ^ 31)
  reg1Ts : Int := -(2 ^ 31)
  quad : Nat := 0
  hallIo : Nat := 0
  sin : Int := 0
  cos : Int := 0
  iU : Int := 0
  iV : Int := 0
  iW : Int := 0
  vBus : Int := 0
  vU : Int := 0
  vV : Int := 0
  vW : Int := 0
  iMeanA : Int := 0
  iMeanB : Int := 0
  chopA : Nat := 0
  chopB : Nat := 0
  tripTs : Int := -(2 ^ 31)
  tMotor : Int := -(2 ^ 15)
  aux0 : Int := 0
  aux1 : Int := 0
  sideAddr : Nat := 0
  sideData : Nat := 0
  deriving DecidableEq, Repr

/-- The carrier fields of a downstream frame (R74, R117). Times in 250 ps. -/
structure Carrier where
  kind : Nat := 0
  dead : Nat := 0
  period : Nat := 0
  /-- U_ON, U_OFF, V_ON, V_OFF, W_ON, W_OFF; MIN_ON and MIN_OFF in chopper mode. -/
  edges : List Nat := [0, 0, 0, 0, 0, 0]
  bridge : Nat := 0
  /-- A_HI, A_LO, B_HI, B_LO. -/
  chop : List Int := [0, 0, 0, 0]
  deriving DecidableEq, Repr

/-- A TRIP_CLEAR sequence (R126). -/
structure TripClear where
  req : ReqRef
  slot : Nat
  framesSent : Nat
  /-- The acknowledgement came less than 5 ns before the window opened: the frame of this cycle is not its first (R610). -/
  hold : Bool := false
  /-- The frame built in this cycle is one of its frames. -/
  inFrame : Bool := false
  deriving DecidableEq, Repr

/-- Link states of R65. -/
inductive LinkState where
  | down
  | listen
  | train
  | measure
  | ready
  | run
  deriving DecidableEq, Repr

/-- One axis link (03_axis_link.md). -/
structure Link where
  st : LinkState := .down
  wakes : Nat := 0
  exchanges : Nat := 0
  errorFree : Nat := 0
  trainFails : Nat := 0
  measCount : Nat := 0
  measAccepted : Nat := 0
  seq : Word16 := 0
  /-- SEQ of the frame whose answer is expected. -/
  expect : Word16 := 0
  /-- TYPE of that answer, and the body of the last frame sent (R86, R88, R306). -/
  expType : Nat := 0x92
  dnRaw : List Byte := []
  /-- Registers 0x00-0x0C read in the present pass through MEASURE (R84). -/
  idRegs : List (Nat × Nat) := []
  idRot : Nat := 0
  /-- Kept delay samples, newest first, in 2^-17 ns; the estimate d and the value in use in the same unit (R71). -/
  samples : List Int := []
  dEst : Option Rat := none
  dUse : Rat := 0
  discards : Nat := 0
  /-- FT stamp D of the last downstream frame in 2^-16 ns. -/
  dStamp : Option Int := none
  up : Option UpFrame := none
  /-- The 80 bytes of that frame, as the axis area holds them (R306). -/
  upRaw : List Byte := []
  /-- An upstream frame has been accepted since the link entered READY (R124). -/
  sinceReady : Bool := false
  fresh : Bool := false
  lost : Bool := false
  late : Bool := false
  lostRun : Nat := 0
  /-- Thresholds of R89 already reported in this run of losses. -/
  lostRep : Nat := 0
  lostTimes : List Nat := []
  lostCount : Nat := 0
  crcCount : Nat := 0
  rateOver : Bool := false
  ctle : Nat := 0
  dfe : List Int := [0, 0, 0]
  deemph : Nat := 0
  fastAdapt : Nat := 0
  eyePct : Nat := 0
  eyeLowSince : Option Nat := none
  eyeRep : Bool := false
  /-- Announced sample instant (FT ns) and length of the virtual cycle (R69). -/
  virt : Option (Int × Nat) := none
  stoSince : List (Option Nat) := [none, none]
  stoRep : Bool := false
  /-- Running TRIP clears, one for each record acknowledged (R126). -/
  tripClear : List TripClear := []
  offLost : Bool := false
  statBPrev : Nat := 0
  deriving DecidableEq, Repr

/-- The downstream frame of an axis (R74, R75). -/
structure DnFrame where
  type : Nat := 0x11
  enable : Bool := false
  tripClear : Bool := false
  rep : Bool := false
  arm0 : Bool := false
  arm1 : Bool := false
  car : Carrier := {}
  sideAddr : Nat := 0
  /-- Built in the cycle and not sent. -/
  built : Bool := false
  deriving DecidableEq, Repr

/-- Modulation and test mode (04_pwm_edges.md). -/
structure Mod where
  vlim : Bool := false
  pulseClamp : Bool := false
  pulseDrop : Bool := false
  /-- Running test pair: generation, period and on-time in 250 ps. -/
  pair : Nat × Nat × Nat := (0, 0, 0)
  pairSplit : Bool := false
  pairBad : Bool := false
  deriving DecidableEq, Repr

/-- The recursive least squares estimator of the electrical parameters (R148-R154). -/
structure IdState where
  /-- R_s in Ohm, L_d and L_q in H, psi in Wb. -/
  est : List Rat := [1, 1 / 1000, 1 / 1000, 1 / 10]
  /-- P of R148 by rows; empty stands for its starting value. -/
  p : List (List Rat) := []
  /-- Parameters in use by the loops, in the same units. -/
  used : List Rat := [1, 1 / 1000, 1 / 1000, 1 / 10]
  exc : List Rat := [0, 0, 0, 0]
  frozen : Nat := 0xF
  bound : Nat := 0
  boundSince : List (Option Nat) := [none, none, none, none]
  updated : Bool := false
  slewing : Bool := false
  /-- Phase of the injection's square wave, 0-15 computed cycles (R151). -/
  injCount : Nat := 0
  /-- Consecutive computed cycles, and per cycle c - 1, c - 2 whether ENABLE was 1 and a pulse was clamped or dropped. -/
  run : Nat := 0
  en1 : Bool := false
  en2 : Bool := false
  pulse1 : Bool := false
  pulse2 : Bool := false
  wPrev : Int := 0
  /-- ID_BOUND has been raised and its condition holds (R153, R609). -/
  boundRep : Bool := false
  deriving DecidableEq, Repr

/-- Stepper drive (R142-R147). -/
structure Stepper where
  offA : Int := 0
  offB : Int := 0
  prevRefA : Int := 0
  prevRefB : Int := 0
  prevHiA : Int := 0
  prevHiB : Int := 0
  load : Int := 0
  travel : Int := 0
  stallRun : Nat := 0
  holdSince : Option Nat := none
  holding : Bool := false
  rampStep : Nat := 0
  lastDir : Int := 0
  /-- Reference angle of the last computed cycle, for the travel of R147. -/
  lastTheta : Int := 0
  /-- The thresholds sent were built in the cycle before, from a frame that left (R144). -/
  prevSent : Bool := false
  chopWeak : Bool := false
  stallCnt : Bool := false
  iAmp : Int := 0
  /-- Residual winding references that a switch to or from open-loop blends out, and its count (R181). -/
  blA : Int := 0
  blB : Int := 0
  blJ : Nat := 0
  blN : Nat := 0
  blPend : Bool := false
  /-- The last computed cycle added a residual (R179, R181). -/
  blend : Bool := false
  /-- Thresholds of the last computed cycle, for trace (R156). -/
  chop : List Int := [0, 0, 0, 0]
  deriving DecidableEq, Repr

/-- Current stage (05_current_control.md). -/
structure Cur where
  intD : Int := 0
  intQ : Int := 0
  vbusEn : Option Int := none
  coefReady : Bool := false
  iD : Int := 0
  iQ : Int := 0
  iDPrev : Int := 0
  iQPrev : Int := 0
  /-- i_q reference of the cycle before, for the observer of a stepper (R170). -/
  refQPrev : Int := 0
  refD : Int := 0
  refQ : Int := 0
  vD : Int := 0
  vQ : Int := 0
  vDPrev : Int := 0
  vQPrev : Int := 0
  /-- f x v of two cycles before the present one, which the estimator pairs (R148). -/
  vDPrev2 : Int := 0
  vQPrev2 : Int := 0
  vAlpha : Int := 0
  vBeta : Int := 0
  iZero : Int := 0
  /-- I_U, I_V, I_W and V_BUS of the last computed cycle, for trace. -/
  raw : List Int := [0, 0, 0, 0]
  vDFf : Int := 0
  vQFf : Int := 0
  /-- Bus factor in Q16.16. -/
  bus : Int := 0x10000
  iSumOver : Bool := false
  overCur : Bool := false
  iLimHit : Bool := false
  inject : Bool := false
  /-- Voltages of step 5 before the bus factor, for trace, and increments held for step 8. -/
  vDRaw : Int := 0
  vQRaw : Int := 0
  incD : Int := 0
  incQ : Int := 0
  ocRun : Nat := 0
  isumRun : Nat := 0
  flags : Nat := 0
  id : IdState := {}
  stp : Stepper := {}
  deriving DecidableEq, Repr

/-- One biquad's memory (R165). -/
structure BqMem where
  x1 : Int := 0
  x2 : Int := 0
  y1 : Int := 0
  y2 : Int := 0
  deriving DecidableEq, Repr

/-- Velocity and position stages, observer and inertia estimate (06_velocity_position.md). -/
structure Vel where
  eP : Int := 0
  eV : Int := 0
  vRef : Int := 0
  aRef : Int := 0
  intV : Int := 0
  bq : List BqMem := [{}, {}, {}, {}]
  u : Int := 0
  uF : Int := 0
  iFf : Int := 0
  iQRef : Int := 0
  rho : Int := 0
  blendJ : Nat := 0
  blendN : Nat := 0
  ferrRun : Nat := 0
  overRun : Nat := 0
  plausRun : Nat := 0
  predict : Nat := 0
  pHat : Int := 0
  vHat : Int := 0
  dHat : Int := 0
  innov : Int := 0
  jEst : Rat := 100
  jB : Rat := 0
  jP : List (List Rat) := []
  jUsed : Rat := 100
  jExc : Rat := 0
  jFrozen : Bool := true
  jBound : Bool := false
  jBoundSince : Option Nat := none
  jUpdated : Bool := false
  jSum : Int := 0
  jCount : Nat := 0
  vPrevFb : Int := 0
  /-- Every cycle since the last velocity cycle was computed with ENABLE = 1 (R174). -/
  jWhole : Bool := false
  velLim : Bool := false
  awHold : Bool := false
  blend : Bool := false
  switch : Bool := false
  ferrHi : Bool := false
  plausHi : Bool := false
  overHi : Bool := false
  /-- Increment that waits for its commit, with u (R166). -/
  incV : Option (Int × Int) := none
  /-- i_q reference to hand over in the switch cycle (R178, R180). -/
  hand : Option Int := none
  /-- A torque blend runs instead of a velocity blend (R180). -/
  blendTorque : Bool := false
  deriving DecidableEq, Repr

/-- A mode switch that waits for its cycle (R176). -/
structure PendSwitch where
  target : Nat
  /-- Mode before the switch, for the undo of a cycle that a takeover left uncomputed. -/
  old : Nat := 0
  /-- Number of the position cycle s. -/
  at_ : Nat
  /-- MODE_SET that completes with it; none for the hand-over of a stop. -/
  req : Option ReqRef
  /-- Moves so far (R182). -/
  moved : Nat
  /-- A preset and a hand-over are made in s. -/
  preset : Bool
  /-- The switch is made, and its cycle is to be computed. -/
  made : Bool := false
  deriving DecidableEq, Repr

/-- Feedback stage (07_feedback.md). -/
structure Fb where
  n : Int := 0
  quadLast : Nat := 0
  qOff : Int := 0
  m1 : Int := 0
  m2 : Int := 0
  /-- How many values of m exist since READY or the return from COARSE, up to 2 (R191). -/
  mCount : Nat := 0
  x : Int := 0
  coarse : Bool := false
  /-- No upstream frame has been accepted since the link entered READY (R189). -/
  first : Bool := true
  s1 : Int := 0
  c2 : Int := 0
  ampl : Int := 0
  fine : Nat := 0
  sinRaw : Int := 0
  cosRaw : Int := 0
  amplRun : Nat := 0
  /-- Adaptation of R194: values, extremes, X at the period's start, computed cycles in it, and whether it counts. -/
  oS : Int := 0
  oC : Int := 0
  g : Int := 0x10000
  maxS : Int := 0
  minS : Int := 0
  maxC : Int := 0
  minC : Int := 0
  adaptX : Int := 0
  adaptN : Nat := 0
  adaptOk : Bool := true
  pRaw : Int := 0
  pRef : Int := 0
  pFb : Int := 0
  vFb : Int := 0
  /-- FT ns of the last computed cycle, and of the one before it with p_fb - p_ref then. -/
  lastT : Option Int := none
  prevT : Option Int := none
  prevBase : Int := 0
  illegalTimes : List Nat := []
  illegalOver : Bool := false
  indexArmed : Bool := false
  indexSeen : Bool := false
  indexAny : Bool := false
  pI : Int := 0
  hall : Nat := 0
  hallRun : Nat := 0
  hallSector : Option Nat := none
  aC : Int := 0
  /-- Target angle of a method 3 alignment that the next computed cycle makes (R205). -/
  stepAlign : Option Int := none
  commCoarse : Bool := false
  commExact : Bool := false
  /-- A method 3 alignment has been made since entry to READY (R205). -/
  stepped : Bool := false
  posRange : Bool := false
  illegal : Bool := false
  amplBad : Bool := false
  thetaE : Int := 0
  deriving DecidableEq, Repr

/-- One piece of constant jerk: duration in s, jerk, and the phase of R220 that it is (0 for none). -/
structure Seg where
  dur : Rat
  jerk : Rat
  ph : Nat
  deriving DecidableEq, Repr

/-- A planned motion from a start state at time 0 (R219-R225), in units and s, exact. -/
structure Plan where
  p0 : Rat := 0
  v0 : Rat := 0
  a0 : Rat := 0
  segs : List Seg := []
  /-- Time from the origin to the last set-point formed. -/
  t : Rat := 0
  /-- The end velocity is held without end (R224). -/
  hold : Bool := false
  /-- Exact state at the end (R223). -/
  pEnd : Rat := 0
  vEnd : Rat := 0
  vPeak : Rat := 0
  deriving DecidableEq, Repr

/-- What drives the set-points (R244). -/
inductive Motion where
  | idle
  | move
  | vel
  | ramp
  | dwell
  | stop
  | qstop
  | jog
  | jogv
  | preset
  | home
  deriving DecidableEq, Repr

/-- The joint at the end of the active move (R230-R233). -/
inductive Joint where
  | exact
  | vel (v : Rat)
  | corner (n : Nat)
  deriving DecidableEq, Repr

/-- Geometry of a group's segment in path coordinates (R226-R228). -/
structure Path where
  /-- KIND of the entry. -/
  kind : Nat := 3
  src : List Rat := []
  dst : List Rat := []
  centre : Rat × Rat := (0, 0)
  /-- Signed sweep in turns, radius, and path length. -/
  sweep : Rat := 0
  radius : Rat := 0
  len : Rat := 0
  /-- Control points of a spline with its ends tripled, and its chord lengths. -/
  pts : List (List Rat) := []
  chords : List Rat := []
  deriving DecidableEq, Repr

/-- The incoming move of a corner overlap (R233). -/
structure Overlap where
  plan : Plan
  path : Path
  left : Nat
  owed : List Nat
  deriving DecidableEq, Repr

/-- Set-point of one position cycle (R40). -/
structure SetPoint where
  p : Int := 0
  v : Int := 0
  a : Int := 0
  ready : Bool := false
  deriving DecidableEq, Repr

/-- Profile engine of an axis or a group (08_motion_profiles.md). A group's plan is that of its path length. -/
structure Prof where
  queue : List (MoveReq × Nat) := []
  /-- A REPLACE that waits for the next position cycle (R234). -/
  repl : Option (MoveReq × Nat) := none
  kind : Motion := .idle
  plan : Plan := {}
  /-- The entry that runs, with its TAG, limits V, A, D, J in force, target and joint. -/
  act : Option (MoveReq × Nat) := none
  lim : List Rat := []
  goal : Int := 0
  joint : Joint := .exact
  path : Path := {}
  ovl : Option Overlap := none
  /-- TAGs that await MOVE_DONE or MOVE_DROPPED (R217), and MOVE_DONE events whose last set-point is in use next. -/
  owed : List Nat := []
  doneNext : List (Nat × Int) := []
  /-- Target velocity of a VEL entry or velocity jog. -/
  vt : Int := 0
  /-- The head entry waits for START_N or for its spline run's END; it has been seen at the head; it is released. -/
  waiting : Bool := false
  seen : Bool := false
  released : Bool := false
  late : Bool := false
  softLim : Bool := false
  /-- Slots of the records whose reaction stopped it (R240). -/
  stopRecs : List Nat := []
  jog : Option JogReq := none
  /-- LT in ns by which a velocity jog must be repeated. -/
  jogUntil : Option Nat := none
  flush : Bool := false
  replan : Bool := false
  /-- Stop asked for, to act in the next position cycle: 0 none, 1 ramp, 2 quick; and the reason that MOVE_DROPPED gives (R217, R430). -/
  stopReq : Nat := 0
  stopWhy : Nat := 0
  /-- LT in ns by which standstill must be reached (R237). -/
  stopDeadline : Option Nat := none
  offAtStill : Bool := false
  stillRun : Nat := 0
  /-- Mode for which the present set-point was preset (R177). -/
  pre : Option Nat := none
  /-- The last set-point formed; a group keeps its members' ones. -/
  sp : SetPoint := {}
  /-- Path length at the last set-point formed. -/
  s : Rat := 0
  deriving DecidableEq, Repr

/-- One switch input of an axis (R250, R251). -/
structure Switch where
  raw : Bool := false
  /-- FT in quarter ns of the latest raw edge. -/
  tE : Int := 0
  /-- FT in quarter ns of the latest evaluation of the source, and whether one has followed the one that showed the edge (R250). -/
  evalAt : Int := 0
  again : Bool := false
  /-- Debounced level. -/
  deb : Bool := false
  /-- Stamp of the accepted change, in quarter ns of FT. -/
  stamp : Int := 0
  /-- LT in ns of the accepted changes in the chatter window. -/
  changes : List Nat := []
  chatter : Bool := false
  /-- FT in quarter ns of the last return to CHATTER on leaving it. -/
  chatFrom : Int := 0
  /-- A raw change waits for its debounce time. -/
  pend : Bool := false
  /-- p_fb - p_ref interpolated to the latest raw edge, and to the stamp of the accepted change (R257). -/
  edgeBase : Int := 0
  stampBase : Int := 0
  /-- The latest raw edge waits for the pass that interpolates it. -/
  edgePend : Bool := false
  hwLimit : Bool := false
  deriving DecidableEq, Repr

/-- Homing (R253-R259). -/
structure Homing where
  phase : Nat := 0
  referenced : Bool := false
  reversed : Bool := false
  req : Option ReqRef := none
  /-- Direction in which SEARCH moves: sigma, or its opposite after the reversal. -/
  dir : Int := 1
  /-- Phase that starts once the ramp stop of the present one is at rest. -/
  next : Option Nat := none
  /-- Position of the last computed cycle and travel since acceptance. -/
  last : Int := 0
  travel : Nat := 0
  /-- LT in ns since which ILIM and standstill have held in PRESS. -/
  pressSince : Option Nat := none
  /-- Reference position less p_ref. -/
  ref : Option Int := none
  /-- The reference edge waits for the pass that interpolates it. -/
  refWait : Bool := false
  /-- FT in ns at which the phase started. -/
  since : Int := 0
  /-- The change of its input on which the phase ends has taken place in it (R254). -/
  met : Bool := false
  deriving DecidableEq, Repr

/-- One latch channel (R260-R265). -/
structure Latch where
  armed : Bool := false
  winS : Int := 0
  winE : Int := 0
  from_ : Int := 0
  time : Int := 0
  pos : Int := 0
  tidePos : Int := 0
  count : Nat := 0
  valid : Bool := false
  rising : Bool := false
  old : Bool := false
  /-- A capture of this cycle whose LATCH event is posted once the cycle counts as computed. -/
  ev : Bool := false
  /-- Armed less than 5 ns before the window opened (R610). -/
  hold : Bool := false
  prevLevel : Bool := false
  prevValid : Bool := false
  deriving DecidableEq, Repr

/-- A channel whose link has left RUN: disarmed, with no level before (R263, R264). -/
def Latch.off (l : Latch) : Latch := { l with armed := false, prevValid := false }

/-- A function of the master position that an axis follows, with the engage curve before it (R287, R290, R294). -/
structure GCurve where
  /-- 0 gear, 1 cam. -/
  kind : Nat := 0
  table : Nat := 0xFF
  num : Int := 0
  den : Nat := 1
  mS : Int := 0
  pS : Rat := 0
  xS : Int := 0
  /-- Engage from m0 over `len` master units; 0 for none. -/
  m0 : Int := 0
  len : Nat := 0
  p0 : Rat := 0
  k0 : Rat := 0
  k1 : Rat := 0
  /-- Master that it is a function of, LAND and P_TARGET of its engage, and whether p0, k0 and P_s are formed only as the master
  reaches m0, since the running function has another master (R288-R290). -/
  master : Nat := 0
  land : Nat := 0
  pTarget : Int := 0
  open_ : Bool := false
  deriving DecidableEq, Repr

/-- Gear or cam of an axis (R286-R298). -/
structure Gear where
  /-- 0 OFF, 1 WAIT, 2 ENGAGING, 3 SYNCED. -/
  st : Nat := 0
  /-- Master that the last engage named. -/
  master : Nat := 0
  /-- The running function, and the engage that follows it. -/
  run : GCurve := {}
  next : Option GCurve := none
  /-- Engage to be fixed at the switch cycle (R289). -/
  want : Option (GearReq × Option ReqRef) := none
  camSlope : Bool := false
  /-- MASTER_STALE is raised and has not ended (R286). -/
  masterStale : Bool := false
  /-- TAG of the GEAR_ENGAGE or MODE_SET that was fixed last. -/
  tag : Nat := 0
  /-- M, V_M and A_M in use, and u in Q1.31. -/
  m : Int := 0
  vM : Rat := 0
  aM : Rat := 0
  u : Int := 0
  /-- Position of the master of the next engage. -/
  mNext : Int := 0
  deriving DecidableEq, Repr

/-- What records publish of an axis: its latest computed cycle whose tile window closed (R283). -/
structure PubSnap where
  /-- Start of that cycle in FT ns. -/
  t : Int := 0
  p : Int := 0
  v : Int := 0
  pSet : Int := 0
  vSet : Int := 0
  deriving DecidableEq, Repr

/-- One axis. -/
structure Axis where
  mode : Nat := 0
  enabled : Bool := false
  /-- The last frame carried ENABLE = 1. -/
  torque : Bool := false
  /-- The torque went off less than 5 ns before the window opened: the frame of this cycle still carries ENABLE = 1 (R610). -/
  offLate : Bool := false
  pendSw : Option PendSwitch := none
  link : Link := {}
  dn : DnFrame := {}
  mod : Mod := {}
  cur : Cur := {}
  vel : Vel := {}
  fb : Fb := {}
  spEven : SetPoint := {}
  spOdd : SetPoint := {}
  lateRun : Nat := 0
  pSet : Int := 0
  vSet : Int := 0
  aSet : Int := 0
  prof : Prof := {}
  swPos : Switch := {}
  swNeg : Switch := {}
  swHome : Switch := {}
  home : Homing := {}
  latch0 : Latch := {}
  latch1 : Latch := {}
  gear : Gear := {}
  snap : PubSnap := {}
  /-- Private words of custom blocks that differ from 0, by offset in the axis area (R306). -/
  priv : List (Nat × Nat) := []
  /-- Hook words 0x0040-0x005F that differ from 0 (R317). -/
  hook : List (Nat × Nat) := []
  deriving DecidableEq, Repr

/-- A coordinated group (R226-R228). -/
structure Group where
  prof : Prof := {}
  deriving DecidableEq, Repr

end Sys2Proof.Machine
end

