-- ==== Sys2Proof/Machine/StateModule.lean ====
section
/-! DEFINITION. State of the module outside its axes: control cycle, tides, cams, tiles, Causeway, safety, field, CAN,
acquisition, recorder, lifecycle and ageing, as plain data. The default of every field is its value at reset
(INVENTORY.md). -/

namespace Sys2Proof.Machine

/-- An AXIS_ENABLE that waits for its frames (R183). -/
structure PendEnable where
  req : ReqRef
  mask : Nat
  /-- Axes whose frame with ENABLE = 1 has left. -/
  done : Nat
  /-- ENABLE is set from here on. -/
  effective : Bool
  /-- Number of the position cycle s, and moves so far. -/
  at_ : Nat
  moved : Nat
  deriving DecidableEq, Repr

/-- The control cycle (02_control_cycle.md). -/
structure CycState where
  cycling : Bool := false
  /-- Fabric cycle and control cycle of the present control cycle. -/
  n : Nat := 0
  k : Nat := 0
  /-- Cycles computed since cycling started (R49). -/
  computed : Nat := 0
  /-- Fabric cycle of the priming cycle, once decided (R48). -/
  priming : Option Nat := none
  inPriming : Bool := false
  /-- Number of the position cycle; its parity selects the set-point buffer (R40). -/
  posNo : Nat := 0
  velCyc : Bool := false
  posCyc : Bool := false
  /-- FT in ns of the start of the present cycle, and its length in ns as it was at that start. -/
  start : Int := 0
  per : Nat := 0
  /-- The tile window of the present cycle has opened, closed. -/
  opened : Bool := false
  closed : Bool := false
  /-- The fast status window of the present cycle has been published or skipped (R39). -/
  flipped : Bool := false
  /-- Axes computed in the window, axes whose frame was lost, and axes that a takeover left uncomputed. -/
  compMask : Nat := 0
  lostMask : Nat := 0
  skipMask : Nat := 0
  pendEnable : List PendEnable := []
  /-- NOW parameters before the writes completed less than 5 ns before the window opens (R610). -/
  liveHold : Option Bank := none
  /-- Cycling stops at the end of the present cycle (R50). -/
  stopDue : Bool := false
  deriving DecidableEq, Repr

/-- A tide definition in force from fabric cycle n, with its generation, its CRC and its start in 2^-64 (R271, R273). -/
structure TideDef where
  n : Nat
  gen : Nat
  crc : Nat
  body : List Byte
  p0 : Int
  v0 : Int
  /-- T_0: S(N) in ns of FT, as formed when the definition was accepted (R273). -/
  t0 : Int
  deriving DecidableEq, Repr

/-- A tide change that waits for its cycle (R276-R278), at the origin or at a member. -/
structure TideChange where
  n : Nat
  crc : Nat
  body : List Byte
  members : List Nat
  acked : List Nat
  req : Option ReqRef
  origin : Bool
  /-- 0 none, 1 COMMIT, 2 CANCEL. -/
  decision : Nat
  ownAck : Bool
  /-- The definition with the boundaries that the node formed on accepting it (R273). -/
  new : TideDef
  deriving DecidableEq, Repr

/-- One tide (R269-R285). -/
structure Tide where
  /-- 0 OFF, 1 VALID, 2 DIVERGED, 3 STALE. -/
  st : Nat := 0
  defn : Option TideDef := none
  old : Option TideDef := none
  /-- Definition of TIDE_DEFINE that is not scheduled, with its CRC. -/
  staged : Option (List Byte × Nat) := none
  pend : Option TideChange := none
  /-- Consecutive fabric cycles in which the origin's generation or CRC differed (R280), and whether they agreed before. -/
  diverged : Nat := 0
  agreed : Bool := false
  /-- The origin's definition that a diverged node has fetched: generation, n, start and body. -/
  fetched : Option TideDef := none
  /-- At the last fabric-cycle boundary it was held and no axis followed the tide (R280). -/
  adopt : Bool := false
  /-- Measured record that governs, and the one that governs from the next fabric cycle: SEQ, TS, POS, VEL. -/
  rec_ : Option (Nat × Int × Int × Int) := none
  next : Option (Nat × Int × Int × Int) := none
  /-- S of the cycle from which the record governs, the record that governed before, and SEQ of the last record received (R284). -/
  recFrom : Int := 0
  recOld : Option (Nat × Int × Int × Int) := none
  seqRx : Option Nat := none
  /-- Fabric cycles without a governing record (R285), and SEQ of the last record sent. -/
  noRec : Nat := 0
  sent : Nat := 0
  deriving DecidableEq, Repr

/-- One cam table (R292, R293). -/
structure Cam where
  n : Nat := 0
  rise : Int := 0
  ys : List Int := []
  stored : Bool := false
  /-- Load in progress: n, RISE and points so far. -/
  load : Option (Nat × Int × List Int) := none
  /-- Stored in flash: n, RISE, points. -/
  flash : Option (Nat × Int × List Int) := none
  deriving DecidableEq, Repr

/-- Registers of a loop tile (R302): V and F as words, accumulators with a re and an im part. -/
structure TileRegs where
  v : List Nat := List.replicate 16 0
  a0 : Int × Int := (0, 0)
  a1 : Int × Int := (0, 0)
  p : List Nat := List.replicate 8 0
  b : List Nat := List.replicate 8 0
  l : List Nat := List.replicate 8 0
  m : List Int := List.replicate 8 0
  /-- LT, EQ, GT, SAT. -/
  f : Nat := 0
  deriving DecidableEq, Repr

/-- One loop tile (11_loop_tiles.md). -/
structure Tile where
  /-- 0 off, 1 working, 2 idle, 3 checking, 4 self-test, 5 masked. -/
  st : Nat := 0
  /-- LT in ns at which a tile switched on becomes usable (R17). -/
  powerDue : Option Nat := none
  masked : Bool := false
  /-- The mask comes from a record that is injected only, and ends when it closes (R484). -/
  injMask : Bool := false
  regs : TileRegs := {}
  /-- Data memory, words 0x0000-0x5FFF: index of the free contents that the last standard pass left (R302, R305; log 19). -/
  data : Nat := 0
  /-- Scratch words written in the last axis pass that differ from 0 (R305). -/
  scratch : List (Nat × Nat) := []
  deriving DecidableEq, Repr

/-- A takeover sequence (R328). -/
structure Takeover where
  tile : Nat
  /-- Tile windows to open until the outcome takes effect. -/
  left : Nat
  /-- Outcome of the slices of Tx and of T4, once they are done. -/
  result : Option (Bool × Bool)
  /-- Tx runs its slice alone, its spare gone to another tile (R333). -/
  alone : Bool
  /-- FT in ns of the first differing store (R336). -/
  stamp : Int
  incident : Nat
  /-- Tx, and T4, failed under R330 meanwhile (R333). -/
  failTx : Bool := false
  failT4 : Bool := false
  /-- Cycle (n, k), axis and word offset of the mismatch (R335). -/
  n : Nat := 0
  k : Nat := 0
  axis : Nat := 0
  ofs : Nat := 0
  deriving DecidableEq, Repr

/-- What T4 stored for one axis in its check buffer: words of the axis area, and clocks to the END of each custom block (R327). -/
structure CheckPass where
  axis : Nat
  words : List (Nat × Nat)
  clocks : Nat
  deriving DecidableEq, Repr

/-- The tiles together (R322-R335). -/
structure TilesState where
  tiles : Vector Tile 5 := Vector.replicate 5 {}
  /-- Slot map in force (R324): five lists of slots, 255 empty. -/
  map : List (List Nat) := [[0, 1, 2, 3, 4, 5, 6, 7], [8, 9, 10, 11, 12, 13, 14, 15],
    [16, 17, 18, 19, 20, 21, 22, 23], [24, 25, 26, 27, 28, 29, 30, 31], [255, 255, 255, 255, 255, 255, 255, 255]]
  checked : Nat := 7
  takeover : Option Takeover := none
  /-- State of every axis at the end of the previous cycle, for the undo of R328. -/
  journal : List (Nat × Axis) := []
  /-- State of every axis as the passes of this cycle left it. -/
  after : List (Nat × Axis) := []
  /-- Check buffer of T4, and what the checked tile stored itself (R327). -/
  checkBuf : List CheckPass := []
  checkOwn : List CheckPass := []
  /-- LT ns of TRANSIENT records, by tile (R332). -/
  transients : List (Nat × Nat) := []
  /-- LAST_N, LAST_K, LAST_TILE, LAST_OUTCOME, LAST_REPEATS, LAST_AXIS and LAST_OFFSET (R335). -/
  last : List Nat := [0, 0, 0, 0, 0, 0, 0]
  /-- Latched MISMATCH of this cycle: axis, word offset, ns after the window opened (R327). -/
  mismatch : Option (Nat × Nat × Nat) := none
  /-- Tiles whose pass failed in this cycle under R330. -/
  failed : List Nat := []
  /-- The working tile that T4 checks next (R326), and the tile whose slots T4 took over (R324). -/
  nextCheck : Nat := 0
  spareOf : Option Nat := none
  /-- Custom-block image in force (R319, R320), OEM key and the stored image. -/
  image : List Byte := []
  /-- Program memory of every tile, from word 0x2000 on: the custom blocks of the applied image (R316). -/
  prog : List Nat := []
  storedImage : List Byte := []
  absent : Bool := false
  spareOff : Bool := false
  deriving DecidableEq, Repr

/-- A frame on the egress of a port: when its /S/ leaves in 2^-8 ns of LT, its code groups with delimiters and minimum idle, and whether
it is the node's own, with its bytes (R343, R345, R370). -/
structure TxFrame where
  start : Nat
  size : Nat
  own : Bool
  body : List Byte
  deriving DecidableEq, Repr

/-- One Causeway port (R339-R341, R376). Stamps and delays in 2^-16 ns. -/
structure Port where
  /-- 0 DOWN, 1 ALIGN, 2 UP, 3 ACTIVE, 4 BLOCKED, 5 FOREIGN. -/
  st : Nat := 0
  /-- Consecutive accepted probe exchanges. -/
  probes : Nat := 0
  /-- Delay samples, newest first, their mean d, and the latest clock offset θ. -/
  samples : List Int := []
  d : Option Int := none
  theta : Int := 0
  /-- Probe intervals in a row without an accepted probe; a probe has been accepted in the running one. -/
  missed : Nat := 0
  seen : Bool := false
  /-- The last own probe carried READY, and both ends have sent READY in one exchange. -/
  readySent : Bool := false
  ready : Bool := false
  nUid : Nat := 0
  nAddr : Nat := 0xFF
  nLeader : Nat := 0
  crcErrors : Nat := 0
  stomped : Nat := 0
  /-- Egress stamps of the last own probe and of the one before, and arrival stamp of the peer's last one. -/
  txStamp : Option Int := none
  txPrev : Option Int := none
  rxStamp : Option Int := none
  /-- LT in ns of the last probe sent. -/
  probeAt : Option Nat := none
  /-- Marked CLOSING by a census. -/
  closing : Bool := false
  /-- What the discovered table says of the link: neighbour's UID, and whether it is a blocked closing link. -/
  table : Option (Nat × Bool) := none
  delayRep : Bool := false
  /-- Frames on the egress that have not ended. -/
  tx : List TxFrame := []
  deriving DecidableEq, Repr

/-- A berth of a timetable (R353). -/
structure Berth where
  ofs : Nat
  len : Nat
  owner : Nat
  kind : Nat
  axes : Nat
  tides : Nat
  first : Nat
  count : Nat
  deriving DecidableEq, Repr

/-- An insertion slot of a timetable (R353). -/
structure TtSlot where
  pos : Nat
  node : Nat
  source : Nat
  deriving DecidableEq, Repr

/-- A timetable held by the node (R353). -/
structure Timetable where
  body : List Byte
  crc : Nat
  deriving DecidableEq, Repr

/-- A discovered node (R350). `ports` holds 3 bits per port in the code of R376. -/
structure NodeInfo where
  uid : Nat
  addr : Nat
  ports : Nat
  /-- From the census, at the harbour node: hops from it, parent port and the four link delays in 0.25 ns. -/
  depth : Nat := 0
  parent : Nat := 0
  delays : List Nat := []
  deriving DecidableEq, Repr

/-- Payload of a sync berth as received in a fabric cycle (R360). -/
structure SyncRx where
  addr : Nat
  payload : List Byte
  deriving DecidableEq, Repr

/-- A ferry message being sent or assembled (R356). -/
structure FerryMsg where
  /-- Other end; 0xFF for all. -/
  peer : Nat
  kind : Nat
  msg : Nat
  /-- Bytes to be sent, or assembled so far. -/
  data : List Byte
  /-- Bytes acknowledged or broadcast so far, and the segment they reach. -/
  seg : Nat
  ofs : Nat := 0
  /-- Fabric cycle in which the present segment last left, and its length. -/
  sentAt : Option (Nat × Nat)
  repeats : Nat
  /-- The request whose completion this message carries or awaits. -/
  req : Option ReqRef
  /-- Bulk region of the waiting request: offset and length. -/
  region : Nat × Nat
  /-- The segment is to leave again; and, once sent whole, the request has been answered PENDING. -/
  again : Bool
  deriving DecidableEq, Repr

/-- A timetable switch that waits for its cycle (R357, R358). `n` is the cycle of the request in RUN, and the switch cycle
in startup mode. -/
structure TtPend where
  tt : Nat
  n : Nat
  members : List Nat
  acked : List Nat
  req : Option ReqRef
  /-- In startup mode: the START frame that commits has been sent or received. -/
  commit : Bool
  startup : Bool
  /-- This node requests it. -/
  own : Bool
  deriving DecidableEq, Repr

/-- A timetable load that waits for its acknowledgements (R355). -/
structure TtLoad where
  tt : Nat
  acked : List Nat
  req : Option ReqRef
  since : Nat
  persist : Bool
  /-- In startup mode: bytes of the timetable sent so far. -/
  ofs : Nat := 0
  deriving DecidableEq, Repr

/-- A published-axis record received from another node (R286). -/
structure PubRec where
  node : Nat
  axis : Nat
  seq : Nat
  ts : Int
  pos : Int
  vel : Int
  /-- Fabric cycles since a record governed, and S of the cycle from which it governs. -/
  age : Nat
  from_ : Int
  deriving DecidableEq, Repr

/-- The Causeway (12_causeway.md). Offsets in 2^-16 ns, rates in 2^-48. -/
structure FabState where
  ports : Vector Port 4 := Vector.replicate 4 {}
  /-- 0 OFF, 1 LISTEN, 2 COLDSTART, 3 JOIN, 4 STARTUP, 5 RUN, 6 SILENT, 7 STANDALONE (R366). -/
  st : Nat := 0
  addr : Nat := 0xFF
  /-- This node leads startup, and the UID of the node that led the coldstart. -/
  leader : Bool := false
  leaderUid : Nat := 0
  /-- A closed ring is in force; and the topology discovered is a ring. -/
  ring : Bool := false
  ringTable : Bool := false
  fallback : Bool := false
  ftValid : Bool := false
  /-- Parent port; none on the harbour node. -/
  parent : Option Nat := none
  /-- Address of the harbour node of the discovery in force. -/
  harbourAddr : Option Nat := none
  /-- ρ; c(n) for the next cycle; c in force; c of the cycle before. -/
  rho : Int := 0
  corr : Int := 0
  corrNow : Int := 0
  corrPrev : Int := 0
  /-- Midpoint m of the last cycle. -/
  mid : Option Int := none
  /-- Deviations of this cycle and of the last: address, dev and place in the cycle; the leader's COLDSTART as 0x100. -/
  devs : List (Nat × Int × Int) := []
  devsPrev : List (Nat × Int × Int) := []
  /-- The update of R362 has run in this cycle, and the sources that it accepted. -/
  synced : Bool := false
  sources : Nat := 0
  /-- Counts of cycles in a row: no listed source, no source at all, |m| at W or beyond, within W/2, within W in JOIN, a listed
  source again in fallback, harbour outside its window. -/
  noListed : Nat := 0
  noSrc : Nat := 0
  outOfW : Nat := 0
  inHalfW : Nat := 0
  joinRun : Nat := 0
  listedRun : Nat := 0
  harbourOut : Nat := 0
  /-- The node follows only the harbour node's side (R365). -/
  harbourOnly : Bool := false
  /-- No own frame in this cycle (R365); the offset has been stepped in JOIN (R368). -/
  withdrawn : Bool := false
  stepped : Bool := false
  nodes : List NodeInfo := []
  topoCrc : Nat := 0
  depth : Nat := 0
  /-- Timetables held, by number, and those stored (R14). -/
  tables : List (Nat × Timetable) := []
  storedTables : List (Nat × List Byte) := []
  ttNow : Nat := 0xF
  /-- TT_REQ sent by this node and its cycle; TT_ACK. -/
  ttReq : Option (Nat × Nat) := none
  ttAck : Option Nat := none
  ttPend : Option TtPend := none
  ttLoad : Option TtLoad := none
  /-- The harbour's TT_NOW differs: switch at the next cycle (R359). -/
  ttFollow : Option Nat := none
  lastRepeat : Nat := 0
  rx : List SyncRx := []
  rxPrev : List SyncRx := []
  /-- Berths consumed in this cycle (R347). -/
  consumed : List Nat := []
  launched : List Nat := []
  ferryOut : List FerryMsg := []
  ferryIn : List FerryMsg := []
  /-- Messages assembled lately: peer and MSG. -/
  ferrySeen : List (Nat × Nat) := []
  /-- Requests sent to other nodes whose responses have not come (R429). -/
  remote : List FerryMsg := []
  /-- Segments to acknowledge in the next own ferry berth: destination, MSG, SEG, KIND. -/
  ferryAcks : List (Nat × Nat × Nat × Nat) := []
  msgNo : Nat := 0
  /-- LT in ns since which a listening node has waited (R369). -/
  listenSince : Option Nat := none
  /-- LT in ns of the last frame received other than a probe (R369). -/
  heard : Option Nat := none
  coldSent : Nat := 0
  /-- No COLDSTART frame has arrived since the return to startup mode (R370). -/
  relead : Bool := false
  /-- COLDSTART frames forwarded: UID and cycle. -/
  coldSeen : List (Nat × Nat) := []
  /-- FABRIC_DISCOVER or AUTO_DISCOVERY that runs at this harbour node. -/
  discover : Option (Option ReqRef) := none
  /-- Census in which this node has been visited: harbour UID and ports through which it has sent the frame. -/
  census : Option (Nat × List Nat) := none
  /-- Number of the last census that this node started. -/
  censusNo : Nat := 0
  /-- Fabric cycles in STARTUP since power-up (R352). -/
  startupRun : Nat := 0
  autoDone : Bool := false
  /-- Nodes whose sync berths were received and went missing: address and cycles in a row; those already reported. -/
  missing : List (Nat × Nat) := []
  lostRep : Bool := false
  published : List PubRec := []
  pubNext : List PubRec := []
  /-- Records that governed before those, and SEQ of the last record received by 32 node + axis (R284). -/
  pubOld : List PubRec := []
  pubSeq : List (Nat × Nat) := []
  /-- SEQ of the records of published axes sent: axis and SEQ. -/
  pubSent : List (Nat × Nat) := []
  deriving DecidableEq, Repr

/-- One safety pair as a path sees it (R496-R498). -/
structure SPair where
  demand : Bool := true
  /-- LT in ns since which exactly one input is in its demand state, and DISCREPANCY has been raised for it. -/
  discSince : Option Nat := none
  discDone : Bool := false
  /-- Failing test periods in a row before the running one, and a failure in it. -/
  fails : Nat := 0
  failNow : Bool := false
  /-- Two-hand: 0 both released, 1 run, 2 locked until both are released; and when the first button was actuated. -/
  hand : Nat := 2
  handAt : Option Nat := none
  deriving DecidableEq, Repr

/-- One of the two safety paths (R488). -/
structure SPathSt where
  /-- Levels of DI0-DI7 as they arrive and as they are read (R495), and when each last changed. -/
  raw : Nat := 0
  filt : Nat := 0
  rawSince : List Nat := List.replicate 8 0
  pairs : Vector SPair 4 := Vector.replicate 4 {}
  tested : Bool := false
  /-- The path commands its output closed. -/
  closed : Bool := false
  /-- SS1 timer: start in LT ns and delay in ms (R499). -/
  ss1 : Option (Nat × Nat) := none
  /-- Start of the running press, and the conditions of R501 held at it. -/
  resetSince : Option Nat := none
  resetValid : Bool := false
  /-- No reset is waited for; and the wait follows a local cause (R505). -/
  resetMade : Bool := false
  waitLocal : Bool := false
  /-- LT in ns of the last demand or hold seen (R502). -/
  seen : Nat := 0
  deriving DecidableEq, Repr

/-- One subscription to safe messages (R505-R510). -/
structure SSub where
  /-- SEQ and bytes of the last accepted copy, and its LT in ns, by network: Causeway, CAN1. -/
  last : List (Option (Nat × List Byte)) := [none, none]
  since : List Nat := [0, 0]
  /-- Accepted copies whose counterpart may still come: network, SEQ and bytes (R508). -/
  unpaired : List (Nat × Nat × List Byte) := []
  demand : Bool := true
  /-- Equal pairs of copies for consecutive SEQ values, and the last of them. -/
  equalRun : Nat := 0
  lastEq : Nat := 0
  /-- MSG_WATCHDOG raised, by network. -/
  wd : List Bool := [false, false]
  deriving DecidableEq, Repr

/-- Acknowledgement of a SAFE record that runs (R510): its slot, request, start in LT ns and test periods passed. -/
structure SafeAck where
  slot : Nat
  req : ReqRef
  start : Nat
  periods : Nat
  deriving DecidableEq, Repr

/-- Machine safety (17_safety.md). -/
structure SafeState where
  config : Option (List Byte) := none
  storedConfig : Option (List Byte) := none
  /-- Block being written, its request and the LT in ns of its acceptance (R493). -/
  writing : Option (List Byte × ReqRef × Nat) := none
  proc : SPathSt := {}
  logic : SPathSt := {}
  /-- TP0 and TP1 are low. -/
  tp : Vector Bool 2 := #v[false, false]
  /-- The test output that fell last, and when in LT ns (R496). -/
  tpLast : Option (Nat × Nat) := none
  /-- The enable channel of SOA stands still although SOA is commanded closed (R27). -/
  stuck : Bool := false
  soa : Bool := false
  sob : Bool := false
  toggling : Bool := false
  readSoa : Bool := false
  readSob : Bool := false
  /-- Command of the logic path as the last valid exchange frame carried it (R100); LT in ns of that frame (R27). -/
  sobSeen : Bool := false
  lastFrame : Nat := 0
  /-- LT in ns since which a readback differs, by path and output, and SO_READBACK raised for it (R502). -/
  readDiff : List (Option Nat) := [none, none, none, none]
  readRep : List Bool := [false, false, false, false]
  subs : Vector SSub 8 := Vector.replicate 8 {}
  /-- Subscription demands as the logic path has them (R27). -/
  logicSubs : Nat := 0xFF
  txSeq : Nat := 0
  /-- DATA of the last message built and its LT in ns (R506). -/
  txData : Option Nat := none
  txAt : Nat := 0
  /-- Copies that wait for a SAFETY berth. -/
  txQueue : List (List Byte) := []
  /-- Frames in a row whose configuration CRCs differ; the last frame's do; CONFIG_BAD holds the outputs (R27, R494). -/
  crcDiff : Nat := 0
  crcHold : Bool := true
  badConfig : Bool := false
  acks : List SafeAck := []
  level5 : Bool := false
  deriving DecidableEq, Repr

/-- One 24 V input (R515-R518). -/
structure Di where
  raw : Bool := false
  /-- FT in ns of the latest raw change, and its LT. -/
  edgeAt : Int := 0
  edgeLt : Nat := 0
  filt : Bool := false
  wb : Bool := false
  /-- FT in ns of the latest change of the filtered level, and of the first one in the running and in the last control cycle. -/
  filtAt : Int := 0
  first : Option Int := none
  win : Option Int := none
  /-- Filtered level at the last two cycle starts. -/
  lvl : Bool := false
  lvlPrev : Bool := false
  deriving DecidableEq, Repr

/-- One 24 V output (R519-R522). -/
structure Dq where
  overload : Bool := false
  external : Bool := false
  openLoad : Bool := false
  deriving DecidableEq, Repr

/-- Field channels (18_field_io_can.md). -/
structure FldState where
  di : Vector Di 16 := Vector.replicate 16 {}
  dq : Vector Dq 8 := Vector.replicate 8 {}
  /-- FLD_OUT, and the command that the field die holds. -/
  cmd : Nat := 0
  dieCmd : Nat := 0
  die : DieCfg := {}
  /-- Outputs as applied on the field die. -/
  out : Nat := 0
  /-- States that row 3 of R520 keeps while it applies. -/
  held : Option Nat := none
  vfld : Nat := 0
  vfldValid : Bool := false
  sag : Bool := false
  /-- Restoration holds after a sag; and FAULT_ACK has released it for the next frame (R523). -/
  restored : Bool := false
  releaseDue : Bool := false
  silentHeld : Bool := false
  l5Held : Bool := false
  stale : Bool := false
  sags : Nat := 0
  silences : Nat := 0
  /-- LT in ns of the last valid frame up and down. -/
  lastUp : Nat := 0
  lastDown : Nat := 0
  /-- FLD_IN [15:0] and [31:16], and FLD_DIAG [36:0] of the last frame up (R525). -/
  fldIn : Nat := 0
  wbReg : Nat := 0
  diag : Nat := 0
  deriving DecidableEq, Repr

/-- One message object (R528-R532). -/
structure CanObj where
  new : Bool := false
  ovr : Bool := false
  txPend : Bool := false
  txDone : Bool := false
  txFail : Bool := false
  dlc : Nat := 0
  fdf : Bool := false
  brs : Bool := false
  /-- Identifier and IDE of the frame stored or last sent. -/
  id : Nat := 0
  ts : Int := 0
  /-- Received data. -/
  data : List Byte := []
  /-- Transmit buffer: DLC and data committed, once TX_REQ has been. -/
  buf : Option (Nat × List Byte) := none
  /-- LT of the last commit, and what the buffer held before it (R532). -/
  bufAt : Nat := 0
  old : Option (Nat × List Byte) := none
  /-- LT at which TX_PEND was set, and of the last request (R532). -/
  pendAt : Nat := 0
  askAt : Nat := 0
  /-- Index of the last period served, plus 1. -/
  served : Nat := 0
  deriving DecidableEq, Repr

/-- One CAN channel (R526-R535). -/
structure CanChan where
  /-- 0 off, 1 integrating, 2 error active, 3 error passive, 4 bus-off, 5 recovering (R530). -/
  st : Nat := 0
  rateBad : Bool := false
  tec : Nat := 0
  rec_ : Nat := 0
  unmatched : Nat := 0
  busOffs : Nat := 0
  /-- Objects that differ from the empty one. -/
  objs : List (Nat × CanObj) := []
  /-- Shadow data that the host writes for an object: object × 64 + offset; unlisted bytes are 0. -/
  shadow : List Host.Cell := []
  deriving DecidableEq, Repr

/-- What a trigger unit remembers for one polarity (R545, R546): samples above in a row, the runt's state (0 void, 1 beyond
the first level's far side, 2 between the levels), and samples since the last one at the slew rate's starting level. -/
structure TrigPol where
  run : Nat := 0
  runt : Nat := 0
  since : Option Nat := none
  deriving DecidableEq, Repr

/-- Memory of one trigger unit (R546). -/
structure TrigMem where
  prev : Int := 0
  /-- The level condition held in the sample before. -/
  level : Bool := false
  /-- Side of the timeout, samples since its last change, and it has fired. -/
  side : Bool := false
  sideRun : Nat := 0
  fired : Bool := false
  pos : TrigPol := {}
  neg : TrigPol := {}
  deriving DecidableEq, Repr

/-- Acquisition (R537-R550). -/
structure AcqState where
  armed : Bool := false
  /-- FT in ns at which TRACE_ARM was taken. -/
  armedAt : Int := 0
  triggered : Bool := false
  /-- Index of the next sample, and the sample of the last KEY or TICK. -/
  k : Nat := 0
  lastTick : Nat := 0
  /-- Per channel: last stored value. -/
  last : List Int := List.replicate 16 0
  trig : Vector TrigMem 4 := Vector.replicate 4 {}
  /-- The records in the acquisition area as 64-bit words, oldest first. -/
  recs : List Nat := []
  deriving DecidableEq, Repr

/-- One axis in a block of the replay recorder (R551-R553): what the pass was given and what left. -/
structure RcdAxis where
  axis : Nat
  start : Axis
  up : UpFrame
  dn : List Byte
  lost : Bool
  skip : Bool
  deriving DecidableEq, Repr

/-- A CMD or BERTH entry that waits for its block (R553): the FT at which its content was taken, UNIT and the body. -/
structure RcdEntry where
  at_ : Int
  unit : Nat
  body : List Byte
  deriving DecidableEq, Repr

/-- One block of the replay recorder (R551, R552): the control cycle, the bytes of the block, and what a repetition starts from. -/
structure RcdBlock where
  n : Nat
  k : Nat
  bytes : List Byte
  first : Bool
  snap : Bool
  cyc : CycState
  prm : PrmState
  axes : List RcdAxis
  deriving DecidableEq, Repr

/-- A replay that runs (R557): request, first fabric cycle, control cycles, axis mask and tile. -/
structure Replay where
  req : ReqRef
  first : Nat
  cycles : Nat
  mask : Nat
  tile : Fin 5
  deriving DecidableEq, Repr

/-- The recorder and replay (R551-R559). -/
structure RcdState where
  /-- A span is open; its next block is the first; its blocks so far. -/
  running : Bool := false
  spanLen : Nat := 0
  frozen : Bool := false
  /-- Control cycles until the freeze, and whether a fault asked for it (R556). -/
  freezeDue : Option (Nat × Bool) := none
  /-- Blocks in the ring, oldest first, and the bytes that they take. -/
  blocks : List RcdBlock := []
  used : Nat := 0
  /-- Snapshots, oldest first: n, k and the CRC of the custom-block image. -/
  snaps : List (Nat × Nat × Nat) := []
  /-- A copy runs since the given LT in ns (R554). -/
  copying : Option Nat := none
  /-- Bases of the AXIS entries by axis: upstream and downstream bytes (R553). -/
  upBase : List (Nat × List Byte) := []
  dnBase : List (Nat × List Byte) := []
  /-- CMD and BERTH entries for the next blocks, oldest first (R551, R553). -/
  cmds : List RcdEntry := []
  berths : List RcdEntry := []
  replay : Option Replay := none
  deriving DecidableEq, Repr

/-- A firmware image in flash (R570-R573). -/
structure Image where
  valid : Bool := false
  version : Nat := 0
  floor : Nat := 0
  bytes : List Byte := []
  deriving DecidableEq, Repr

/-- Lifecycle, keys, sessions, images, self-test (20_lifecycle_selftest_ageing.md). -/
structure LifeState where
  /-- 0 BLANK, 1 INTEGRATE, 2 FIELD, 3 RETURN, 4 SCRAP, in KEEP's shadow of the fuses; and the fuses (R560). -/
  lc : Nat := 0
  fuse : Nat := 0
  oemKey : List Byte := []
  pwHash : List Byte := []
  /-- Open nonce: kind, bytes, LT ns at which it expires. -/
  nonce : Option (Nat × List Byte × Nat) := none
  authFails : Nat := 0
  /-- DEBUG_RESPONSE requests that complete with AUTH, and when, in LT ns (R569). -/
  authPend : List (ReqRef × Nat) := []
  service : Bool := false
  debugOpen : Bool := false
  returnAuth : Option Nat := none
  serviceAuth : Option Nat := none
  imgA : Image := { valid := true, version := 0x0302_0000 }
  imgB : Image := {}
  /-- The image marked active: 0 A, 1 B; it is newly activated and has not been started (R571, R572). -/
  active : Nat := 0
  newImage : Bool := false
  /-- LT in ns at which the running trial started, and at which it reached HOST_STATE 2 (R573). -/
  trial : Option Nat := none
  trialReady : Option Nat := none
  /-- Firmware update: declared length and version, and the bytes so far (R571). -/
  update : Option (Nat × Nat × List Byte) := none
  /-- Rollback floor in the fuses (R571, R573). -/
  rollback : Nat := 0
  /-- Transition being programmed: target, request and bulk data (R565). -/
  advance : Option (Nat × ReqRef × List Byte) := none
  /-- LT in ns at which the module resets after a transition (R565). -/
  resetDue : Option Nat := none
  /-- BIST that runs: scope and request; and it has been cut short (R577). -/
  bist : Option (Nat × ReqRef) := none
  bistCut : Bool := false
  deriving DecidableEq, Repr

/-- Ageing and margins (R578-R584), in mV. -/
structure AgeState where
  margin : List Int := List.replicate 48 0
  /-- Lowest voltage of monitors 0-27. -/
  vFail : List Int := List.replicate 28 0
  /-- Smallest margin of each monitor in the running day, and the daily records, newest first. -/
  dayMin : List Int := []
  daily : List (List Int) := []
  /-- Monitors whose projection fell short at the last re-plan (R583). -/
  short : List Bool := List.replicate 48 false
  /-- V_t; the voltage in force and the LT in ns when V_t was last set (R580). -/
  target : Nat := 800
  vFrom : Nat := 800
  vSince : Nat := 0
  minPeriod : Nat := 8000
  /-- Last step of R581 that acted: 0 none, 1 voltage, 2 equaliser, 3 derate. -/
  lastStep : Nat := 0
  /-- LT in ns of the last re-plan. -/
  planAt : Nat := 0
  /-- Interval of 10 min, counted from LT 0, whose measurement is done or skipped (R579, R585). -/
  measured : Nat := 0
  deriving DecidableEq, Repr

/-- Encoder emulator (R206-R208). -/
structure EmuState where
  /-- Source, resolution and p_ref for which `value` was formed. -/
  src : Nat := 0xFF
  res : Nat := 0
  ref : Int := 0
  /-- N of the last source value. -/
  value : Int := 0
  rem : Int := 0
  lag : Bool := false
  lagRep : Bool := false
  valid : Bool := false
  /-- Edges scheduled: FT in ns and direction. -/
  edges : List (Int × Int) := []
  /-- N as output so far, for EMZ, and the phase of EMA and EMB in quarter periods. -/
  count : Int := 0
  phase : Nat := 0
  deriving DecidableEq, Repr

end Sys2Proof.Machine
end

