-- ==== Sys2Proof/Machine/State.lean ====
section
/-! DEFINITION. The state of the RM32 as plain data, and the state after reset. Every field of the parts has the value
of reset as its default; INVENTORY.md names the rule or the log entry of each. -/

namespace Sys2Proof.Machine

/-- The block: everything the spec gives it, the queue of waiting commands and the model's own counter of free values. -/
structure State where
  /-- Commands that wait, oldest first. -/
  pending : List Instr := []
  /-- Counter of free values; the model's own (log 5). -/
  free : Nat := 0
  time : TimeState := {}
  power : PowerState := {}
  prm : PrmState := {}
  host : HostState := {}
  out : OutBox := {}
  flt : FltState := {}
  cyc : CycState := {}
  axes : Vector Axis 32 := Vector.replicate 32 {}
  grps : Vector Group 8 := Vector.replicate 8 {}
  tides : Vector Tide 4 := Vector.replicate 4 {}
  /-- Cam tables that differ from the empty one, by number. -/
  cams : List (Nat × Cam) := []
  tiles : TilesState := {}
  fab : FabState := {}
  safe : SafeState := {}
  fld : FldState := {}
  can : Vector CanChan 2 := Vector.replicate 2 {}
  acq : AcqState := {}
  rcd : RcdState := {}
  life : LifeState := {}
  age : AgeState := {}
  emu : EmuState := {}
  deriving DecidableEq, Repr

/-- Why the model would stop with a fault. The spec gives the block no stop, so there is none: nothing raises it, and a
type without constructors is safe. -/
inductive Fault where
  deriving DecidableEq, Repr

/-- Why a command has no meaning. -/
inductive Refusal where
  /-- Raised by an arm of `exec` whose command has no meaning yet; safe, since nothing is claimed of it. -/
  | notModelled (mnemonic : String)
  deriving DecidableEq, Repr

/-- The block right after reset: before POWER_UP, with only the KEEP domain live (R18) and every register at its reset
value (log 11). Log 4 (DESIGN CHOICE). -/
def State.reset : State := {}

end Sys2Proof.Machine
end

