-- ==== Sys2Proof/Machine/Ops.lean ====
section
/-! DEFINITION. The named operations on the state: parts, parameters, time scales, window memory, events, responses and
the collector's inbox. Every meaning is written over them. -/

namespace Sys2Proof.Machine

/-- A command happens at LT `t` (log 1): LT advances and the outbox of the command before is empty. -/
def State.begin (s : State) (t : Nat) : State :=
  { s with time := { s.time with lt := max s.time.lt t }, out := {} }

def State.ax (s : State) (a : AxisId) : Axis := s.axes.get a

def State.modAxis (s : State) (a : AxisId) (f : Axis → Axis) : State :=
  { s with axes := s.axes.set a.val (f (s.axes.get a)) a.isLt }

def State.modGrp (s : State) (g : Fin 8) (f : Group → Group) : State :=
  { s with grps := s.grps.set g.val (f (s.grps.get g)) g.isLt }

def State.modTide (s : State) (i : TideId) (f : Tide → Tide) : State :=
  { s with tides := s.tides.set i.val (f (s.tides.get i)) i.isLt }

def State.modCan (s : State) (c : Fin 2) (f : CanChan → CanChan) : State :=
  { s with can := s.can.set c.val (f (s.can.get c)) c.isLt }

def State.modPort (s : State) (i : PortId) (f : Port → Port) : State :=
  { s with fab := { s.fab with ports := s.fab.ports.set i.val (f (s.fab.ports.get i)) i.isLt } }

def State.modFab (s : State) (f : FabState → FabState) : State := { s with fab := f s.fab }

def State.modTile (s : State) (i : Fin 5) (f : Tile → Tile) : State :=
  { s with tiles := { s.tiles with tiles := s.tiles.tiles.set i.val (f (s.tiles.tiles.get i)) i.isLt } }

def State.modDi (s : State) (i : Fin 16) (f : Di → Di) : State :=
  { s with fld := { s.fld with di := s.fld.di.set i.val (f (s.fld.di.get i)) i.isLt } }

def State.modDq (s : State) (i : Fin 8) (f : Dq → Dq) : State :=
  { s with fld := { s.fld with dq := s.fld.dq.set i.val (f (s.fld.dq.get i)) i.isLt } }

def State.modTq (s : State) (i : Fin 4) (f : TqChan → TqChan) : State :=
  { s with time := { s.time with tq := s.time.tq.set i.val (f (s.time.tq.get i)) i.isLt } }

def State.modRing (s : State) (i : Fin 4) (f : Ring → Ring) : State :=
  { s with host := { s.host with rings := s.host.rings.set i.val (f (s.host.rings.get i)) i.isLt } }

def State.modLink (s : State) (a : AxisId) (f : Link → Link) : State :=
  s.modAxis a (fun x => { x with link := f x.link })

def State.modProf (s : State) (a : AxisId) (f : Prof → Prof) : State :=
  s.modAxis a (fun x => { x with prof := f x.prof })

/-- Run an operation for every axis of a list, in order. -/
def forAxes (l : List AxisId) (f : AxisId → State → State) (s : State) : State := l.foldl (fun s a => f a s) s

/-- Cam table of a number. -/
def State.cam (s : State) (n : Nat) : Cam := alGet {} n s.cams

def State.setCam (s : State) (n : Nat) (c : Cam) : State := { s with cams := alSet {} n c s.cams }

/-- A power domain, in the order of R15. -/
def domIdx : Domain → Fin 14
  | .keep => 0 | .sup => 1 | .mem => 2 | .prof => 3 | .t0 => 4 | .t1 => 5 | .t2 => 6 | .t3 => 7 | .t4 => 8
  | .axl => 9 | .fab => 10 | .host => 11 | .safe => 12 | .field => 13

def State.domOn (s : State) (d : Domain) : Bool := s.power.on.get (domIdx d)

def State.setDom (s : State) (d : Domain) (b : Bool) : State :=
  { s with power := { s.power with on := s.power.on.set (domIdx d).val b (domIdx d).isLt } }

/-- Value of a parameter in force: topcoat for COMMIT, live for NOW and CYCLE, in force for RESET (R9, R453). -/
def State.par (s : State) (key inst : Nat) : List Int :=
  match rowOf key with
  | none => []
  | some r =>
    match r.app with
    | .commit => bankGet s.prm.topcoat key inst
    | .now | .cycle => bankGet s.prm.live key inst
    | .reset => bankGet s.prm.resetLive key inst
    | .ro => r.dflt

/-- First element of a parameter in force. -/
def State.p1 (s : State) (key inst : Nat) : Int := (s.par key inst).headD 0

/-- The same for a parameter that is not negative. -/
def State.pn (s : State) (key inst : Nat) : Nat := (s.p1 key inst).toNat

/-- A parameter of an axis in force. -/
def State.pa (s : State) (key : Nat) (a : AxisId) : Int := s.p1 key a.val

/-- Write a NOW or CYCLE parameter into force. -/
def State.setLive (s : State) (key inst : Nat) (v : List Int) : State :=
  { s with prm := { s.prm with live := bankSet s.prm.live key inst v } }

/-! ### Time scales -/

/-- The anchor whose interval holds an LT instant in ns; the oldest one for older instants (R381). -/
def anchorFor (lt : Nat) : List Anchor → Anchor
  | [] => ⟨0, 0, 0, 0⟩
  | [a] => a
  | a :: r => if a.lt ≤ lt then a else anchorFor lt r

/-- Whether an instant is older than the anchors kept: the flag OLD_ANCHOR (R381). -/
def oldAnchor (lt : Nat) (l : List Anchor) : Bool :=
  match l.getLast? with
  | some a => decide (lt < a.lt)
  | none => false

/-- FT_fine in 2^-16 ns of an LT instant in units of 0.125 ns (R379, R382). -/
def State.ftFine8 (s : State) (lt8 : Nat) : Int :=
  let a := anchorFor (lt8 / 8) s.time.anchors
  a.f + ((lt8 : Int) - 8 * a.lt) * (2 ^ 48 + a.r) / 2 ^ 35

/-- FT_fine in 2^-16 ns of an LT instant in ns (R379). -/
def State.ftFine (s : State) (lt : Nat) : Int :=
  let a := anchorFor lt s.time.anchors
  a.f + ((lt : Int) - a.lt) * (2 ^ 48 + a.r) / 2 ^ 32

/-- FT in ns of an LT instant (R379). -/
def State.ftOf (s : State) (lt : Nat) : Int := shrHalfUp (s.ftFine lt) 16

/-- FT in ns now. -/
def State.ft (s : State) : Int := s.ftOf s.time.lt

/-- The fabric cycle in progress. -/
def State.fabN (s : State) : Nat := (s.time.anchors.headD ⟨0, 0, 0, 0⟩).n

def State.cycleNs (s : State) : Nat := s.pn pFabCycleNs 0

/-- S(n) in ns of FT (R361). -/
def State.startOf (s : State) (n : Nat) : Int := (n : Int) * s.cycleNs

/-- Control cycles per fabric cycle, M (R30). -/
def State.cyclesPer (s : State) : Nat := s.cycleNs / max 1 (s.pn pCycPeriodNs 0)

/-- FT of the start of control cycle (n, k) (R30). -/
def State.cycleStartFt (s : State) (n k : Nat) : Int := s.startOf n + s.pn pCycPhaseNs 0 + k * s.pn pCycPeriodNs 0

/-- The control cycle after (n, k) (R30). -/
def State.nextCycle (s : State) (n k : Nat) : Nat × Nat :=
  if k + 1 < s.cyclesPer then (n, k + 1) else (n + 1, 0)

/-- Less than 5 ns before the tile window opens: what is completed now acts from the frame of the next cycle (R610). -/
def State.inGap (s : State) : Bool :=
  s.cyc.cycling && !s.cyc.opened && decide (s.cyc.start + 2325 < s.ft ∧ s.ft < s.cyc.start + 2330)

/-- NT in 2^-16 ns of an FT instant in 2^-16 ns (R384, R390). -/
def State.ntOf (s : State) (t : Int) : Int :=
  match s.time.nt with
  | some r => if r.valid then t + r.o + shrHalfUp (r.slew * (t - r.sN)) 48 else t
  | none => t

/-- NT_VALID (R404). -/
def State.ntValid (s : State) : Bool := match s.time.nt with | some r => r.valid | none => false

/-- The core voltage in force in mV: it moves toward V_t by 1 mV in 100 us (R580; the rate is the limit, log 84). -/
def State.vcoreNow (s : State) : Nat :=
  let d := (s.time.lt - s.age.vSince) / 100000
  if s.age.vFrom ≤ s.age.target then min s.age.target (s.age.vFrom + d) else max s.age.target (s.age.vFrom - d)

/-- Take the next number of the free-value counter (log 5). -/
def State.fresh (s : State) : Nat × State := (s.free, { s with free := s.free + 1 })

/-! ### Window memory (R407) -/

/-- A byte of the ring and bulk memory; an unlisted one reads 0 (log 8). -/
def memRead (m : List Host.Cell) (a : Nat) : Byte := alGet 0 a m

def memWrite (m : List Host.Cell) (a : Nat) (b : Byte) : List Host.Cell := alSet 0 a b m

/-- `n` bytes from address `a`. -/
def memReadN (m : List Host.Cell) (a : Nat) : Nat → List Byte
  | 0 => []
  | n + 1 => memRead m a :: memReadN m (a + 1) n

/-- Bytes written in ascending order from address `a`. -/
def memWriteN (m : List Host.Cell) (a : Nat) : List Byte → List Host.Cell
  | [] => m
  | b :: r => memWriteN (memWrite m a b) (a + 1) r

/-- The canonical form of the window memory: addresses strictly rising, no byte that an unlisted address reads as. -/
def memWf (m : List Host.Cell) : Bool := alWf 0 m

def State.writeMem (s : State) (a : Nat) (l : List Byte) : State :=
  { s with host := { s.host with mem := memWriteN s.host.mem a l } }

/-! ### The collector's inbox -/

/-- A detection reaches the collector (R473); `settle` decides it in this command (R475). -/
def State.raise (s : State) (code unit : Nat) : State :=
  { s with flt := { s.flt with inbox := s.flt.inbox ++ [⟨code, unit, none, false, none, 0⟩] } }

/-- A detection whose detector states its present level. -/
def State.raiseAt (s : State) (code unit level : Nat) : State :=
  { s with flt := { s.flt with inbox := s.flt.inbox ++ [⟨code, unit, some level, false, none, 0⟩] } }

/-- A detection that carries its own stamp or belongs to an incident of R478. -/
def State.raiseOcc (s : State) (o : Occ) : State :=
  { s with flt := { s.flt with inbox := s.flt.inbox ++ [o] } }

/-- The detector reports that its condition has ended (R472, kind C). -/
def State.clearCond (s : State) (code unit : Nat) : State :=
  { s with flt := { s.flt with inbox := s.flt.inbox ++ [⟨code, unit, none, true, none, 0⟩] } }

/-! ### Events and responses -/

/-- STATUS codes of R10. -/
abbrev stOk : Nat := 0x00
abbrev stPending : Nat := 0x01
abbrev stUnknownOp : Nat := 0x10
abbrev stBadLength : Nat := 0x11
abbrev stBadId : Nat := 0x12
abbrev stRange : Nat := 0x13
abbrev stState : Nat := 0x14
abbrev stLifecycle : Nat := 0x15
abbrev stCheckFailed : Nat := 0x16
abbrev stBusy : Nat := 0x17
abbrev stTimeout : Nat := 0x18
abbrev stUnreachable : Nat := 0x19
abbrev stAuth : Nat := 0x1A

/-- Status, DETAIL, results from offset 4, and bulk results of a response (R427). -/
structure Rsp where
  status : Nat
  detail : Nat := 0
  body : List Byte := []
  bulk : Option (List Byte) := none
  deriving DecidableEq, Repr

/-- A response of status OK. -/
def okRsp (body : List Byte) : Rsp := { status := stOk, body := body }

/-- Pad or cut a list of bytes to `n`. -/
def padTo (n : Nat) (l : List Byte) : List Byte := l.take n ++ List.replicate (n - (l.take n).length) 0

/-- The 64 bytes of an entry (R426, R427). -/
def entryBytes (opcode tag length flags source : Nat) (payload : List Byte) : List Byte :=
  toLE 2 opcode ++ toLE 2 tag ++ toLE 2 length ++ toLE 1 flags ++ toLE 1 source ++ padTo 56 payload

/-- The FLAGS of a request entry (R426). -/
def hdrFlags (h : Hdr) : Nat := b2n h.bulk + 2 * b2n h.persist + 4 * b2n h.more

/-- The 64 bytes of the request entry that spells a header, an opcode and an inline payload; with BULK the offset of the region
stands in the payload's place (R426). -/
def requestEntry (opc : Nat) (h : Hdr) (p : List Byte) : List Byte :=
  entryBytes opc h.tag h.length (hdrFlags h) h.target (if h.bulk then toLE 2 h.bulkOfs else p)

/-- The recorder runs: the module cycles and the recorder is not frozen (R551, R556). -/
def State.recording (s : State) : Bool := s.cyc.cycling && !s.rcd.frozen

/-- A request has been taken: its entry and its bulk bytes wait for the recorder's block, under the number of its ring or 0x0F for a
ferry request (R553). Log 162 (DEDUCED). -/
def State.noteCmd (s : State) (opc : Nat) (h : Hdr) (pay : List Byte) : State :=
  let e : RcdEntry := ⟨s.ft, if h.via.isSome then 0x0F else h.ring.val, requestEntry opc h pay ++ (if h.bulk then padTo h.length pay else [])⟩
  { s with rcd := { s.rcd with cmds := if s.recording then s.rcd.cmds ++ [e] else s.rcd.cmds } }

/-- A PROCESS berth has been consumed: it waits for the recorder's block, under its timetable (R553). -/
def State.noteBerth (s : State) (tt berth : Nat) (p : List Byte) : State :=
  let e : RcdEntry := ⟨s.ft, tt, toLE 2 berth ++ p⟩
  { s with rcd := { s.rcd with berths := if s.recording then s.rcd.berths ++ [e] else s.rcd.berths } }

/-- The time that events and records carry: FT (R430). -/
def State.eventTime (s : State) : Int := s.ft

/-- Post an event, or drop and count it when the ring is full (R430, R414). Log 266 (DEDUCED). -/
def State.postEvent (s : State) (code tag unit : Nat) (data : List Byte) : State :=
  if 64 ≤ (s.host.evtProd - s.host.evtCons).toNat then
    { s with host := { s.host with evtLost := incSat 16 s.host.evtLost, evtDropped := s.host.evtDropped + 1 } }
  else
    let payload := toLE 8 s.eventTime ++ toLE 2 unit ++ toLE 2 0 ++ data
    let e := entryBytes code tag payload.length 0 s.fab.addr payload
    let a := 0x9000 + 64 * (s.host.evtProd.toNat % 64)
    let s1 := s.writeMem a e
    let push : List EthFrame :=
      match s.host.evtPush, s.host.writeMac with
      | true, some mac => [⟨mac, 1, 5, 0, a, 64, e⟩]
      | _, _ => []
    { s1 with host := { s1.host with evtProd := s1.host.evtProd + 1 },
              out := { s1.out with eth := s1.out.eth ++ push } }

/-- Free entries of a response ring (R422). -/
def Ring.rspRoom (r : Ring) : Nat := 64 - (r.rspProd - r.rspCons).toNat

/-- The ring a number names. -/
def ringOf (n : Nat) : Fin 4 := ⟨n % 4, by omega⟩

/-- Post the entry of a response in its ring, or let it wait for a free one. -/
def State.postRsp (s : State) (ring : Nat) (e : List Byte) : State :=
  let i := ringOf ring
  let r := s.host.rings.get i
  if r.rspRoom = 0 then { s with host := { s.host with rspWait := s.host.rspWait ++ [(ring, e)] } }
  else
    (s.writeMem (0x5000 + 0x1000 * i.val + 64 * (r.rspProd.toNat % 64)) e).modRing i
      (fun r => { r with rspProd := r.rspProd + 1 })

/-- Queue a ferry message (R356). -/
def State.ferrySend (s : State) (peer kind : Nat) (msg : Nat) (data : List Byte) (req : Option ReqRef)
    (region : Nat × Nat) : State :=
  { s with fab := { s.fab with ferryOut := s.fab.ferryOut ++ [⟨peer, kind, msg, data, 0, 0, none, 0, req, region, false⟩] } }

/-- Respond to a request: on its ring, or by ferry to the node it came from, behind the MSG of the request (R427, R429,
log 41). `regionOfs` names the bulk region. FINAL marks every response that carries the final status (log 12). -/
def State.respond (s : State) (q : ReqRef) (regionOfs : Nat) (r : Rsp) : State :=
  let fin := if r.status = stPending then 0 else 0x10
  let payload := toLE 1 r.status ++ [0] ++ toLE 2 r.detail ++ r.body
  let bulkLen := match r.bulk with | some b => b.length | none => 0
  let flags := fin + (if r.bulk.isSome then 1 else 0)
  let length := match r.bulk with | some b => b.length | none => payload.length
  let e := entryBytes q.op q.tag length flags s.fab.addr payload
  match q.via with
  | some (node, msg) =>
    let s1 := s.ferrySend node 2 (s.fab.msgNo % 0xFFF0) (toLE 2 msg ++ e ++ r.bulk.getD []) none (0, 0)
    { s1 with fab := { s1.fab with msgNo := s1.fab.msgNo + 1 } }
  | none =>
    let s1 := if bulkLen = 0 then s else s.writeMem (0xC000 + regionOfs) (r.bulk.getD [])
    s1.postRsp q.ring e

/-- Complete a request that was answered PENDING (R425). -/
def State.finish (s : State) (q : ReqRef) (r : Rsp) : State :=
  let s1 := match q.via with
    | none => s.modRing (ringOf q.ring) (fun x => { x with pending := x.pending - 1 })
    | some _ => s
  s1.respond q 0 r

/-- Complete a request that may be absent. -/
def State.finish? (s : State) (q : Option ReqRef) (r : Rsp) : State :=
  match q with
  | some q => s.finish q r
  | none => s

/-- First failing check of a list: condition, STATUS, DETAIL (R428). -/
def firstFail : List (Bool × Nat × Nat) → Option (Nat × Nat)
  | [] => none
  | (b, st, d) :: r => if b then some (st, d) else firstFail r

/-- The firmware takes requests: it is ready, the response ring has a free entry and fewer than 16 requests wait (R424). -/
def State.canTake (s : State) (h : Hdr) : Bool :=
  let r := s.host.rings.get h.ring
  decide (s.host.hostState = 2) && (h.via.isSome || (decide (0 < r.rspRoom) && decide (r.pending < 16)))

/-- The TARGET names this node (R429). -/
def State.isLocal (s : State) (h : Hdr) : Bool := decide (h.target = 0xFF ∨ h.target = s.fab.addr ∨ h.via.isSome)

/-- BAD_LENGTH at its place in R428: inline from the end of the last field to 56 bytes; in bulk 1-16,384 bytes inside the
bulk area, for operations that take bulk (log 13). -/
def lengthOk (h : Hdr) (need : Nat) (bulkAllowed bulkRequired : Bool) : Bool :=
  if h.bulk then bulkAllowed && decide (need ≤ h.length ∧ 1 ≤ h.length ∧ h.length ≤ 16384 ∧ h.bulkOfs % 8 = 0
    ∧ h.bulkOfs + h.length ≤ 0x4000)
  else !bulkRequired && decide (need ≤ h.length ∧ h.length ≤ 56)

/-- The reference by which a later response finds its request. -/
def refOf (h : Hdr) (opc : Nat) : ReqRef := ⟨h.ring.val, h.via, h.tag, opc⟩

/-- Opcodes that SCRAP still serves are named by the operations themselves; every other is refused (R562). -/
def State.scrap (s : State) : Bool := decide (s.life.lc = 4)

/-- Forward a request to another node as a ferry message of KIND 1 with its bulk data behind the number of its ring, or answer UNREACHABLE
(R429). Log 104 (DESIGN CHOICE). -/
def State.forward (s : State) (h : Hdr) (q : ReqRef) (payload : List Byte) : State :=
  if s.fab.ttNow = 0xF ∨ ¬ (s.fab.nodes.any (fun n => n.addr = h.target)) then
    s.respond q h.bulkOfs { status := stUnreachable }
  else
    let msg := s.fab.msgNo % 0xFFF0
    let flags := b2n h.bulk + 2 * b2n h.persist + 4 * b2n h.more
    let e := entryBytes q.op q.tag h.length flags h.target (if h.bulk then toLE 2 h.bulkOfs else payload)
    let data := toLE 1 h.ring.val ++ e ++ (if h.bulk then payload else [])
    let m : FerryMsg := ⟨h.target, 1, msg, data, 0, 0, none, 0, some q, (h.bulkOfs, h.length), false⟩
    { s with fab := { s.fab with ferryOut := s.fab.ferryOut ++ [m], msgNo := s.fab.msgNo + 1 } }

/-- Carry out one mailbox request in the order of checks of R428. `pay` are the bytes of the request for forwarding;
`checks` are BAD_ID and the checks after it; `effect` is the operation. The recorder notes the request (R553). -/
def runOp (opc need : Nat) (bulkAllowed bulkRequired : Bool) (h : Hdr) (pay : List Byte) (s : State)
    (checks : State → List (Bool × Nat × Nat)) (effect : ReqRef → State → Rsp × State) : State :=
  if s.canTake h then
    let q := refOf h opc
    let s := s.noteCmd opc h pay
    if lengthOk h need bulkAllowed bulkRequired then
      if s.isLocal h then
        match firstFail (checks s) with
        | some (st, d) => s.respond q h.bulkOfs { status := st, detail := d }
        | none =>
          let (r, s1) := effect q s
          let s2 := s1.respond q h.bulkOfs r
          if r.status = stPending ∧ h.via.isNone then
            s2.modRing h.ring (fun x => { x with pending := x.pending + 1 })
          else s2
      else s.forward h q pay
    else s.respond q h.bulkOfs { status := stBadLength }
  else s

/-- The axis of a target, if it is one. -/
def tgtAxis? (t : Nat) : Option AxisId := axisOf? t

/-- The group of a target 0x80-0x87. -/
def tgtGrp? (t : Nat) : Option (Fin 8) := if h : 0x80 ≤ t ∧ t < 0x88 then some ⟨t - 0x80, by omega⟩ else none

/-- Members of a group in member order (R226). -/
def State.members (s : State) (g : Fin 8) : List AxisId := (s.par pGrpMember g.val).filterMap (fun x => axisOf? x.toNat)

/-- The group that holds an axis. -/
def State.groupOf (s : State) (a : AxisId) : Option (Fin 8) :=
  (List.finRange 8).find? (fun g => (s.members g).contains a)

end Sys2Proof.Machine
end

