-- ==== Sys2Proof/Machine/Stops.lean ====
section
/-! DEFINITION. Stops, torque off and discarded moves as fault reactions and commands share them (R235-R241, R258, R296). -/

namespace Sys2Proof.Machine

/-- Post MOVE_DROPPED for every entry of a list (R240, R430). -/
def postDrops (unit reason : Nat) (q : List Nat) (s : State) : State :=
  q.foldl (fun s tag => s.postEvent 0x8003 tag unit (toLE 1 reason)) s

/-- TAGs of the entries not yet taken, a waiting REPLACE among them. -/
def Prof.waitingTags (p : Prof) : List Nat := (p.queue ++ p.repl.toList).map (·.2)

/-- TAGs of moves that were taken and have not ended (R217). -/
def Prof.owedTags (p : Prof) : List Nat := p.owed ++ (match p.ovl with | some o => o.owed | none => [])

/-- The queue is empty and no entry waits. -/
def Prof.clearQueue (p : Prof) : Prof := { p with queue := [], repl := none, waiting := false, seen := false, released := false }

/-- Discard the queue of an axis with the reason given. -/
def dropAxisQueue (a : AxisId) (reason : Nat) (s : State) : State :=
  (postDrops a.val reason (s.ax a).prof.waitingTags s).modProf a Prof.clearQueue

/-- Discard the queue of a group. -/
def dropGrpQueue (g : Fin 8) (reason : Nat) (s : State) : State :=
  (postDrops (0x80 + g.val) reason (s.grps.get g).prof.waitingTags s).modGrp g
    (fun x => { x with prof := x.prof.clearQueue })

/-- HOME aborts: it completes with STATE and REFERENCED stays as it is (R258). -/
def homeAbort (a : AxisId) (s : State) : State :=
  let h := (s.ax a).home
  if h.phase = 0 then s
  else
    (s.finish? h.req { status := stState }).modAxis a
      (fun x => { x with home := { x.home with phase := 0, req := none, next := none, pressSince := none, ref := none, refWait := false } })

/-- The axis decouples from its master: gear state OFF, and an engage that waits for its switch ends with STATE (R296). -/
def gearOff (a : AxisId) (s : State) : State :=
  let s1 := match (s.ax a).gear.want with
    | some (_, q) => s.finish? q { status := stState }
    | none => s
  s1.modAxis a (fun x => { x with gear := { x.gear with st := 0, next := none, want := none } })

/-- A pending mode switch is cancelled, and its command completes with the status given (R182). -/
def cancelSwitch (a : AxisId) (status : Nat) (s : State) : State :=
  match (s.ax a).pendSw with
  | none => s
  | some p => (s.finish? p.req { status := if p.made then stOk else status }).modAxis a (fun x => { x with pendSw := none })

/-- No blend runs: its residual is dropped (R179, R181, R182). -/
def Vel.noBlend (v : Vel) : Vel := { v with rho := 0, blendJ := 0, blendN := 0, blend := false }
def Stepper.noBlend (t : Stepper) : Stepper := { t with blJ := 0, blN := 0, blPend := false, blend := false }

/-- The carrier of a frame with ENABLE = 0: no half-bridge, edges zero; DEAD and PERIOD as before (R117). -/
def Carrier.allOff (c : Carrier) : Carrier :=
  { c with edges := [0, 0, 0, 0, 0, 0], bridge := 0, chop := [0, 0, 0, 0] }

/-- A pending AXIS_ENABLE that names the axis is cancelled as a whole and completes with the status given; DETAIL
names the axis. A frame that was built for its first cycle leaves with ENABLE = 0 (R183, R428). -/
def cancelEnable (a : AxisId) (status : Nat) (s : State) : State :=
  let hit := s.cyc.pendEnable.filter (fun p => bitOf p.mask a.val)
  let s1 := { s with cyc := { s.cyc with pendEnable := s.cyc.pendEnable.filter (fun p => ¬ bitOf p.mask a.val) } }
  let off := fun (s : State) (p : PendEnable) =>
    forAxes (maskAxes p.mask) (fun b s => s.modAxis b (fun x => { x with
      enabled := false, dn := if p.effective then { x.dn with enable := false, car := x.dn.car.allOff } else x.dn })) s
  hit.foldl (fun s p => (off s p).finish p.req { status := status, detail := a.val }) s1

/-- A stop runs or has been asked for: 0 none, 1 ramp, 2 quick (R238). A stop at rest is HELD and runs no longer. -/
def Plan.total (p : Plan) : Rat := p.segs.foldl (fun (acc : Rat) g => acc + g.dur) 0

def Plan.ended (p : Plan) : Bool := !p.hold && decide (p.total ≤ p.t)

def Prof.stopRuns (p : Prof) : Nat :=
  let over_ := p.plan.ended && p.ovl.isNone
  max p.stopReq (match p.kind with
    | .stop => if over_ then 0 else 1
    | .qstop => if over_ then 0 else 2
    | _ => 0)

/-- A record whose reaction stopped the profile holds MOVE_QUEUE until it is closed (R240). -/
def Prof.addRec (p : Prof) (slot : Option Nat) : Prof :=
  { p with stopRecs := match slot with | some k => if p.stopRecs.contains k then p.stopRecs else p.stopRecs ++ [k] | none => p.stopRecs }

/-- A stop is asked of a profile: a higher kind prevails (R238); the record whose reaction it is, is kept (R240). -/
def Prof.askStop (p : Prof) (kind reason : Nat) (slot : Option Nat) : Prof :=
  let want := min kind 2
  { p.addRec slot with
    stopReq := if want ≤ p.stopRuns then p.stopReq else want
    stopWhy := if want ≤ p.stopRuns then p.stopWhy else reason
    offAtStill := p.offAtStill || decide (kind = 3), jog := none, jogUntil := none, flush := false }

/-- The profile engine has run in this position cycle (R40). -/
def State.engineRan (s : State) : Bool := !(s.cyc.posCyc && !s.cyc.closed)

/-- An axis in Torque mode with torque is first handed to Velocity mode, in the position cycle after the one in which the engine
decides (R182, R235). A MODE_SET that is pending ends with STATE. Log 237 (DEDUCED). -/
def torqueHandOver (a : AxisId) (s : State) : State :=
  let x := s.ax a
  if x.enabled ∧ x.mode = 0 then
    (cancelSwitch a stState s).modAxis a (fun x => { x with pendSw := some { target := 1, at_ := s.cyc.posNo + (if s.engineRan then 2 else 1), req := none, moved := 0, preset := true } })
  else s

/-- Stop of one axis that moves on its own: kind 1 ramp stop, 2 quick stop, 3 quick stop and torque off at standstill
(R235-R238). -/
def stopAxisOwn (a : AxisId) (kind reason : Nat) (slot : Option Nat) (s : State) : State :=
  let s1 := gearOff a (homeAbort a (dropAxisQueue a reason s))
  (torqueHandOver a s1).modProf a (fun p => p.askStop kind reason slot)

/-- A group moves when a move, an overlap or a stop runs along its path. -/
def Group.moving (g : Group) : Bool :=
  (decide (g.prof.kind ≠ .idle) && !(g.prof.plan.ended && g.prof.ovl.isNone)) || decide (g.prof.stopReq ≠ 0)

/-- The group moves or its queue holds entries (R226, R229). -/
def Group.busy (g : Group) : Bool := g.moving || !g.prof.queue.isEmpty || g.prof.repl.isSome

/-- Stop of a whole group along its path (R239). -/
def stopGroup (g : Fin 8) (kind reason : Nat) (slot : Option Nat) (s : State) : State :=
  let s1 := (dropGrpQueue g reason s).modGrp g (fun x => { x with prof := x.prof.askStop kind reason slot })
  (s1.members g).foldl (fun s a => s.modProf a (fun p =>
    { p.addRec slot with offAtStill := p.offAtStill || decide (kind = 3) })) s1

/-- Stop of an axis, by command or reaction: a member of a group that moves or holds entries stops the group (R239). A reaction cancels
a pending switch (R182). -/
def stopAxis (a : AxisId) (kind reason : Nat) (slot : Option Nat) (s : State) : State :=
  let s0 := match slot with | some _ => cancelSwitch a stState s | none => s
  match s0.groupOf a with
  | some g =>
    if (s0.grps.get g).moving then stopGroup g kind reason slot (homeAbort a s0)
    else stopAxisOwn a kind reason slot (if (s0.grps.get g).busy then stopGroup g kind reason slot s0 else s0)
  | none => stopAxisOwn a kind reason slot s0

/-- Torque off and the axis disabled: the frame being built carries ENABLE = 0, or, from 5 ns before this cycle's frame counts as
built, the next one (R610); queue and move are discarded, homing,
gear and pending requests end (R237, R240, R296, R610). -/
def axisOff (a : AxisId) (reason : Nat) (s : State) : State :=
  let s1 := cancelEnable a stState (cancelSwitch a stState (gearOff a (homeAbort a (dropAxisQueue a reason s))))
  let s2 := postDrops a.val reason (s1.ax a).prof.owedTags s1
  s2.modAxis a (fun x =>
    { x with
      enabled := false
      offLate := x.offLate || (s.inGap && x.enabled)
      vel := if s.inGap then x.vel else x.vel.noBlend
      cur := if s.inGap then x.cur else { x.cur with stp := x.cur.stp.noBlend }
      dn := if s.cyc.opened ∨ s.inGap then x.dn else { x.dn with enable := false, car := x.dn.car.allOff }
      prof := { x.prof.clearQueue with
        kind := .idle, plan := {}, act := none, ovl := none, owed := [], vt := 0, jog := none, jogUntil := none,
        flush := false, replan := false, stopReq := 0, stopWhy := 0, stopDeadline := none, offAtStill := false,
        stillRun := 0, pre := none, late := false, sp := { x.prof.sp with v := 0, a := 0 } } })

/-- Torque off of an axis by a reaction at level 3 or 5; the other members of its group quick-stop along the path, and the
group's queue is discarded (R229, R239). -/
def reactOff (a : AxisId) (slot : Option Nat) (s : State) : State :=
  let s1 := match s.groupOf a with
    | some g => if (s.grps.get g).busy then stopGroup g 2 4 slot s else s
    | none => s
  (axisOff a 4 s1).modProf a (fun p => p.addRec slot)

end Sys2Proof.Machine
end

