-- ==== Sys2Proof/Machine/Faults.lean ====
section
/-! DEFINITION. Fault collection, escalation and masking (16_faults.md): codes, records, reactions and the decision of
the occurrences that reached the collector. -/

namespace Sys2Proof.Machine

/-- When a record becomes LATCHED (R472). -/
inductive Clears where
  | event
  | cond
  | action
  deriving DecidableEq, Repr

/-- Kind of unit a code names (R470, R487). -/
inductive UnitKind where
  | module
  | axis
  | domain
  | tile
  | spare
  | axisOrGroup
  | port
  | tide
  | tq
  | dq
  | di
  | can
  | pair
  | so
  | ageing
  deriving DecidableEq, Repr

/-- One row of the code tables (R487). -/
structure CodeRow where
  code : Nat
  kind : UnitKind
  level : Nat
  clears : Clears
  deriving DecidableEq, Repr

/-- PLL_UNLOCK. -/
abbrev fPllUnlock : Nat := 0x0001
/-- SUP_WATCHDOG. -/
abbrev fSupWatchdog : Nat := 0x0002
/-- SUP_ECC_CE. -/
abbrev fSupEccCe : Nat := 0x0003
/-- SUP_ECC_UE. -/
abbrev fSupEccUe : Nat := 0x0004
/-- FW_FALLBACK. -/
abbrev fFwFallback : Nat := 0x0005
/-- DRAM_CE. -/
abbrev fDramCe : Nat := 0x0101
/-- DRAM_UE. -/
abbrev fDramUe : Nat := 0x0102
/-- RING_UE. -/
abbrev fRingUe : Nat := 0x0103
/-- SS_CE. -/
abbrev fSsCe : Nat := 0x0104
/-- SS_UE. -/
abbrev fSsUe : Nat := 0x0105
/-- FLASH_STORE. -/
abbrev fFlashStore : Nat := 0x0106
/-- DOMAIN_LOST. -/
abbrev fDomainLost : Nat := 0x0201
/-- VSYS_LOW. -/
abbrev fVsysLow : Nat := 0x0202
/-- VBAK_LOW. -/
abbrev fVbakLow : Nat := 0x0203
/-- TEMP_WARN. -/
abbrev fTempWarn : Nat := 0x0301
/-- TEMP_HIGH. -/
abbrev fTempHigh : Nat := 0x0302
/-- TEMP_CRIT. -/
abbrev fTempCrit : Nat := 0x0303
/-- TRANSIENT. -/
abbrev fTransient : Nat := 0x0401
/-- TILE_FAIL. -/
abbrev fTileFail : Nat := 0x0402
/-- SPARE_FAIL. -/
abbrev fSpareFail : Nat := 0x0403
/-- TILE_LATE. -/
abbrev fTileLate : Nat := 0x0404
/-- CB_ACCESS. -/
abbrev fCbAccess : Nat := 0x0405
/-- CB_ABSENT. -/
abbrev fCbAbsent : Nat := 0x0406
/-- ID_BOUND. -/
abbrev fIdBound : Nat := 0x0407
/-- UP_LOST. -/
abbrev fUpLost : Nat := 0x0501
/-- LOST_RATE. -/
abbrev fLostRate : Nat := 0x0502
/-- DN_LOST. -/
abbrev fDnLost : Nat := 0x0503
/-- OFF_LOST. -/
abbrev fOffLost : Nat := 0x0504
/-- TRAIN_FAIL. -/
abbrev fTrainFail : Nat := 0x0505
/-- MEASURE_FAIL. -/
abbrev fMeasureFail : Nat := 0x0506
/-- EYE_LOW. -/
abbrev fEyeLow : Nat := 0x0507
/-- DELAY_SPREAD. -/
abbrev fDelaySpread : Nat := 0x0508
/-- ID_CHANGE. -/
abbrev fIdChange : Nat := 0x0509
/-- TRIP. -/
abbrev fTrip : Nat := 0x0601
/-- TRIP_DEAD. -/
abbrev fTripDead : Nat := 0x0602
/-- GATE_UV. -/
abbrev fGateUv : Nat := 0x0603
/-- OVERTEMP. -/
abbrev fOvertemp : Nat := 0x0604
/-- VBUS_OV. -/
abbrev fVbusOv : Nat := 0x0605
/-- VBUS_UV. -/
abbrev fVbusUv : Nat := 0x0606
/-- FB_FAULT. -/
abbrev fFbFault : Nat := 0x0607
/-- STO_MISMATCH. -/
abbrev fStoMismatch : Nat := 0x0608
/-- OVERCURRENT. -/
abbrev fOvercurrent : Nat := 0x0609
/-- ISUM. -/
abbrev fIsum : Nat := 0x060A
/-- PLAUS. -/
abbrev fPlaus : Nat := 0x0701
/-- SC_AMPL. -/
abbrev fScAmpl : Nat := 0x0702
/-- ILLEGAL. -/
abbrev fIllegal : Nat := 0x0703
/-- INDEX_DEV. -/
abbrev fIndexDev : Nat := 0x0704
/-- HALL_INVALID. -/
abbrev fHallInvalid : Nat := 0x0705
/-- COMM_DEV. -/
abbrev fCommDev : Nat := 0x0706
/-- POS_RANGE. -/
abbrev fPosRange : Nat := 0x0707
/-- EMU_LAG. -/
abbrev fEmuLag : Nat := 0x0708
/-- FERR. -/
abbrev fFerr : Nat := 0x0801
/-- OVERSPEED. -/
abbrev fOverspeed : Nat := 0x0802
/-- SETPOINT_LATE. -/
abbrev fSetpointLate : Nat := 0x0803
/-- STALL. -/
abbrev fStall : Nat := 0x0804
/-- LATE_START. -/
abbrev fLateStart : Nat := 0x0805
/-- STOP_TIMEOUT. -/
abbrev fStopTimeout : Nat := 0x0806
/-- JOG_TIMEOUT. -/
abbrev fJogTimeout : Nat := 0x0807
/-- SOFT_LIMIT. -/
abbrev fSoftLimit : Nat := 0x0808
/-- HW_LIMIT. -/
abbrev fHwLimit : Nat := 0x0809
/-- LIM_CHATTER. -/
abbrev fLimChatter : Nat := 0x080A
/-- HOME_LIMIT. -/
abbrev fHomeLimit : Nat := 0x080B
/-- HOME_CHATTER. -/
abbrev fHomeChatter : Nat := 0x080C
/-- HOME_TRAVEL. -/
abbrev fHomeTravel : Nat := 0x080D
/-- CAM_SLOPE. -/
abbrev fCamSlope : Nat := 0x080E
/-- LINK_DOWN. -/
abbrev fLinkDown : Nat := 0x0901
/-- LINK_DELAY. -/
abbrev fLinkDelay : Nat := 0x0902
/-- LINK_FOREIGN. -/
abbrev fLinkForeign : Nat := 0x0903
/-- DISCOVER_FAIL. -/
abbrev fDiscoverFail : Nat := 0x0904
/-- TT_ABANDON. -/
abbrev fTtAbandon : Nat := 0x0905
/-- TT_FOLLOW. -/
abbrev fTtFollow : Nat := 0x0906
/-- RATE_LIMIT. -/
abbrev fRateLimit : Nat := 0x0907
/-- NO_SOURCE. -/
abbrev fNoSource : Nat := 0x0908
/-- SYNC_LOST. -/
abbrev fSyncLost : Nat := 0x0909
/-- FT_FAR. -/
abbrev fFtFar : Nat := 0x090A
/-- CYCLE_MISMATCH. -/
abbrev fCycleMismatch : Nat := 0x090B
/-- NODES_LOST. -/
abbrev fNodesLost : Nat := 0x090C
/-- TIDE_CANCEL. -/
abbrev fTideCancel : Nat := 0x090D
/-- TIDE_DIVERGED. -/
abbrev fTideDiverged : Nat := 0x090E
/-- TIDE_STALE. -/
abbrev fTideStale : Nat := 0x090F
/-- MASTER_STALE. -/
abbrev fMasterStale : Nat := 0x0910
/-- REF_DRIFT. -/
abbrev fRefDrift : Nat := 0x0A01
/-- REF_FAIL. -/
abbrev fRefFail : Nat := 0x0A02
/-- JUMP_REFUSED. -/
abbrev fJumpRefused : Nat := 0x0A03
/-- NT_HOLDOVER. -/
abbrev fNtHoldover : Nat := 0x0A04
/-- PTP_LOST. -/
abbrev fPtpLost : Nat := 0x0A05
/-- PPS_BAD. -/
abbrev fPpsBad : Nat := 0x0A06
/-- TQ_SKIP. -/
abbrev fTqSkip : Nat := 0x0A07
/-- FIELD_SILENT. -/
abbrev fFieldSilent : Nat := 0x0B01
/-- FIELD_CLOCK. -/
abbrev fFieldClock : Nat := 0x0B02
/-- VFLD_SAG. -/
abbrev fVfldSag : Nat := 0x0B03
/-- DQ_OVERLOAD. -/
abbrev fDqOverload : Nat := 0x0B04
/-- DQ_EXTERNAL. -/
abbrev fDqExternal : Nat := 0x0B05
/-- WIRE_BREAK. -/
abbrev fWireBreak : Nat := 0x0B06
/-- BUS_OFF. -/
abbrev fBusOff : Nat := 0x0C01
/-- ERROR_PASSIVE. -/
abbrev fErrorPassive : Nat := 0x0C02
/-- RX_OVERRUN. -/
abbrev fRxOverrun : Nat := 0x0C03
/-- SAFE_CLOCK. -/
abbrev fSafeClock : Nat := 0x0D01
/-- DISCREPANCY. -/
abbrev fDiscrepancy : Nat := 0x0D02
/-- CROSS_SHORT. -/
abbrev fCrossShort : Nat := 0x0D03
/-- SO_READBACK. -/
abbrev fSoReadback : Nat := 0x0D04
/-- MSG_MISMATCH. -/
abbrev fMsgMismatch : Nat := 0x0D05
/-- MSG_WATCHDOG. -/
abbrev fMsgWatchdog : Nat := 0x0D06
/-- CONFIG_BAD. -/
abbrev fConfigBad : Nat := 0x0D07
/-- POST_FAIL. -/
abbrev fPostFail : Nat := 0x0E01
/-- BIST_FAIL. -/
abbrev fBistFail : Nat := 0x0E02
/-- AGE_WARN. -/
abbrev fAgeWarn : Nat := 0x0E03
/-- AGE_DERATE. -/
abbrev fAgeDerate : Nat := 0x0E04
/-- HOST_SILENT. -/
abbrev fHostSilent : Nat := 0x0F01
/-- RING_OVERRUN. -/
abbrev fRingOverrun : Nat := 0x0F02
/-- EVT_OVERFLOW. -/
abbrev fEvtOverflow : Nat := 0x0F03
/-- ETH_LINK. -/
abbrev fEthLink : Nat := 0x0F04
/-- APPLY_UNDECIDED. -/
abbrev fApplyUndecided : Nat := 0x0F05

/-- Codes of class 0 (R487). -/
def codes0 : List CodeRow := [
  ⟨0x0001, .module, 5, .cond⟩,
  ⟨0x0002, .module, 5, .event⟩,
  ⟨0x0003, .module, 0, .event⟩,
  ⟨0x0004, .module, 5, .event⟩,
  ⟨0x0005, .module, 1, .event⟩]

/-- Codes of class 1 (R487). -/
def codes1 : List CodeRow := [
  ⟨0x0101, .module, 0, .event⟩,
  ⟨0x0102, .module, 4, .event⟩,
  ⟨0x0103, .module, 1, .event⟩,
  ⟨0x0104, .axis, 0, .event⟩,
  ⟨0x0105, .axis, 3, .event⟩,
  ⟨0x0106, .module, 1, .event⟩]

/-- Codes of class 2 (R487). -/
def codes2 : List CodeRow := [
  ⟨0x0201, .domain, 5, .cond⟩,
  ⟨0x0202, .module, 4, .cond⟩,
  ⟨0x0203, .module, 1, .cond⟩]

/-- Codes of class 3 (R487). -/
def codes3 : List CodeRow := [
  ⟨0x0301, .module, 1, .cond⟩,
  ⟨0x0302, .module, 4, .cond⟩,
  ⟨0x0303, .module, 5, .cond⟩]

/-- Codes of class 4 (R487). -/
def codes4 : List CodeRow := [
  ⟨0x0401, .tile, 1, .event⟩,
  ⟨0x0402, .tile, 1, .event⟩,
  ⟨0x0403, .spare, 1, .event⟩,
  ⟨0x0404, .tile, 3, .event⟩,
  ⟨0x0405, .axis, 3, .event⟩,
  ⟨0x0406, .module, 1, .event⟩,
  ⟨0x0407, .axis, 1, .cond⟩]

/-- Codes of class 5 (R487). -/
def codes5 : List CodeRow := [
  ⟨0x0501, .axis, 0, .cond⟩,
  ⟨0x0502, .axis, 1, .cond⟩,
  ⟨0x0503, .axis, 0, .event⟩,
  ⟨0x0504, .axis, 3, .cond⟩,
  ⟨0x0505, .axis, 1, .cond⟩,
  ⟨0x0506, .axis, 1, .event⟩,
  ⟨0x0507, .axis, 1, .cond⟩,
  ⟨0x0508, .axis, 1, .event⟩,
  ⟨0x0509, .axis, 3, .event⟩]

/-- Codes of class 6 (R487). -/
def codes6 : List CodeRow := [
  ⟨0x0601, .axis, 3, .action⟩,
  ⟨0x0602, .axis, 3, .action⟩,
  ⟨0x0603, .axis, 3, .cond⟩,
  ⟨0x0604, .axis, 3, .cond⟩,
  ⟨0x0605, .axis, 3, .cond⟩,
  ⟨0x0606, .axis, 2, .cond⟩,
  ⟨0x0607, .axis, 3, .cond⟩,
  ⟨0x0608, .axis, 3, .cond⟩,
  ⟨0x0609, .axis, 3, .cond⟩,
  ⟨0x060A, .axis, 3, .cond⟩]

/-- Codes of class 7 (R487). -/
def codes7 : List CodeRow := [
  ⟨0x0701, .axis, 3, .cond⟩,
  ⟨0x0702, .axis, 3, .cond⟩,
  ⟨0x0703, .axis, 3, .event⟩,
  ⟨0x0704, .axis, 2, .event⟩,
  ⟨0x0705, .axis, 3, .cond⟩,
  ⟨0x0706, .axis, 2, .event⟩,
  ⟨0x0707, .axis, 1, .cond⟩,
  ⟨0x0708, .module, 1, .cond⟩]

/-- Codes of class 8 (R487). -/
def codes8 : List CodeRow := [
  ⟨0x0801, .axis, 2, .event⟩,
  ⟨0x0802, .axis, 3, .event⟩,
  ⟨0x0803, .axis, 1, .cond⟩,
  ⟨0x0804, .axis, 2, .event⟩,
  ⟨0x0805, .axisOrGroup, 1, .event⟩,
  ⟨0x0806, .axisOrGroup, 3, .event⟩,
  ⟨0x0807, .axis, 0, .event⟩,
  ⟨0x0808, .axis, 2, .event⟩,
  ⟨0x0809, .axis, 2, .cond⟩,
  ⟨0x080A, .axis, 1, .cond⟩,
  ⟨0x080B, .axis, 2, .event⟩,
  ⟨0x080C, .axis, 2, .event⟩,
  ⟨0x080D, .axis, 2, .event⟩,
  ⟨0x080E, .axis, 0, .event⟩]

/-- Codes of class 9 (R487). -/
def codes9 : List CodeRow := [
  ⟨0x0901, .port, 1, .cond⟩,
  ⟨0x0902, .port, 1, .cond⟩,
  ⟨0x0903, .port, 1, .cond⟩,
  ⟨0x0904, .module, 1, .event⟩,
  ⟨0x0905, .module, 1, .event⟩,
  ⟨0x0906, .module, 1, .event⟩,
  ⟨0x0907, .module, 1, .cond⟩,
  ⟨0x0908, .module, 1, .cond⟩,
  ⟨0x0909, .module, 1, .cond⟩,
  ⟨0x090A, .module, 4, .cond⟩,
  ⟨0x090B, .module, 1, .cond⟩,
  ⟨0x090C, .module, 1, .cond⟩,
  ⟨0x090D, .tide, 1, .event⟩,
  ⟨0x090E, .tide, 2, .cond⟩,
  ⟨0x090F, .tide, 2, .cond⟩,
  ⟨0x0910, .axis, 2, .cond⟩]

/-- Codes of class 10 (R487). -/
def codesA : List CodeRow := [
  ⟨0x0A01, .module, 1, .cond⟩,
  ⟨0x0A02, .module, 5, .cond⟩,
  ⟨0x0A03, .module, 1, .cond⟩,
  ⟨0x0A04, .module, 1, .cond⟩,
  ⟨0x0A05, .module, 1, .cond⟩,
  ⟨0x0A06, .module, 0, .event⟩,
  ⟨0x0A07, .tq, 0, .event⟩]

/-- Codes of class 11 (R487). -/
def codesB : List CodeRow := [
  ⟨0x0B01, .module, 4, .cond⟩,
  ⟨0x0B02, .module, 5, .cond⟩,
  ⟨0x0B03, .module, 1, .action⟩,
  ⟨0x0B04, .dq, 1, .cond⟩,
  ⟨0x0B05, .dq, 0, .cond⟩,
  ⟨0x0B06, .di, 1, .cond⟩]

/-- Codes of class 12 (R487). -/
def codesC : List CodeRow := [
  ⟨0x0C01, .can, 1, .cond⟩,
  ⟨0x0C02, .can, 0, .cond⟩,
  ⟨0x0C03, .can, 0, .event⟩]

/-- Codes of class 13 (R487). -/
def codesD : List CodeRow := [
  ⟨0x0D01, .module, 5, .cond⟩,
  ⟨0x0D02, .pair, 5, .action⟩,
  ⟨0x0D03, .pair, 5, .action⟩,
  ⟨0x0D04, .so, 5, .action⟩,
  ⟨0x0D05, .module, 5, .action⟩,
  ⟨0x0D06, .module, 5, .action⟩,
  ⟨0x0D07, .module, 5, .action⟩]

/-- Codes of class 14 (R487). -/
def codesE : List CodeRow := [
  ⟨0x0E01, .module, 4, .event⟩,
  ⟨0x0E02, .module, 1, .event⟩,
  ⟨0x0E03, .ageing, 1, .event⟩,
  ⟨0x0E04, .module, 1, .event⟩]

/-- Codes of class 15 (R487). -/
def codesF : List CodeRow := [
  ⟨0x0F01, .module, 4, .cond⟩,
  ⟨0x0F02, .module, 1, .event⟩,
  ⟨0x0F03, .module, 0, .event⟩,
  ⟨0x0F04, .module, 1, .cond⟩,
  ⟨0x0F05, .module, 2, .event⟩]

/-- The fault codes (R487). -/
def codeTable : List CodeRow :=
  codes0 ++ codes1 ++ codes2 ++ codes3 ++ codes4 ++ codes5 ++ codes6 ++ codes7 ++ codes8 ++ codes9 ++ codesA ++ codesB ++ codesC ++ codesD ++ codesE ++ codesF
def codeRow (c : Nat) : Option CodeRow := codeTable.find? (fun r => r.code = c)

/-- Default level of DOMAIN_LOST by domain, in the order of R15; a tile's is 3 unless a spare takes over (R19). KEEP is
never lost: 5 stands for it (log 14). -/
def domainLevel (d : Nat) : Nat := [5, 5, 5, 5, 3, 3, 3, 3, 3, 5, 4, 4, 5, 5].getD d 5

/-- Default level of a code on a unit (R487). -/
def defaultLevel (code unit : Nat) : Nat :=
  if code = fDomainLost then domainLevel (unit - 0x70)
  else match codeRow code with
    | some r => r.level
    | none => 0

/-- What clears the record of a code, by the code table (R472, R487). -/
def clearsOf (code : Nat) : Clears :=
  match codeRow code with
  | some r => r.clears
  | none => .event

/-- A unit code is of the unit kind of a fault code (R470, R483). -/
def unitIs (k : UnitKind) (u : Nat) : Bool :=
  match k with
  | .module => decide (u = 0xFF)
  | .axis => decide (u < 0x20)
  | .domain => decide (0x70 ≤ u ∧ u ≤ 0x7D)
  | .tile => decide (0x60 ≤ u ∧ u ≤ 0x64)
  | .spare => decide (u = 0x64)
  | .axisOrGroup => decide (u < 0x20 ∨ (0x80 ≤ u ∧ u ≤ 0x87))
  | .port => decide (0x68 ≤ u ∧ u ≤ 0x6B)
  | .tide => decide (0x40 ≤ u ∧ u ≤ 0x43)
  | .tq => decide (0xB8 ≤ u ∧ u ≤ 0xBB)
  | .dq => decide (0xA0 ≤ u ∧ u ≤ 0xA7)
  | .di => decide (0x90 ≤ u ∧ u ≤ 0x9F)
  | .can => decide (0xAC ≤ u ∧ u ≤ 0xAD)
  | .pair => decide (0xB0 ≤ u ∧ u ≤ 0xB3)
  | .so => decide (0xA8 ≤ u ∧ u ≤ 0xA9)
  | .ageing => decide (0x100 ≤ u ∧ u ≤ 0x12F)

/-- A record that is ACTIVE or LATCHED. -/
def FltRec.isOpen (r : FltRec) : Bool := decide (r.state = 1 ∨ r.state = 2)

/-- The record in a slot; an unlisted slot is empty (R471). -/
def State.frec (s : State) (i : Nat) : FltRec := alGet {} i s.flt.recs

/-- Slots of the open records, ascending. -/
def State.openSlots (s : State) : List Nat := (s.flt.recs.filter (fun e => e.2.isOpen)).map (·.1)

def State.modRec (s : State) (i : Nat) (f : FltRec → FltRec) : State :=
  { s with flt := { s.flt with recs := alSet {} i (f (s.frec i)) s.flt.recs } }

/-- Masters that an axis is geared to: that of the function it follows, and that of an engage that waits or runs (R289, R296). -/
def Gear.masters (g : Gear) : List Nat :=
  if g.st = 0 then [] else ((g.next.map (fun c => c.master)).toList ++ [g.run.master]).filter (fun m => decide (m ≠ 0))

/-- Axes of the node that follow a tide (R296, R467). -/
def State.tideAxes (s : State) (t : Nat) : List AxisId :=
  allAxes.filter (fun a => (s.ax a).gear.masters.any (fun m => decide (m % 0x10000 = 1 + 0x100 * t)))

/-- Axes whose slots a tile holds. -/
def State.tileAxes (s : State) (t : Nat) : List AxisId := (s.tiles.map.getD t []).filterMap axisOf?

/-- Axes that the reactions at levels 2 and 3 of a unit affect (R467). -/
def State.unitAxes (s : State) (u : Nat) : List AxisId :=
  if u < 0x20 then (axisOf? u).toList
  else if 0x40 ≤ u ∧ u ≤ 0x43 then s.tideAxes (u - 0x40)
  else if 0x60 ≤ u ∧ u ≤ 0x64 then s.tileAxes (u - 0x60)
  else if 0x74 ≤ u ∧ u ≤ 0x78 then s.tileAxes (u - 0x74)
  else match tgtGrp? u with
    | some g => s.members g
    | none => allAxes

/-- The unit on which a fault acts: that of NODES_LOST is the module, although its record names a node address (R372, R374). Log 126 (DEDUCED). -/
def scopeOf (code unit : Nat) : Nat := if code = fNodesLost then 0xFF else unit

/-- The same of a record. -/
def FltRec.scope (r : FltRec) : Nat := scopeOf r.code r.unit

/-- A record at level 3 or above that is open and names the unit: the unit is masked (R467). -/
def State.unitMasked (s : State) (u : Nat) : Bool :=
  s.openSlots.any (fun i => let r := s.frec i; decide (r.scope = u ∧ 3 ≤ r.level))

/-- AXIS_ENABLE of the axis is refused with STATE (R468). -/
def State.axisMasked (s : State) (a : AxisId) : Bool :=
  s.openSlots.any (fun i =>
    let r := s.frec i
    decide (4 ≤ r.level) ||
    (decide (3 ≤ r.level) && (decide (r.scope = a.val) || r.masks.contains a.val)))

/-- SOA and SOB open, and both paths need a new reset (R469, R511). -/
def State.openSafe (s : State) : State :=
  { s with safe := { s.safe with
      soa := false, sob := false, toggling := false, level5 := true,
      proc := { s.safe.proc with closed := false, resetMade := false, waitLocal := true, ss1 := none, seen := s.time.lt }
      logic := { s.safe.logic with closed := false, resetMade := false, waitLocal := true, ss1 := none, seen := s.time.lt } } }

/-- A Causeway port falls to DOWN: link measurement and admission start again (R339). Its error counts stay. -/
def dropPort (p : PortId) (s : State) : State :=
  s.modPort p (fun x => { ({} : Port) with crcErrors := x.crcErrors, stomped := x.stomped, table := x.table })

/-- A port that has fallen is neither FOREIGN nor too long (R339-R341). -/
def portConditionsEnd (p : PortId) (x : Port) (s : State) : State :=
  let s1 := if x.st = 5 then s.clearCond fLinkForeign (0x68 + p.val) else s
  if x.delayRep then s1.clearCond fLinkDelay (0x68 + p.val) else s1

/-! ### Tiles as units (R324, R330) -/

/-- Power domain of a tile (R15). -/
def tileDom (i : Fin 5) : Domain := [Domain.t0, .t1, .t2, .t3, .t4].getD i.val .t4

/-- Tile of a number. -/
def tileIdx (n : Nat) : Fin 5 := ⟨n % 5, by omega⟩

def State.tileRow (s : State) (i : Fin 5) : List Nat := s.tiles.map.getD i.val []

/-- A tile holds no axis in the map in force (R324). -/
def State.rowEmpty (s : State) (i : Fin 5) : Bool := (s.tileRow i).all (fun x => decide (x = 255))

/-- A tile is on, past its two control cycles, and not masked (R17). -/
def State.tileReady (s : State) (i : Fin 5) : Bool :=
  let x := s.tiles.tiles.get i
  s.domOn (tileDom i) && x.powerDue.isNone && !x.masked

def State.spareMode (s : State) : Nat := s.pn pCycSpareMode 0

/-- T4 can take over a tile's slots at once (R330). -/
def State.spareFree (s : State) : Bool := decide (s.spareMode ≠ 0) && s.tileReady 4 && s.rowEmpty 4

def maskTile (i : Fin 5) (s : State) : State := s.modTile i (fun x => { x with masked := true })

def emptyRow : List Nat := List.replicate 8 255

/-- T4 takes the slots of a tile in the same order (R324, R329). -/
def spareTakes (i : Fin 5) (s : State) : State :=
  { s with tiles := { s.tiles with
      map := (s.tiles.map.set 4 (s.tileRow i)).set i.val emptyRow, spareOf := some i.val, checked := 7 } }

/-- The slots of a tile are on no tile any more (R331). -/
def dropRow (i : Fin 5) (s : State) : State :=
  { s with tiles := { s.tiles with map := s.tiles.map.set i.val emptyRow } }

/-- The rows of `cyc.tile_assign` in a bank (R324): five lists of slots. -/
def assignRows (b : Bank) : List (List Nat) :=
  (bankGet b pCycTileAssign 0).map (fun v => (List.range 8).map (fun j => fieldOf v.toNat (8 * j) 8))

/-- The slot map that APPLY forms from a bank: the tile substitution (R324). -/
def formMap (s : State) (b : Bank) : List (List Nat) :=
  let rows := assignRows b
  let masked := fun (i : Nat) => decide (i < 5) && (s.tiles.tiles.get (tileIdx i)).masked
  let taken := match s.tiles.spareOf with
    | some i => (rows.getD i []).filter (fun x => decide (x ≠ 255))
    | none => []
  let own := (rows.getD 4 []).filter (fun x => decide (x ≠ 255))
  let four := own ++ taken
  let row4 := if masked 4 then emptyRow
    else if own.isEmpty then (match s.tiles.spareOf with | some i => rows.getD i emptyRow | none => emptyRow)
    else four ++ List.replicate (8 - four.length) 255
  ((List.range 4).map (fun i => if masked i ∨ s.tiles.spareOf = some i then emptyRow else rows.getD i emptyRow)) ++ [row4]

/-- A tile that is no longer masked: its slots are on it again, but for slots that T4 has taken over (R324, R484).
Log 122 (DEDUCED). -/
def unmaskTile (i : Fin 5) (s : State) : State :=
  let s1 := s.modTile i (fun x => { x with masked := false, injMask := false })
  { s1 with tiles := { s1.tiles with map := s1.tiles.map.set i.val ((formMap s1 s1.prm.topcoat).getD i.val emptyRow) } }

/-- A record at level 3 masks a tile: T4 takes its slots where it can; else, once its axes are off, they are on no tile. A mask
by a record that is injected only is marked (R330, R331, R467, R484). -/
def maskByRecord (i : Fin 5) (slot : Option Nat) (s : State) : State :=
  if (s.tiles.tiles.get i).masked then s
  else
    let inj := match slot with | some k => (s.frec k).isInj && !(s.frec k).real | none => false
    let s1 := (maskTile i s).modTile i (fun x => { x with injMask := inj })
    if i.val < 4 ∧ s.spareFree then spareTakes i s1 else s1

/-- A channel leaves the bus: it is neither bus-off nor error passive any more (R467, R533). -/
def canOff (c : Fin 2) (s : State) : State :=
  let x := s.can.get c
  let s1 := if x.st = 4 ∨ x.st = 5 then s.clearCond fBusOff (0xAC + c.val) else s
  let s2 := if x.st = 3 then s1.clearCond fErrorPassive (0xAC + c.val) else s1
  s2.modCan c (fun x => { x with st := 0 })

/-- What a mask of a unit holds besides its axes: a Causeway port in DOWN, a CAN channel off the bus, a tile (R467). -/
def maskUnit (u : Nat) (slot : Option Nat) (s : State) : State :=
  if 0x68 ≤ u ∧ u ≤ 0x6B then
    let p : PortId := ⟨(u - 0x68) % 4, by omega⟩
    portConditionsEnd p (s.fab.ports.get p) (dropPort p s)
  else if 0xAC ≤ u ∧ u ≤ 0xAD then
    let c : Fin 2 := ⟨(u - 0xAC) % 2, by omega⟩
    canOff c s
  else if 0x60 ≤ u ∧ u ≤ 0x64 then maskByRecord (tileIdx (u - 0x60)) slot s
  else s

/-- A CAN channel whose mask lifts integrates again (R467, R530). -/
def unmaskCan (c : Fin 2) (s : State) : State :=
  let x := s.can.get c
  if x.st = 0 ∧ s.p1 pCanMode c.val ≠ 0 ∧ ¬ x.rateBad ∧ s.domOn .host ∧ ¬ s.unitMasked (0xAC + c.val) then
    s.modCan c (fun c => { c with st := 1 })
  else s

/-- Start the reaction of a level on a unit; at level 4 or 5 a running BIST is cut short (R466, R469, R577). Log 123 (DEDUCED). Log 124 (DEDUCED). -/
def react (level unit : Nat) (slot : Option Nat) (s : State) : State :=
  let s := if 3 ≤ level then maskUnit unit slot s else s
  let s := if 4 ≤ level ∧ s.life.bist.isSome then { s with life := { s.life with bistCut := true } } else s
  if level ≤ 1 then s
  else if level = 2 then
    match tgtGrp? unit with
    | some g =>
      let own := if (s.grps.get g).moving then [] else s.members g
      stopGroup g 1 4 slot (forAxes own (fun a s => stopAxisOwn a 1 4 slot s) s)
    | none => forAxes (s.unitAxes unit) (fun a s => stopAxis a 1 4 slot s) s
  else if level = 3 then
    let s1 := forAxes (s.unitAxes unit) (fun a s => reactOff a slot s) s
    if 0x60 ≤ unit ∧ unit ≤ 0x64 then dropRow (tileIdx (unit - 0x60)) s1 else s1
  else if level = 4 then forAxes allAxes (fun a s => stopAxis a 3 4 slot s) s
  else (forAxes allAxes (fun a s => (axisOff a 4 s).modProf a (fun p => p.addRec slot)) s).openSafe

/-- FT, or LT while FT is not valid, and the TIME_LT flag (R471). -/
def State.recTime (s : State) : Int × Bool := if s.fab.ftValid then (s.ft, false) else (s.time.lt, true)

/-- Post FAULT_NEW (R482). -/
def postFaultNew (i : Nat) (s : State) : State :=
  let r := s.frec i
  s.postEvent 0x8010 0 r.unit (toLE 2 i ++ toLE 1 r.cls ++ toLE 1 r.level ++ toLE 2 r.code ++ toLE 2 r.unit)

/-- A record becomes LATCHED, with CLEARED_AT stamped and FAULT_CLEARED posted (R472, R482). Log 125 (DEDUCED). -/
def latchRec (i : Nat) (at_ : Int) (s : State) : State :=
  let u := (s.frec i).unit
  (s.modRec i (fun r => { r with state := 2, cleared := at_ })).postEvent 0x8011 0 u (toLE 2 i)

/-- First slot after FLT_NEWEST that is empty or CLOSED (R474). -/
def State.freeSlot (s : State) : Option (Nat) :=
  let base := if s.flt.newest = 0xFFFF then 0 else s.flt.newest + 1
  ((List.range 256).map (fun j => (base + j) % 256)).find?
    (fun i => ¬ (s.frec i).isOpen)

/-- Oldest open record of a class. -/
def State.oldestOf (s : State) (c : Nat) : Option (Nat) :=
  (s.openSlots.filter (fun i => decide ((s.frec i).cls = c))).foldl
    (fun acc i => match acc with
      | none => some i
      | some j => if (s.frec i).order < (s.frec j).order then some i else some j) none

/-- Another open record of the class that is not of the same incident (R477, R478). -/
def State.otherOpen (s : State) (c incident : Nat) (self : Option (Nat)) : Bool :=
  s.openSlots.any (fun i =>
    let r := s.frec i
    decide (r.cls = c ∧ some i ≠ self) && (decide (incident = 0) || decide (r.incident ≠ incident)))

/-- LEVEL after a possible escalation from DEFAULT (R477). -/
def escalated (s : State) (r : FltRec) (second : Bool) : FltRec :=
  if second ∧ s.p1 pFltClassEscalate r.cls ≠ 0 then
    { r with level := max r.level (min (r.dflt + 1) 5), escalated := true }
  else { r with level := max r.level r.dflt }

/-- What an injection does to the record it meets (R483): the window's end in LT ns. -/
abbrev InjWin := Option Nat

/-- A freeze of the recorder is due: at once for RING_UE, 64 control cycles after a record opens at or rises to level 3 (R556). -/
def freezeFor (r : FltRec) (before : Nat) (fresh : Bool) (s : State) : State :=
  if s.rcd.frozen then s
  else if r.code = fRingUe ∧ fresh then { s with rcd := { s.rcd with freezeDue := some (0, true) } }
  else if s.rcd.freezeDue.isNone ∧ 3 ≤ r.level ∧ (fresh ∨ before < 3) then
    { s with rcd := { s.rcd with freezeDue := some (64, true) } }
  else s

/-- The axes of a group or tide that the reaction of a record at level 3 or above affects are masked by it (R467, R468). -/
def noteMasks (i : Nat) (s : State) : State :=
  let r := s.frec i
  if 3 ≤ r.level ∧ ((0x80 ≤ r.scope ∧ r.scope ≤ 0x87) ∨ (0x40 ≤ r.scope ∧ r.scope ≤ 0x43)) then
    s.modRec i (fun r => { r with masks := r.masks ++ ((s.unitAxes r.scope).map (fun a => a.val)).filter (fun a => !r.masks.contains a) })
  else s

/-- After a record was written: post, react, and latch a record of kind E (R472, R482). -/
def afterOccurrence (i : Nat) (before : Nat) (fresh : Bool) (s : State) : State :=
  let r := s.frec i
  let s1 := if fresh ∨ before < r.level then react r.level r.scope (some i) (noteMasks i (postFaultNew i (freezeFor r before fresh s))) else s
  if r.state = 1 ∧ clearsOf r.code = .event then latchRec i r.last s1 else s1

/-- Update of an ACTIVE record (R473 step 1). -/
def updateRec (i : Nat) (lvl : Nat) (t : Int) (inj : InjWin) (s : State) : State :=
  let r := s.frec i
  let r1 := { r with
    repeat_ := incSat 16 r.repeat_, last := t, dflt := max r.dflt lvl, level := max r.level lvl,
    real := (match inj with
      | none => r.real || r.isInj
      | some _ => r.real || !r.isInj),
    isInj := r.isInj || inj.isSome,
    winEnd := (match inj with
      | some w => if r.isInj ∧ ¬ r.real then max r.winEnd w else r.winEnd
      | none => r.winEnd) }
  afterOccurrence i r.level false (s.modRec i (fun _ => r1))

/-- Re-opening of a LATCHED record (R473 step 2). -/
def reopenRec (i : Nat) (lvl : Nat) (t : Int) (inj : InjWin) (merge : Bool) (s : State) : State :=
  let r := s.frec i
  let r1 := { r with
    state := 1, cleared := -(2 ^ 63), repeat_ := incSat 16 r.repeat_, last := t, dflt := max r.dflt lvl,
    isInj := r.isInj || inj.isSome, real := if inj.isSome then false else r.real,
    winEnd := inj.getD r.winEnd }
  let r2 := escalated s r1 (!merge)
  afterOccurrence i r.level true (s.modRec i (fun _ => r2))

/-- Merging into an open record of the class (R474, R479): the reaction runs on the merged fault's own unit. -/
def mergeRec (i : Nat) (lvl unit : Nat) (t : Int) (raise : Bool) (s : State) : State :=
  let r := s.frec i
  let r1 := { r with repeat_ := incSat 16 r.repeat_, merged := true,
                     last := if raise then t else r.last, level := if raise then max r.level lvl else r.level }
  let s1 := s.modRec i (fun _ => r1)
  react lvl unit (some i) (if r.level < r1.level then postFaultNew i (freezeFor r1 r.level false s1) else s1)

/-- Opening of a new record (R473 step 3, R474). Log 127 (DEDUCED). -/
def openRec (o : Occ) (lvl : Nat) (t : Int) (timeLt : Bool) (inj : InjWin) (s : State) : State :=
  let c := o.code / 256
  match s.freeSlot with
  | none =>
    match s.oldestOf c with
    | some i => mergeRec i lvl (scopeOf o.code o.unit) t false s
    | none => react lvl (scopeOf o.code o.unit) none { s with flt := { s.flt with lost := incSat 16 s.flt.lost } }
  | some i =>
    let second := s.otherOpen c o.incident none
    let r : FltRec := {
      code := o.code, unit := o.unit, cls := c, level := lvl, dflt := lvl, state := 1,
      isInj := inj.isSome, timeLt := timeLt, first := t, last := t, winEnd := inj.getD 0,
      order := s.flt.opened, incident := o.incident }
    let s1 := s.modRec i (fun _ => escalated s r second)
    let s2 := { s1 with flt := { s1.flt with newest := i, opened := s1.flt.opened + 1 } }
    afterOccurrence i 0 true s2

/-- A record of class, code and unit in the given state. -/
def State.findRec (s : State) (o : Occ) (p : FltRec → Bool) : Option (Nat) :=
  s.openSlots.find? (fun i =>
    let r := s.frec i
    decide (r.code = o.code ∧ r.unit = o.unit) && p r)

/-- An occurrence is handled (R473). -/
def occur (o : Occ) (inj : InjWin) (s : State) : State :=
  let c := o.code / 256
  let lvl := max (o.level.getD (defaultLevel o.code o.unit)) (s.pn pFltClassBaseLevel c)
  let (now, timeLt) := s.recTime
  let t := o.stamp.getD now
  let merge := decide (s.p1 pModRm8FaultMode 0 = 1)
  let inWin := fun (r : FltRec) => inj.isSome || !(r.isInj && !r.real) || decide (s.time.lt < r.winEnd)
  match s.findRec o (fun r => decide (r.state = 1) && inWin r) with
  | some i => updateRec i lvl t inj s
  | none =>
    match s.findRec o (fun r => decide (r.state = 2) && (inj.isSome || !(r.isInj && !r.real))) with
    | some i => reopenRec i lvl t inj merge s
    | none =>
      if merge then
        match s.oldestOf c with
        | some i => mergeRec i lvl (scopeOf o.code o.unit) t true s
        | none => openRec o lvl t timeLt inj s
      else openRec o lvl t timeLt inj s

/-- The detector's condition has ended: an ACTIVE record of kind C that its detector governs becomes LATCHED (R472, R484). -/
def condEnded (o : Occ) (s : State) : State :=
  match s.findRec o (fun r => decide (r.state = 1) && !(r.isInj && !r.real)) with
  | some i => if clearsOf o.code = .cond then latchRec i s.recTime.1 s else s
  | none => s

/-- A trip takes ENABLE away in the frame of the same cycle, whatever level its record has (R124). -/
def tripOff (o : Occ) (s : State) : State :=
  match axisOf? o.unit with
  | some a => if (o.code = fTrip ∨ o.code = fTripDead) ∧ (s.ax a).enabled then reactOff a none s else s
  | none => s

/-- One report to the collector. -/
def decideOcc (s : State) (o : Occ) : State := if o.ended then condEnded o s else tripOff o (occur o none s)

/-- Order of decisions within one pass: class, then unit, then code (R475). -/
def occKey (o : Occ) : Nat := ((o.code / 256) * 0x1000 + o.unit) * 0x10000 + o.code

/-- ERR_N is low (R486). -/
def State.errPin (s : State) : Bool :=
  s.power.rstLow || !s.flt.restored || !s.domOn .sup ||
    s.openSlots.any (fun i => decide (s.pn pFltErrPinLevel 0 ≤ (s.frec i).level))

def updateErr (s : State) : State := { s with flt := { s.flt with errLow := s.errPin } }

/-- One pass of the collector: everything that has reached it, in the order of R475. -/
def settlePass (s : State) : State := (sortBy occKey s.flt.inbox).foldl decideOcc { s with flt := { s.flt with inbox := [] } }

/-- Decide everything that reached the collector in this command, then the ends of conditions that its reactions have brought about, then
the events that were dropped meanwhile (R430; an EVT_OVERFLOW whose own event is dropped raises no further one, log 15).
Log 120 (DEDUCED). -/
def settle (s : State) : State :=
  if s.domOn .sup then
    let s1 := settlePass (settlePass s)
    let s2 := (List.range s1.host.evtDropped).foldl
      (fun s _ => decideOcc s ⟨fEvtOverflow, 0xFF, none, false, none, 0⟩) s1
    updateErr { s2 with flt := { s2.flt with inbox := [] }, host := { s2.host with evtDropped := 0 } }
  else updateErr { s with flt := { s.flt with inbox := [] }, host := { s.host with evtDropped := 0 } }

/-- Close a record: its masks lift, and no stop is held by it (R240); level 5 ends with the last such record (R469, R481). -/
def closeRec (i : Nat) (s : State) : State :=
  let held := fun (p : Prof) => { p with stopRecs := p.stopRecs.filter (fun j => decide (j ≠ i)) }
  let ax' := s.axes.map (fun (x : Axis) => { x with prof := held x.prof })
  let gr' := s.grps.map (fun (x : Group) => { x with prof := held x.prof })
  let s0 : State := { s with axes := ax', grps := gr' }
  let s1 := s0.modRec i (fun r => { r with state := 3, acting := false })
  let any5 := s1.openSlots.any (fun j => decide ((s1.frec j).level = 5))
  let s2 := { s1 with safe := { s1.safe with level5 := s1.safe.level5 && any5 } }
  let r := s.frec i
  let u := r.unit
  if 0x60 ≤ u ∧ u ≤ 0x64 ∧ r.isInj ∧ ¬ r.real ∧ (s.tiles.tiles.get (tileIdx (u - 0x60))).injMask then
    unmaskTile (tileIdx (u - 0x60)) s2
  else if 0xAC ≤ u ∧ u ≤ 0xAD then unmaskCan ⟨(u - 0xAC) % 2, by omega⟩ s2 else s2

/-- The end of every meaning: what was detected is decided, and the block goes on. -/
def done (s : State) : Host.Outcome State Fault Refusal := .next (settle s)

/-- The record as 32 bytes (R471). -/
def FltRec.bytes (r : FltRec) : List Byte :=
  toLE 8 (packBits [(16, r.code), (9, r.unit), (4, r.cls), (3, r.level), (3, r.dflt), (2, r.state), (1, b2n r.isInj),
    (1, b2n r.real), (1, b2n r.escalated), (1, b2n r.merged), (1, b2n r.fromReset), (1, b2n r.timeLt), (5, 0),
    (16, r.repeat_)]) ++ toLE 8 r.first ++ toLE 8 r.last ++ toLE 8 r.cleared

/-- Slots from `first` downward with wrap (R482). -/
def slotsDown (first : Nat) : Nat → List (Nat)
  | 0 => []
  | n + 1 => first % 256 :: slotsDown (first + 255) n

/-- FAULT_READ (R482, R438): up to 256 records; one inline, further ones in the bulk region (log 16). -/
def execFaultRead (t : Nat) (h : Hdr) (first count : Nat) (s : State) : Host.Outcome State Fault Refusal :=
  done (runOp 0x0401 4 true false h (toLE 2 first ++ toLE 2 count) (s.begin t)
    (fun _ => [(decide (255 < first ∧ first ≠ 0xFFFF), stBadId, 0)])
    (fun _ s =>
      let lost := s.flt.lost
      if first = 0xFFFF ∧ s.flt.newest = 0xFFFF then
        ({ status := stOk, detail := lost, body := toLE 2 0 ++ toLE 2 0 ++ List.replicate 32 0,
           bulk := if h.bulk then some [] else none }, s)
      else
        let f := if first = 0xFFFF then s.flt.newest else first
        let recs := (slotsDown f (min count (1 + h.length / 32))).map (fun i => (s.frec i).bytes)
        let held := (s.flt.recs.filter (fun e => decide (e.2.state ≠ 0))).length
        ({ status := stOk, detail := lost, body := toLE 2 held ++ toLE 2 0 ++ recs.headD (List.replicate 32 0),
           bulk := if h.bulk then some ((recs.tail.flatten).take h.length) else none }, s)))

/-- TILE_FAIL against a tile whose slots a spare can take over: the injected detection has level 1 and the spare takes over, else
level 3 (R330, R483, R487). -/
def tileSpared (s : State) (code unit : Nat) : Bool :=
  decide (code = fTileFail ∧ 0x60 ≤ unit ∧ unit < 0x64) && !(s.tiles.tiles.get (tileIdx (unit - 0x60))).masked && s.spareFree

/-- FAULT_INJECT (R437, R483). Log 121 (DEDUCED). -/
def execFaultInject (t : Nat) (h : Hdr) (cls code unit window : Nat) (s : State) : Host.Outcome State Fault Refusal :=
  done (runOp 0x0403 12 false false h
    (toLE 1 cls ++ toLE 1 0 ++ toLE 2 code ++ toLE 2 unit ++ toLE 2 0 ++ toLE 4 window) (s.begin t)
    (fun s =>
      let row := codeRow code
      let o : Occ := ⟨code, unit, none, false, none, 0⟩
      let meets := (s.findRec o (fun _ => true)).isSome
      let merging := decide (s.p1 pModRm8FaultMode 0 = 1) && (s.oldestOf (code / 256)).isSome
      [(decide (row = none ∨ code / 256 ≠ cls), stBadId, 2),
       (decide (¬ (s.life.lc = 0 ∨ s.life.lc = 1 ∨ s.life.lc = 3 ∨ (s.life.lc = 2 ∧ s.life.service))), stLifecycle, 0),
       (match row with | some r => !unitIs r.kind unit | none => false, stRange, 4),
       (decide (window < 1 ∨ 3600000000 < window), stRange, 8),
       (decide (cls = 0xD), stRange, 2),
       (!meets && !merging && s.freeSlot.isNone, stBusy, 0)])
    (fun _ s =>
      let spared := tileSpared s code unit
      let o : Occ := ⟨code, unit, if code = fTileFail ∧ ¬ spared then some 3 else none, false, none, 0⟩
      let s1 := occur o (some (s.time.lt + window * 1000)) s
      let slot : Nat := match s1.findRec o (fun _ => true) with
        | some i => i
        | none => match s1.oldestOf (code / 256) with | some i => i | none => s1.flt.newest
      (okRsp (toLE 2 slot), if spared then maskByRecord (tileIdx (unit - 0x60)) (some slot) s1 else s1)))

/-- The window of an injected record ends: still injected only, it becomes LATCHED (R484). -/
def execInjectionWindowEnd (t : Nat) (slot : Nat) (s : State) : Host.Outcome State Fault Refusal :=
  let s := s.begin t
  let r := s.frec slot
  if r.state = 1 ∧ r.isInj ∧ ¬ r.real ∧ r.winEnd ≤ s.time.lt then done (latchRec slot s.recTime.1 s) else done s

end Sys2Proof.Machine
end

