-- ==== Sys2Proof/Config.lean ====
section
/-! DEFINITION. Values that the manual leaves open: constants without a body, so that nothing can be proved of them
beyond the bounds that the meanings put on them. -/

namespace Sys2Proof

/-- Error of an entry of the rotation table, cosine or sine, in 2^-31; the meanings clamp it so that the bound of R132 holds
(log 17). -/
opaque Config.trigErr : Nat → Bool → Int

/-- Fraction bits beyond 64 of the estimators of R148 and R173 (index 0), of k_a of R160 (1) and of the observer gains of R169 (2),
whose word lengths the manual does not give (log 18). -/
opaque Config.fracBits : Nat → Nat

/-- A byte of a nonce (R566), of a self-test signature or of another value that only silicon gives, by the free
counter (log 5). -/
opaque Config.freeByte : Nat → BitVec 8

/-- A word of an axis area whose layout the manual does not give, as a custom block reads it (log 19). -/
opaque Config.areaWord : Nat → Nat → Nat

/-- Pairs of word offset and value that the supervisory processor writes into an axis area in a control cycle, by LT and axis: the manual
names the areas that it writes and gives neither words nor values (log 275). -/
opaque Config.supWords : Nat → Nat → List (Nat × Nat)

/-- A result of the tile's instruction set for which the manual states no value: the quotient 0 / 0 of R310 (log 22). -/
opaque Config.divZero : Nat → Nat

/-- Hops between two node addresses, which the wiring of the machine gives and no frame tells the node (R364).
Log 220 (DESIGN CHOICE). -/
opaque Config.hops : Nat → Nat → Nat

/-- Bytes of the Grinyx key in the fuses and of the Grinyx firmware key, x then y (R568, R570). -/
opaque Config.grinyxKey : Nat → BitVec 8
opaque Config.firmwareKey : Nat → BitVec 8

end Sys2Proof
end

