-- ==== Sys2Proof/Machine/Trig.lean ====
section
/-! DEFINITION. Angles: exact sine and cosine in fixed point, arc tangent, and the rotation factor of R132. -/

namespace Sys2Proof.Machine

/-- pi with 60 decimal digits. -/
def piRat : Rat := 3141592653589793238462643383279502884197169399375105820974944 / 10 ^ 60

/-- pi in 2^-96. -/
def piFix : Nat := 248902613312231085230521944622

/-- Sum of the alternating series with terms t, -t x^2/(k(k+1)), ... for `n` terms, in 2^-96. -/
def series (x2 : Int) : Nat → Nat → Int → Int
  | 0, _, _ => 0
  | n + 1, k, t => t + series x2 n (k + 2) (-(t * x2 / 2 ^ 96 / (k * (k + 1))))

/-- Sine and cosine in 2^-96 of `r` / 2^30 quarter turns, 0 ≤ r ≤ 2^30. -/
def quarter (r : Nat) : Int × Int :=
  let x : Int := (r * piFix / 2 ^ 31 : Nat)
  let x2 := x * x / 2 ^ 96
  (series x2 20 2 x, series x2 20 1 (2 ^ 96))

/-- Cosine and sine in 2^-96 of an angle in units of 2^-32 turns (R5). -/
def cosSin (theta : Int) : Int × Int :=
  let u := (wrapU 32 theta).toNat
  let (sn, cs) := quarter (u % 2 ^ 30)
  match u / 2 ^ 30 with
  | 0 => (cs, sn)
  | 1 => (-sn, cs)
  | 2 => (-cs, -sn)
  | _ => (sn, -cs)

/-- Entry `k` of the table of R132 in Q1.31: cosine and sine of k / 4096 turns with a free error small enough for the bound of the
rule, since the interpolation alone errs by 2.94 x 10^-7 (log 17). -/
def rotEntry (k : Nat) : Int × Int :=
  let (c, sn) := cosSin ((k % 4096 * 2 ^ 20 : Nat) : Int)
  let e := fun (b : Bool) => clamp (-11) 11 (Config.trigErr (k % 4096) b)
  (satS 32 (shrHalfUp c 65 + e false), satS 32 (shrHalfUp sn 65 + e true))

/-- Cosine and sine of the table of R132 in Q1.31: 4,096 entries by the upper 12 bits, interpolated linearly by the lower 20. -/
def rot (theta : Int) : Int × Int :=
  let u := (wrapU 32 theta).toNat
  let a := rotEntry (u / 2 ^ 20)
  let b := rotEntry (u / 2 ^ 20 + 1)
  let mid := fun (x y : Int) => x + shrHalfUp ((y - x) * ((u % 2 ^ 20 : Nat) : Int)) 20
  (mid a.1 b.1, mid a.2 b.2)

/-- The arc tangent's octant bits by repeated squaring: each step doubles the angle of (x, y) in the upper half plane. -/
def atanBits : Nat → Int → Int → Nat → Nat
  | 0, _, _, acc => acc
  | n + 1, x, y, acc =>
    -- (x + jy)^2, scaled back to 120 bits
    let x' := x * x - y * y
    let y' := 2 * x * y
    let m := max (absI x') (absI y')
    let sh := m.toNat.log2 - 120
    let x2 := if 120 < m.toNat.log2 then x' / 2 ^ sh else x'
    let y2 := if 120 < m.toNat.log2 then y' / 2 ^ sh else y'
    if y2 < 0 then atanBits n (-x2) (-y2) (2 * acc + 1)
    else if y2 = 0 ∧ x2 < 0 then atanBits n (-x2) 0 (2 * acc + 1)
    else atanBits n x2 y2 (2 * acc)

/-- Angle of (x, y) in units of 2^-n turns, rounded down, for n ≥ 1; 0 for the origin. -/
def atan2Turns (n : Nat) (y x : Int) : Nat :=
  if x = 0 ∧ y = 0 then 0
  else if y < 0 ∨ (y = 0 ∧ x < 0) then 2 ^ (n - 1) + atanBits (n - 1) (-(x * 2 ^ 80)) (-(y * 2 ^ 80)) 0
  else atanBits (n - 1) (x * 2 ^ 80) (y * 2 ^ 80) 0

end Sys2Proof.Machine
end

