-- ==== Sys2Proof/Machine/Runs.lean ====
section
/-! DEFINITION. Conditions over consecutive cycles (R609), motor data in physical units, and the coefficients that the
supervisory processor forms from parameters (R131, R135, R160). -/

namespace Sys2Proof.Machine

/-- A run whose occurrence has been reported (R609). -/
abbrev runReported : Nat := 2 ^ 32

/-- An occurrence at the level of the table. -/
def occOf (code unit : Nat) : Occ := ⟨code, unit, none, false, none, 0⟩

/-- An occurrence at the detector's present level. -/
def occAt (code unit level : Nat) : Occ := ⟨code, unit, some level, false, none, 0⟩

/-- The end of a condition of kind C. -/
def occEnd (code unit : Nat) : Occ := ⟨code, unit, none, true, none, 0⟩

/-- One cycle of a condition that must hold over `limit` consecutive cycles: the new run and what is reported (R609). -/
def runStep (code unit limit n : Nat) (bad : Bool) : Nat × List Occ :=
  if bad then
    if runReported ≤ n then (n, [])
    else if limit ≤ n + 1 then (runReported, [occOf code unit])
    else (n + 1, [])
  else (0, if runReported ≤ n then [occEnd code unit] else [])

/-- A run without a report that is broken by something other than a computed cycle starts again; a reported one stays (R609). -/
def runBreak (n : Nat) : Nat := if runReported ≤ n then n else 0

/-- Onset and end of a condition that is reported from its first cycle. -/
def condStep (code unit : Nat) (before now : Bool) : List Occ :=
  if now ∧ ¬ before then [occOf code unit] else if before ∧ ¬ now then [occEnd code unit] else []

/-- An identification register as read in the present pass through MEASURE (R83, R84). -/
def Axis.ident (x : Axis) (addr : Nat) : Nat := alGet 0 addr x.link.idRegs

/-- I_FS in mA, V_FS in mV and CAPS (R83). -/
def Axis.iFs (x : Axis) : Nat := x.ident 0x06
def Axis.vFs (x : Axis) : Nat := x.ident 0x07
def Axis.caps (x : Axis) : Nat := x.ident 0x05

/-- A current in mA per unit of I_FS, in Q1.31. -/
def Axis.perUnit (x : Axis) (mA : Int) : Int :=
  if x.iFs = 0 then 2 ^ 31 - 1 else min (divHalfUp (mA * 2 ^ 31) x.iFs) (2 ^ 31 - 1)

/-- Nominal R_s, L_d, L_q and psi in Ohm, H, H and Wb (R155). -/
def State.nominal (s : State) (a : AxisId) : List Rat :=
  [(s.pa pAxMotRes a : Rat) / 10 ^ 3, (s.pa pAxMotLD a : Rat) / 10 ^ 9, (s.pa pAxMotLQ a : Rat) / 10 ^ 9,
   (s.pa pAxMotFlux a : Rat) / 10 ^ 6]

/-- Factor from axis position to electrical angle (R133): 1 for a linear motor, and for the mechanical speed of R139. -/
def State.polePairs (s : State) (a : AxisId) : Int :=
  let kind := s.pa pAxMotKind a
  if kind = 1 ∨ kind = 3 then 1 else s.pa pAxMotPolePairs a

/-- Estimates and their covariances as held, with an open number of fraction bits, at least 64 (log 18). -/
def estHold (q : Rat) : Rat := holdBits (64 + Config.fracBits 0) q

/-- A coefficient with a 64-bit mantissa and a binary exponent (R135). -/
def coef (x : Rat) : Nat × Int :=
  if x ≤ 0 then (0, 0)
  else
    let e0 : Int := (x.num.toNat.log2 : Int) - x.den.log2 - 63
    let at_ := fun (e : Int) => if 0 ≤ e then x / 2 ^ e.toNat else x * 2 ^ (-e).toNat
    let e := if at_ e0 < 2 ^ 63 then e0 - 1 else e0
    let m := (ratHalfUp (at_ e)).toNat
    if 2 ^ 64 ≤ m then (m / 2, e + 1) else (m, e)

/-- Product of a coefficient and a value scaled by 2^-sh, rounded half up once (R135). -/
def coefMul (c : Nat × Int) (v : Int) (sh : Int) : Int :=
  let k := c.2 - sh
  if 0 ≤ k then c.1 * v * 2 ^ k.toNat else shrHalfUp (c.1 * v) (-k).toNat

/-- Torque constant in N m/A for a flux in Wb (R160). -/
def State.torqueK (s : State) (a : AxisId) (flux : Rat) : Rat :=
  let pp : Rat := s.pa pAxMotPolePairs a
  let kind := s.pa pAxMotKind a
  if kind = 0 then 3 / 2 * pp * flux else if kind = 1 then 3 / 2 * flux else if kind = 2 then pp * flux else flux

/-- The acceleration coefficient k_a at the nominal inertia, in units/s^2 per I_FS (R160); the manual does not give its
word length (log 18). -/
def State.kaNom (s : State) (a : AxisId) : Rat :=
  let x := s.ax a
  let kt := s.torqueK a ((s.pa pAxMotFlux a : Rat) / 10 ^ 6)
  if kt = 0 then 0
  else holdBits (64 + Config.fracBits 1) ((x.iFs : Rat) / 1000 * kt * 2 ^ 32 / (2 * piRat * ((s.pa pAxVelInertia a : Rat) / 10 ^ 7)))

end Sys2Proof.Machine
end

