-- ==== Sys2Proof/Machine/Current.lean ====
section
/-! DEFINITION. The current stage: dq control, stepper thresholds and online identification (05_current_control.md). Every
function works on one axis as it stands in the tile pass. -/

namespace Sys2Proof.Machine

/-- Constants 1/3 and 1/sqrt 3 in Q1.31 (R132). -/
abbrev kThird : Int := 0x2AAAAAAB
abbrev kInvSqrt3 : Int := 0x49E69D16

/-- sqrt 3 / 2 in Q1.31, for the inverse Clarke transform of R104 and R107. -/
abbrev kSqrt32 : Int := 0x6ED9EBA1

/-- The complex product in Q1.31, rounded half up and saturated (R6). -/
def cmul (ar ai br bi : Int) : Int × Int :=
  (satS 32 (shrHalfUp (ar * br - ai * bi) 31), satS 32 (shrHalfUp (ar * bi + ai * br) 31))

/-- Steps 1 to 3 of R128: i_d, i_q and i_0 of the samples at an electrical angle. A stepper's windings A and B stand for
alpha and beta (log 31). -/
def measured (kind : Int) (u : UpFrame) (theta : Int) : Int × Int × Int :=
  let iu := u.iU * 2 ^ 16
  let iv := u.iV * 2 ^ 16
  let iw := u.iW * 2 ^ 16
  if kind = 3 then (0, iu, 0)
  else if kind = 2 then
    let (c, sn) := rot theta
    let (d, q) := cmul iu iv c (-sn)
    (d, q, 0)
  else
    let ia := satS 32 (shrHalfUp ((2 * iu - iv - iw) * kThird) 31)
    let ib := satS 32 (shrHalfUp ((iv - iw) * kInvSqrt3) 31)
    let i0 := satS 32 (shrHalfUp ((iu + iv + iw) * kThird) 31)
    let (c, sn) := rot theta
    let (d, q) := cmul ia ib c (-sn)
    (d, q, i0)

/-- The effective current limit I_lim in Q1.31 (R134), or that of PRESS (R256). -/
def iLim (s : State) (a : AxisId) (x : Axis) : Int :=
  let lim := s.pa pAxCurLimit a * 2 ^ 16
  if x.home.phase = 5 then min lim (s.pa pAxHomeCurrent a * 2 ^ 16) else min lim (x.perUnit (s.pa pAxMotIPeak a))

/-- Limiting of the references: i_d first, then i_q inside the circle, and ILIM (R134). -/
def limitRefs (lim idr iqr : Int) : Int × Int × Bool :=
  let d := clamp (-lim) lim idr
  let room : Int := sqrtHalfUp (lim * lim - d * d).toNat
  let q := clamp (-room) room iqr
  (d, q, decide (d ≠ idr ∨ q ≠ iqr))

/-- Supervision of R140: flags over the limits, run counts and what is reported. -/
def supervise (s : State) (a : AxisId) (x : Axis) (d q i0 : Int) : Cur × List Occ :=
  let kind := s.pa pAxMotKind a
  let peak := x.perUnit (s.pa pAxMotIPeak a)
  let big : Bool := if kind = 3 then decide (5 * peak < 4 * absI q) else decide (25 * peak * peak < 16 * (d * d + q * q))
  let sum := decide ((kind = 0 ∨ kind = 1) ∧ 0x0800 * 2 ^ 16 < absI i0)
  let (oc, o1) := runStep fOvercurrent a.val 2 x.cur.ocRun big
  let (is_, o2) := runStep fIsum a.val 8 x.cur.isumRun sum
  ({ x.cur with iDPrev := x.cur.iD, iQPrev := x.cur.iQ, iD := d, iQ := q, iZero := i0, overCur := big, iSumOver := sum,
                ocRun := oc, isumRun := is_ }, o1 ++ o2)

/-- Integral gain per cycle with 48 fraction bits (R131), scaled in ADAPT by a ratio (R152). -/
def kic (s : State) (a : AxisId) (ratio : Rat) : Int :=
  let nom := divHalfUp (s.pa pAxCurKi a * s.pn pCycPeriodNs 0 * 2 ^ 32) (10 ^ 9)
  if ratio = 1 then nom else ratHalfUp (nom * ratio)

/-- One axis of the PI controller: increment held and output before feed-forward, in Q1.31 (R135). Log 173 (DEDUCED). -/
def piStep (s : State) (a : AxisId) (e int_ : Int) (ratioP ratioI : Rat) : Int × Int :=
  let inc := shrHalfUp (kic s a ratioI * e) 17
  let p := satS 32 (ratHalfUp ((s.pa pAxCurKp a * e : Int) * ratioP / 2 ^ 16))
  (inc, satS 32 (p + shrHalfUp (int_ + inc) 31))

/-- Bus factor in Q16.16 (R136). Log 174 (DEDUCED). -/
def busFactor (s : State) (a : AxisId) (en : Option Int) (vBus : Int) : Int :=
  let g := s.pa pAxCurFfVbus a
  match en with
  | none => 2 ^ 16
  | some v => clamp 0 (2 * 2 ^ 16) (g + divHalfUp ((2 ^ 16 - g) * vBus) v)

/-- Ratio of a parameter in use to its nominal value. -/
def usedRatio (x : Axis) (nom : List Rat) (i : Nat) : Rat :=
  let n := nom.getD i 0
  if n = 0 then 1 else x.cur.id.used.getD i n / n

/-- The injection of R151 in a cycle: amplitude with its sign in Q1.31. The square wave starts with the positive polarity, and its
count runs through every computed cycle, whether or not the injection acts. Logs 172 (DEDUCED), 236 (DESIGN CHOICE). -/
def injection (s : State) (a : AxisId) (x : Axis) : Int :=
  let kind := s.pa pAxMotKind a
  if s.pa pAxCurAdapt a = 0 ∨ kind = 2 ∨ kind = 3 then 0
  else (if x.cur.id.injCount < 8 then 1 else -1) * s.pa pAxIdInject a * 2 ^ 16

/-- Step 4 of R128: i_d and i_q references, ILIM, and whether the injection of R151 is active (R134, R139). -/
def currentRefs (s : State) (a : AxisId) (x : Axis) (iqRef : Int) : Int × Int × Bool × Bool :=
  let lim := iLim s a x
  if s.pa pAxMotKind a = 3 then
    let q := clamp (-lim) lim iqRef
    (0, q, decide (iqRef ≠ q), false)
  else
    let inj := injection s a x
    let (d1, q1, l1) := limitRefs lim inj iqRef
    if inj ≠ 0 ∧ ¬ l1 then (d1, q1, l1, true)
    else
      let (d, q, l) := limitRefs lim 0 iqRef
      (d, q, l, false)

/-- The references after a custom block at H3: R134 applies again (R317). -/
def limitAgain (s : State) (a : AxisId) (x : Axis) (d q : Int) : Int × Int × Bool :=
  let lim := iLim s a x
  if s.pa pAxMotKind a = 3 then (0, clamp (-lim) lim q, decide (clamp (-lim) lim q ≠ q)) else limitRefs lim d q

/-- Steps 5 to 7 of R128 for a PMSM, linear or brushed DC axis with torque: `w` is the electrical speed, for brushed DC
the mechanical one (R139). -/
def currentLoop (s : State) (a : AxisId) (x : Axis) (u : UpFrame) (w idr iqr : Int) (ilim useInj : Bool) : Cur :=
  let kind := s.pa pAxMotKind a
  let c := x.cur
  let nom := s.nominal a
  let used := x.cur.id.used
  let scale : Rat := if x.vFs = 0 then 0 else 2 * piRat * x.iFs / (2 ^ 32 * x.vFs)
  let scaleP : Rat := if x.vFs = 0 then 0 else 2 * piRat * 1000 / (2 ^ 32 * x.vFs)
  let bemf := satS 32 (coefMul (coef (scaleP * used.getD 3 0)) (w * s.pa pAxCurFfBemf a) (-15))
  let vdff := if kind = 3 then 0 else satS 32 (coefMul (coef (scale * used.getD 2 0)) (-(w * c.iQ)) 0)
  let vqff := if kind = 3 then bemf else satS 32 (satS 32 (coefMul (coef (scale * used.getD 1 0)) (w * c.iD) 0) + bemf)
  let ri := usedRatio x nom 0
  let (incD, pd) := if kind = 3 then (0, 0) else piStep s a (satS 32 (idr - c.iD)) c.intD (usedRatio x nom 1) ri
  let (incQ, pq) := piStep s a (satS 32 (iqr - c.iQ)) c.intQ (usedRatio x nom 2) ri
  let vd := if kind = 3 then 0 else satS 32 (pd + vdff)
  let vq := satS 32 (pq + vqff)
  let en := match c.vbusEn with
    | some v => some v
    | none => if 0x0200 ≤ u.vBus then some u.vBus else none
  let f := busFactor s a en u.vBus
  let adv := divHalfUp (w * 3 * s.pn pCycPeriodNs 0) (2 * 10 ^ 9)
  let (cs, sn) := rot (x.fb.thetaE + adv)
  let va := if kind = 3 then satS 16 (shrHalfUp (f * vq) 32) else satS 16 (shrHalfUp (f * (vd * cs - vq * sn)) 63)
  let vb := if kind = 3 then 0 else satS 16 (shrHalfUp (f * (vd * sn + vq * cs)) 63)
  { c with
    vbusEn := en, refD := idr, refQ := iqr, iLimHit := ilim, inject := useInj, incD := incD, incQ := incQ,
    vDRaw := vd, vQRaw := vq, vDFf := vdff, vQFf := vqff, bus := f, vAlpha := va, vBeta := vb,
    vDPrev2 := c.vDPrev, vQPrev2 := c.vQPrev, vDPrev := c.vD, vQPrev := c.vQ, vD := f * vd, vQ := f * vq }

/-- What the current stage leaves with ENABLE = 0 and in the test mode: integrators held at zero (R123, R129). -/
def currentIdle (c : Cur) : Cur :=
  { c with intD := 0, intQ := 0, refD := 0, refQ := 0, iLimHit := false, inject := false, incD := 0, incQ := 0,
           vDRaw := 0, vQRaw := 0, vDFf := 0, vQFf := 0, bus := 2 ^ 16, vAlpha := 0, vBeta := 0,
           vDPrev2 := c.vDPrev, vQPrev2 := c.vQPrev, vDPrev := c.vD, vQPrev := c.vQ, vD := 0, vQ := 0 }

/-- Step 8: one integrator with 62 fraction bits (R138). -/
def commitInt (vlim : Bool) (int_ inc v : Int) : Int :=
  if vlim ∧ signOf inc = signOf v ∧ inc ≠ 0 then int_ else clamp (-(2 ^ 62)) (2 ^ 62) (int_ + inc)

/-! ### Identification -/

/-- Starting P: the diagonal of (b x nominal)^2 (R148). -/
def pStart (nom : List Rat) (b : Rat) : List (List Rat) :=
  (List.range 4).map (fun i => (List.range 4).map (fun j => if i = j then (b * nom.getD i 0) ^ 2 else 0))

def dot (x y : List Rat) : Rat := (List.zipWith (· * ·) x y).foldl (· + ·) 0

def matVec (p : List (List Rat)) (x : List Rat) : List Rat := p.map (fun r => dot r x)

/-- One row of the recursive least squares update; frozen parameters take no part (R148, R150). -/
def rlsRow (frozen : Nat) (p0 : List (List Rat)) (phi : List Rat) (y lam : Rat) (est : List Rat) (p : List (List Rat)) :
    List Rat × List (List Rat) :=
  let y1 := y - dot ((List.range 4).map (fun j => if bitOf frozen j then phi.getD j 0 else 0)) est
  let ph := (List.range 4).map (fun j => if bitOf frozen j then 0 else phi.getD j 0)
  let pp := matVec p ph
  let den := lam + dot ph pp
  let k := pp.map (fun v => v / den)
  let err := y1 - dot ph est
  let est1 := (List.range 4).map (fun j =>
    if bitOf frozen j then est.getD j 0 else estHold (est.getD j 0 + k.getD j 0 * err))
  let p1 := (List.range 4).map (fun i => (List.range 4).map (fun j =>
    let old := (p.getD i []).getD j 0
    if bitOf frozen i ∨ bitOf frozen j then old
    else
      let v := estHold ((old - k.getD i 0 * pp.getD j 0) / lam)
      if i = j then min v ((p0.getD i []).getD j 0) else v))
  (est1, p1)

/-- A rational value limited to an interval. -/
def clampR (lo hi x : Rat) : Rat := if x < lo then lo else if hi < x then hi else x

/-- Movement of the parameters in use toward their targets by 1/4,096 of nominal (R152). -/
def slewUsed (nom target used : List Rat) : List Rat :=
  (List.range 4).map (fun i =>
    let st := nom.getD i 0 / 4096
    let u := used.getD i 0
    u + clampR (-st) st (target.getD i 0 - u))

/-- Step 9 for one computed cycle: excitation, freezing, update, bounds and parameters in use (R148-R154). `en` is the
ENABLE of this cycle's frame, `clip` PULSE_CLAMP or PULSE_DROP, `w` the speed of this cycle in units/s. With `ax.cur.adapt` OFF
every parameter counts as frozen and none as held at a bound. Log 235 (DEDUCED). -/
def identify (s : State) (a : AxisId) (x : Axis) (en clip : Bool) (w : Int) : IdState :=
  let d := x.cur.id
  let kind := s.pa pAxMotKind a
  let adapt := s.pa pAxCurAdapt a
  let nom := s.nominal a
  let b : Rat := (s.pa pAxIdBoundPct a : Rat) / 100
  let tau : Rat := (s.pa pAxIdTauMs a : Rat) / 1000
  let T : Rat := (s.pn pCycPeriodNs 0 : Rat) / 10 ^ 9
  let run := min (d.run + 1) 3
  let idle := decide (adapt = 0 ∨ kind = 2 ∨ s.pa pAxPwmCarrier a = 1 ∨ s.pa pAxPwmCarrier a = 2)
  let amp := fun (v : Int) => (v : Rat) / 2 ^ 31 * x.iFs / 1000
  let volt := fun (v : Int) => (v : Rat) / 2 ^ 47 * x.vFs / 1000
  let rad := fun (v : Rat) => v * 2 * piRat / 2 ^ 32
  let idN := amp x.cur.iD
  let iqN := amp x.cur.iQ
  let did := (idN - amp x.cur.iDPrev) / T
  let diq := (iqN - amp x.cur.iQPrev) / T
  let meas : List Rat := [idN * idN + iqN * iqN, did * did, diq * diq, (w : Rat) * w]
  let exc := (List.range 4).map (fun i =>
      let e := d.exc.getD i 0
      if (i = 1 ∨ i = 2) ∧ run < 2 then e else estHold (e + (meas.getD i 0 - e) * T / tau))
  let xm : Rat := (s.pa pAxIdExciteMin a : Rat) / 2 ^ 16
  let rated : Rat := (s.pa pAxMotIRated a : Rat) / 1000
  let vl : Rat := (s.pa pAxVelLimit a : Rat) * s.polePairs a
  let thr : List Rat := [xm * rated, xm * rated * 1000, xm * rated * 1000, xm * vl]
  let low := fun i => decide (exc.getD i 0 < thr.getD i 0 ^ 2) || (decide (kind = 3) && decide (i = 1))
  let frozen := if idle then 0xF else natSum ((List.range 4).map (fun i => if low i then 2 ^ i else 0))
  let upd := !idle && decide (3 ≤ run) && d.en1 && d.en2 && !d.pulse2
  let p0 := pStart nom b
  let p := if d.p.isEmpty then p0 else d.p
  let idm := (idN + amp x.cur.iDPrev) / 2
  let iqm := (iqN + amp x.cur.iQPrev) / 2
  let wm := rad (((w : Rat) + d.wPrev) / 2)
  let lam := 1 - T / tau
  let yd := volt x.cur.vDPrev2
  let yq := volt x.cur.vQPrev2
  let (est, p2) :=
    if upd then
      let (e1, q1) := if kind = 3 then (d.est, p) else rlsRow frozen p0 [idm, did, -wm * iqm, 0] yd 1 d.est p
      let (e2, q2) := rlsRow frozen p0 [iqm, if kind = 3 then 0 else wm * idm, diq, wm] yq lam e1 q1
      ((List.range 4).map (fun i => let n := nom.getD i 0; clampR (n * (1 - b)) (n * (1 + b)) (e2.getD i 0)), q2)
    else (d.est, d.p)
  let held := fun (i : Nat) =>
    let n := nom.getD i 0
    decide (adapt ≠ 0 ∧ kind ≠ 2) && (decide (est.getD i 0 = n * (1 - b)) || decide (est.getD i 0 = n * (1 + b)))
  let bound := natSum ((List.range 4).map (fun i => if held i then 2 ^ i else 0))
  let since := (List.range 4).map (fun i =>
    if held i ∧ adapt = 2 then (match d.boundSince.getD i none with | some t => some t | none => some s.time.lt) else none)
  let target := if adapt = 2 then est else nom
  let used := slewUsed nom target d.used
  { d with
    est := est, p := p2, used := used, exc := exc, frozen := frozen, bound := bound, boundSince := since,
    updated := upd, slewing := decide (used ≠ target), injCount := (d.injCount + 1) % 16, run := run,
    en1 := en, en2 := d.en1, pulse1 := clip, pulse2 := d.pulse1, wPrev := w }

/-- What the estimator keeps when the axis is not computed: the run of computed cycles breaks (R149). -/
def identifySkip (d : IdState) : IdState := { d with run := 0, en1 := false, en2 := false }

/-! ### Steppers -/

/-- Velocity cycles of a blend, N (R179). -/
def State.blendLen (s : State) (a : AxisId) : Nat :=
  max 1 (divHalfUp (s.pa pAxModeBlendMs a * 10 ^ 6) (s.pn pCycVelDiv 0 * s.pn pCycPeriodNs 0)).toNat

/-- I_run with the reduction of R145, in Q1.31. -/
def iRun (s : State) (a : AxisId) (x : Axis) : Int :=
  let full := min (x.perUnit (s.pa pAxMotIRated a)) (iLim s a x)
  if x.cur.stp.holding then
    let st : Int := min x.cur.stp.rampStep 64
    divHalfUp (full * (6400 - (100 - s.pa pAxStpHoldPct a) * st)) 6400
  else full

/-- Amplitude and angle of the winding references, and ILIM (R142). -/
def windingPolar (s : State) (a : AxisId) (x : Axis) (iqRef : Int) : Int × Int × Bool :=
  if x.mode = 5 then (iRun s a x, wrapS 32 (x.pSet * s.pa pAxMotPolePairs a), false)
  else
    let lim := iLim s a x
    let q := clamp (-lim) lim iqRef
    -- j i_q e^(j theta) has its angle a quarter turn ahead
    (q, x.fb.thetaE + 2 ^ 30, decide (q ≠ iqRef))

/-- The winding references i_A and i_B in Q1.15. -/
def windingRefs (amp theta : Int) : Int × Int :=
  let (c, sn) := rot theta
  (satS 16 (shrHalfUp (amp * c) 47), satS 16 (shrHalfUp (amp * sn) 47))

/-- HI and LO of one winding in Q1.15 (R143). Log 175 (DEDUCED). -/
def thresholds (i off band : Int) : Int × Int :=
  let m := max 0 (absI i - off)
  let sg := signOf i
  if i = 0 ∨ m = 0 then (0, 0)
  else if 2 * m ≤ band then (satS 16 (sg * 2 * m), 0)
  else (satS 16 (divHalfUp (sg * (2 * m + band)) 2), satS 16 (divHalfUp (sg * (2 * m - band)) 2))

/-- Adaptation of one offset (R144): previous and present reference, mean current and chopper count. -/
def adaptOffset (g band off prev now mean : Int) (cnt : Nat) (skip : Bool) : Int :=
  if g = 0 ∨ skip ∨ cnt < 2 ∨ signOf prev ≠ signOf now ∨ absI prev < band then off
  else clamp (-band) band (off + shrHalfUp (g * (signOf prev * mean - absI prev)) 16)

/-- Stall detection in stepper open-loop mode (R146, R147): the load angle counts positive in the direction of motion
(log 20). -/
def stall (s : State) (a : AxisId) (theta load : Int) (t : Stepper) : Stepper × List Occ :=
  let n := s.pa pAxStpStallSteps a
  let ahead := decide (s.pa pAxStpStallAngle a ≤ (if t.lastDir < 0 then -load else load))
  let travel := if ahead then t.travel + absI (wrapS 32 (theta - t.lastTheta)) else 0
  let hit := decide (n ≠ 0) && (decide (2 ^ 30 ≤ absI load) || (ahead && decide (n * 2 ^ 30 ≤ travel)))
  let (run, o) := runStep fStall a.val 1 t.stallRun hit
  ({ t with travel := travel, stallRun := run, load := load, stallCnt := ahead && decide (n ≠ 0), lastTheta := theta }, o.filter (fun x => ! x.ended))

/-- The stepper's part of the current stage in a computed cycle (R142-R147): state, thresholds and occurrences. -/
def stepperStage (s : State) (a : AxisId) (x : Axis) (u : UpFrame) (on : Bool) (iqRef : Int) :
    Cur × List Int × List Occ :=
  let t := x.cur.stp
  let band := s.pa pAxStpBand a
  let (amp, theta, ilim) := if on then windingPolar s a x iqRef else (0, 0, false)
  let (ia0, ib0) := windingRefs amp theta
  let n := s.blendLen a
  let blA := if t.blPend then t.prevRefA - ia0 else t.blA
  let blB := if t.blPend then t.prevRefB - ib0 else t.blB
  let blN := if t.blPend then n else t.blN
  let blJ := if t.blPend then 0 else t.blJ
  let part := fun (r : Int) => if on ∧ blJ < blN then divHalfUp (r * (blN - blJ)) blN else 0
  let ia := satS 16 (ia0 + part blA)
  let ib := satS 16 (ib0 + part blB)
  let skip := bitOf u.statA 3 || !t.prevSent || bitOf u.statB 4
  let g := s.pa pAxStpOffsetAdapt a
  let oA := if on then adaptOffset g band t.offA t.prevRefA ia u.iMeanA u.chopA skip else t.offA
  let oB := if on then adaptOffset g band t.offB t.prevRefB ib u.iMeanB u.chopB skip else t.offB
  let weak := t.prevSent && ((decide (u.chopA = 0 ∧ t.prevHiA ≠ 0)) || (decide (u.chopB = 0 ∧ t.prevHiB ≠ 0)))
  let (hA, lA) := thresholds ia oA band
  let (hB, lB) := thresholds ib oB band
  let load := wrapS 32 (theta - x.fb.thetaE)
  let (t1, o) := if on ∧ x.mode = 5 ∧ s.pa pAxFbKind a ≠ 0 then stall s a theta load t
    else ({ t with travel := 0, stallRun := 0, stallCnt := false, lastTheta := theta }, [])
  ({ x.cur with
      refD := 0, refQ := if x.mode = 5 then 0 else amp, iLimHit := ilim, inject := false,
      vDPrev2 := x.cur.vDPrev, vQPrev2 := x.cur.vQPrev, vDPrev := x.cur.vD, vQPrev := x.cur.vQ, vD := 0, vQ := 0
      stp := { t1 with offA := oA, offB := oB, prevRefA := ia, prevRefB := ib, prevHiA := hA, prevHiB := hB,
                       prevSent := on, chopWeak := weak, blend := decide (part blA ≠ 0 ∨ part blB ≠ 0), blA := blA, blB := blB, blN := blN,
                       blJ := if on ∧ blJ < blN then blJ + 1 else blN, blPend := false, iAmp := satS 16 (shrHalfUp amp 16) } },
   [hA, lA, hB, lB], o)

/-- `cur.flags` (R157). -/
def curFlags (c : Cur) (vlim clampHit drop : Bool) : Nat :=
  packBits [(1, b2n vlim), (1, b2n c.iLimHit), (1, b2n clampHit), (1, b2n drop), (1, b2n c.iSumOver), (1, b2n c.overCur),
    (1, b2n c.inject), (1, b2n c.stp.chopWeak), (1, b2n c.stp.holding), (1, b2n c.stp.stallCnt)]

/-- `ax.id.status` (R154). -/
def idStatus (d : IdState) : Nat :=
  packBits [(4, d.frozen), (4, d.bound), (1, b2n d.updated), (1, b2n d.slewing)]

end Sys2Proof.Machine
end

