-- ==== Sys2Proof/Machine/Feedback.lean ====
section
/-! DEFINITION. The feedback stage: count, interpolation, position, index, Hall states, commutation, and the encoder
emulation (07_feedback.md). -/

namespace Sys2Proof.Machine

/-- Sector of a Hall state for positive motion (R203). -/
def hallSectorOf (h : Nat) : Option Nat :=
  match h with
  | 1 => some 0 | 3 => some 1 | 2 => some 2 | 6 => some 3 | 4 => some 4 | 5 => some 5
  | _ => none

/-- Corrected samples, amplitude and fine angle of R190: s1, c2, r, a. c - o_c is formed exactly, and only its product with g is held
to Q1.31. Log 239 (DEDUCED). -/
def sinCosFine (s : State) (a : AxisId) (u : UpFrame) : Int × Int × Int × Nat :=
  let s1 := satS 32 ((u.sin - s.pa pAxFbScOffSin a) * 2 ^ 16)
  let c1 := satS 32 (shrHalfUp ((u.cos - s.pa pAxFbScOffCos a) * 2 ^ 16 * s.pa pAxFbScGain a) 16)
  let (cp, sp) := rot (s.pa pAxFbScPhase a)
  let c2 := satS 32 (divHalfUp ((c1 - shrHalfUp (s1 * sp) 31) * 2 ^ 31) cp)
  let r := satS 16 (shrHalfUp (isqrt (s1 * s1 + c2 * c2).toNat) 16)
  (s1, c2, r, (atan2Turns 15 s1 c2 + 1) / 2 % 2 ^ 14)

/-- X of a merged count and a fine angle (R191). -/
def xOf (m : Int) (fine : Nat) : Int := m / 4 * 2 ^ 14 + fine

/-- The offset q_off for which d is 0 and X lies nearest to the coarse quadrant centre (R191). -/
def fitOff (n : Int) (fine : Nat) : Int :=
  let base := ((fine / 2 ^ 12 : Nat) - n) % 4
  let centre := n * 2 ^ 12 + 2 ^ 11
  let far := fun (q : Int) => absI (xOf (n + q) fine - centre)
  if far (base - 4) ≤ far base then base - 4 else base

/-- Level quadrant from the signs of SIN and COS less their offsets (R198). -/
def levelQuad (s : State) (a : AxisId) (u : UpFrame) : Nat :=
  let sp := decide (0 < u.sin - s.pa pAxFbScOffSin a)
  let cp := decide (0 < u.cos - s.pa pAxFbScOffCos a)
  match sp, cp with
  | true, true => 0
  | true, false => 1
  | false, false => 2
  | false, true => 3

/-- Merge of the count with the fine quadrant: m, new q_off and whether the transition was illegal (R191, R199). -/
def mergeCount (f : Fb) (fine : Nat) : Int × Int × Bool :=
  let b := f.n + f.qOff
  let d := ((fine / 2 ^ 12 : Nat) - b) % 4
  if d = 0 then (b, f.qOff, false)
  else if d = 1 then (b + 1, f.qOff, false)
  else if d = 3 then (b - 1, f.qOff, false)
  else
    let m1 := if f.mCount = 0 then b else f.m1
    let m2 := if f.mCount = 0 then b else if f.mCount = 1 then f.m1 else f.m2
    let pred := m1 + (m1 - m2)
    let up := absI (b + 2 - pred)
    let dn := absI (b - 2 - pred)
    let st : Int := if up < dn ∨ (up = dn ∧ 0 ≤ m1 - m2) then 2 else -2
    (b + st, f.qOff + st, true)

/-- p_raw of X (R195). -/
def rawPos (s : State) (a : AxisId) (x : Int) : Int :=
  let sg : Int := if s.pa pAxFbDir a = 1 then -1 else 1
  satS 64 (divHalfUp (sg * x * 2 ^ 18 * s.pa pAxFbLinesDen a) (s.pa pAxFbLines a))

/-- Electrical angle at a position (R204). -/
def thetaAt (s : State) (a : AxisId) (aC p : Int) : Int :=
  let pp := if s.pa pAxMotKind a = 1 then 1 else s.pa pAxMotPolePairs a
  wrapU 32 ((p + aC) * pp)

/-- The alignment that moves the electrical angle at position `p` to `e` (R204). -/
def alignTo (s : State) (a : AxisId) (aC p e : Int) : Int :=
  let pp := if s.pa pAxMotKind a = 1 then 1 else s.pa pAxMotPolePairs a
  aC + divHalfUp (wrapS 32 (e - thetaAt s a aC p)) pp

/-- Interpolation to an instant between two samples (R201). -/
def interp (p0 : Int) (t0 : Int) (p1 t1 ti : Int) : Int :=
  if t1 = t0 then p1 else p0 + divHalfUp ((p1 - p0) * (ti - t0)) (t1 - t0)

/-- First frame since READY: count, offset and position (R189, R191, R198). Log 167 (DEDUCED). -/
def feedbackReady (s : State) (a : AxisId) (u : UpFrame) (x : Axis) : Axis :=
  let kind := s.pa pAxFbKind a
  let n : Int := u.quad
  let (s1, c2, r, fine) := sinCosFine s a u
  let qOff := if kind = 2 then fitOff n fine
    else if kind = 1 ∧ bitOf x.caps 6 then ((levelQuad s a u : Int) - n) % 4 else 0
  let xv := if kind = 2 then xOf (n + qOff) fine else n * 2 ^ 12
  let pr := if kind = 0 then x.fb.pRaw else rawPos s a xv
  let pf := if kind = 0 then x.fb.pFb else satS 64 (pr + x.fb.pRef)
  { x with fb := { x.fb with
      n := n, quadLast := u.quad, qOff := qOff, mCount := 0, x := xv, coarse := false, first := false,
      s1 := s1, c2 := c2, ampl := r, fine := fine, amplRun := runBreak x.fb.amplRun, adaptN := 0, adaptX := xv, adaptOk := true,
      oS := s.pa pAxFbScOffSin a, oC := s.pa pAxFbScOffCos a, g := s.pa pAxFbScGain a,
      pRaw := pr, pFb := pf, vFb := 0, lastT := none, prevT := none, indexAny := false, hallRun := runBreak x.fb.hallRun,
      hallSector := none, commCoarse := false, commExact := false, stepped := false } }

/-- Every position-valued state of the axis moves by a change of p_ref, and a_c by its opposite (R201, R204). A REL
entry that is not converted holds no position (R216). -/
def shiftPos (d : Int) (x : Axis) : Axis :=
  let mv := fun (e : MoveReq × Nat) => if e.1.kind = 0 then ({ e.1 with target := satS 64 (e.1.target + d) }, e.2) else e
  let cv := fun (g : GCurve) => { g with pS := g.pS + d, p0 := g.p0 + d }
  { x with
    pSet := satS 64 (x.pSet + d)
    spEven := { x.spEven with p := satS 64 (x.spEven.p + d) }
    spOdd := { x.spOdd with p := satS 64 (x.spOdd.p + d) }
    vel := { x.vel with pHat := satS 64 (x.vel.pHat + d) }
    fb := { x.fb with pRef := satS 64 (x.fb.pRef + d), pFb := satS 64 (x.fb.pFb + d), aC := satS 64 (x.fb.aC - d) }
    prof := { x.prof with
      queue := x.prof.queue.map mv, repl := x.prof.repl.map mv, goal := satS 64 (x.prof.goal + d)
      plan := { x.prof.plan with p0 := x.prof.plan.p0 + d, pEnd := x.prof.plan.pEnd + d }
      doneNext := x.prof.doneNext.map (fun e => (e.1, satS 64 (e.2 + d)))
      sp := { x.prof.sp with p := satS 64 (x.prof.sp.p + d) } }
    home := { x.home with last := satS 64 (x.home.last + d) }
    gear := { x.gear with run := cv x.gear.run, next := x.gear.next.map cv } }

/-- Adaptation of the sine/cosine corrections of kind 2 over signal periods, in the formats of R5. A period ends at a net displacement
of X by 2^14 since its start (R194). Logs 170, 240 (DEDUCED). -/
def adaptSc (s : State) (a : AxisId) (u : UpFrame) (f : Fb) : Fb :=
  if s.pa pAxFbScAdapt a = 0 ∨ s.pa pAxFbKind a ≠ 2 then
    { f with oS := s.pa pAxFbScOffSin a, oC := s.pa pAxFbScOffCos a, g := s.pa pAxFbScGain a, adaptN := 0,
             adaptX := f.x, adaptOk := true }
  else
    let start := decide (f.adaptN = 0)
    let mxS := if start then u.sin else max f.maxS u.sin
    let mnS := if start then u.sin else min f.minS u.sin
    let mxC := if start then u.cos else max f.maxC u.cos
    let mnC := if start then u.cos else min f.minC u.cos
    let f1 := { f with maxS := mxS, minS := mnS, maxC := mxC, minC := mnC, adaptN := f.adaptN + 1,
                       adaptOk := f.adaptOk && !f.coarse && !f.amplBad }
    if absI (f.x - f.adaptX) < 2 ^ 14 then f1
    else
      let f2 := { f1 with adaptN := 0, adaptX := f.x, adaptOk := true }
      if f1.adaptOk ∧ 32 ≤ f1.adaptN ∧ f1.adaptN ≤ 65536 ∧ mnC < mxC then
        { f2 with
          oS := satS 16 (divHalfUp (32 * f.oS + (mxS + mnS) - 2 * f.oS) 32)
          oC := satS 16 (divHalfUp (32 * f.oC + (mxC + mnC) - 2 * f.oC) 32)
          g := satS 32 (divHalfUp (15 * f.g + satS 32 (divHalfUp ((mxS - mnS) * 2 ^ 16) (mxC - mnC))) 16) }
      else f2

/-- Count, interpolation and amplitude of one computed cycle (R189-R193, R198, R199). `dt` is c - c' in ns, 0 for none. -/
def countStage (s : State) (a : AxisId) (caps : Nat) (u : UpFrame) (dt : Int) (f0 : Fb) : Fb × List Occ :=
  let kind := s.pa pAxFbKind a
  let f := { f0 with n := f0.n + wrapS 32 ((u.quad : Int) - f0.quadLast), quadLast := u.quad, illegal := false,
                     amplBad := false, sinRaw := u.sin, cosRaw := u.cos }
  if kind = 2 then
    let (s1, c2, r, fine) := sinCosFine s a u
    let f1 := { f with s1 := s1, c2 := c2, ampl := r, fine := fine }
    let coarseX : Int := f.n * 2 ^ 12 + 2 ^ 11
    let lim : Int := s.pa pAxFbScFmax a * 2 ^ 14 * dt
    let (m, q, ill) := mergeCount f1 fine
    let above := decide (dt ≠ 0 ∧ lim < absI ((if f.coarse then coarseX else xOf m fine) - f.x) * 10 ^ 9)
    let f2 : Fb :=
      if f.coarse then
        if absI (coarseX - f.x) * 10 ^ 10 < 9 * lim then
          let q := fitOff f.n fine
          { f1 with coarse := false, qOff := q, m1 := f.n + q, m2 := f.n + q, mCount := 1, x := xOf (f.n + q) fine }
        else { f1 with x := coarseX }
      else
        let f3 := { f1 with qOff := q, m1 := m, m2 := if f1.mCount = 0 then m else f1.m1, mCount := min (f1.mCount + 1) 2,
                            illegal := ill, x := xOf m fine }
        if above then { f3 with coarse := true, x := coarseX, mCount := 0 } else f3
    let bad := decide (r < s.pa pAxFbScAmplMin a ∨ s.pa pAxFbScAmplMax a < r)
    if above then ({ f2 with amplBad := bad, amplRun := runBreak f2.amplRun }, [])
    else
      let (run, o) := runStep fScAmpl a.val 4 f2.amplRun bad
      ({ f2 with amplRun := run, amplBad := bad }, o)
  else
    let (run, o) := runStep fScAmpl a.val 4 f.amplRun false
    let f := { f with amplRun := run }
    if kind = 1 then
      let ill := bitOf caps 6 && decide (((levelQuad s a u : Int) - (f.n + f.qOff)) % 4 = 2)
      ({ f with x := f.n * 2 ^ 12, illegal := ill, qOff := if ill then f.qOff + 2 else f.qOff }, o)
    else (f, o)

/-- Illegal transitions in the sliding window of 1 s (R199). -/
def illegalStage (s : State) (a : AxisId) (f : Fb) : Fb × List Occ :=
  let now := s.time.lt
  let l := f.illegalTimes.filter (fun x => decide (now < x + 1000000000))
  let l1 := if f.illegal then l ++ [now] else l
  let big := decide (s.pa pAxFbIllegalLimit a < l1.length)
  ({ f with illegalTimes := l1, illegalOver := big }, if big ∧ ¬ f.illegalOver then [occOf fIllegal a.val] else [])

/-- Hall and index alignment (R203, R205): `mid` is the position half way between c' and c, `pi` the position of an index
edge in this cycle. -/
def commStage (s : State) (a : AxisId) (u : UpFrame) (on : Bool) (mid : Int) (pi : Option Int) (f : Fb) :
    Fb × List Occ :=
  let method := s.pa pAxFbCommMethod a
  let hs := u.hallIo % 8
  let f := match f.stepAlign with
    | some e => { f with hall := hs, aC := alignTo s a f.aC f.pFb e, commExact := true, stepAlign := none, stepped := true }
    | none => { f with hall := hs }
  if method ≠ 1 ∧ method ≠ 2 then
    let (run, o) := runStep fHallInvalid a.val 4 f.hallRun false
    ({ f with hallRun := run }, o)
  else
    let sec := hallSectorOf hs
    let (run, o0) := runStep fHallInvalid a.val 4 f.hallRun sec.isNone
    let o := o0.map (fun x => if x.ended then x else { x with level := some (if f.commExact then 1 else 3) })
    let f1 := { f with hallRun := run }
    let h := s.pa pAxFbHallOffset a
    let dev := fun (f : Fb) (p e : Int) => decide (2 ^ 28 < absI (wrapS 32 (e - thetaAt s a f.aC p)))
    let (f2, o2) : Fb × List Occ := match sec with
      | none => (f1, o)
      | some k =>
        let f2 := { f1 with hallSector := some k }
        if ¬ f.commCoarse ∧ ¬ f.commExact then
          if on then
            ({ f2 with aC := alignTo s a f.aC f.pFb (h + divHalfUp ((2 * k + 1) * 2 ^ 32) 12), commCoarse := true }, o)
          else (f2, o)
        else match f.hallSector with
          | none => (f2, o)
          | some j =>
            let up := decide (k = (j + 1) % 6)
            let dn := decide (j = (k + 1) % 6)
            if up ∨ dn then
              let e := h + divHalfUp ((if up then k else j : Nat) * 2 ^ 32) 6
              if f.commExact then (f2, if dev f mid e then o ++ [occOf fCommDev a.val] else o)
              else ({ f2 with aC := alignTo s a f.aC mid e, commExact := true }, o)
            else (f2, o)
    match pi with
    | some p =>
      if method = 2 then
        let e := s.pa pAxFbCommOffset a
        if f2.commExact then (f2, if dev f2 p e then o2 ++ [occOf fCommDev a.val] else o2)
        else ({ f2 with aC := alignTo s a f2.aC p e, commExact := true }, o2)
      else (f2, o2)
    | none => (f2, o2)

/-- Difference velocity (R197). Log 169 (DEDUCED). -/
def diffVel (dp dt : Int) : Int := if dt = 0 then 0 else satS 64 (divHalfUp (dp * 10 ^ 9) dt)

/-- The feedback stage of one computed cycle but for the observer: `t` is the sample instant in FT ns, `on` the ENABLE of
the frame being built. An index edge in the first computed cycle after READY, where no c' exists, takes p_raw of that cycle (R188-R205).
Log 241 (DEDUCED). -/
def feedbackStage (s : State) (a : AxisId) (u : UpFrame) (on : Bool) (t : Int) (x : Axis) : Axis × List Occ :=
  let kind := s.pa pAxFbKind a
  let dt := match x.fb.lastT with | some l => t - l | none => 0
  let base0 := x.fb.pFb - x.fb.pRef
  let raw0 := x.fb.pRaw
  let (f1, o1) := countStage s a x.caps u dt x.fb
  let (f2, o2) := illegalStage s a f1
  let raw := if kind = 0 then f2.pRaw else rawPos s a f2.x
  let pf := if kind = 0 then x.pSet else satS 64 (raw + f2.pRef)
  let f3 := { f2 with pRaw := raw, pFb := pf, prevT := f2.lastT, prevBase := base0, lastT := some t }
  let f4 := adaptSc s a u f3
  -- index (R200-R202)
  let seen := decide (u.indexTs ≠ -(2 ^ 31))
  let ti4 := 4 * t + u.indexTs
  let pi := match x.fb.lastT with
    | some l => interp raw0 (4 * l) raw (4 * t) ti4
    | none => raw
  let mode := s.pa pAxFbIndexMode a
  let refs := seen && (decide (mode = 1) || (decide (mode = 2) && f4.indexArmed))
  let dev := decide (mode = 1) && refs && f4.indexAny &&
    decide (s.pa pAxFbIndexTol a < absI (s.pa pAxFbIndexPos a - (pi + f4.pRef)))
  let f5 := { f4 with indexSeen := seen, indexAny := f4.indexAny || seen, pI := if seen then pi else f4.pI,
                      indexArmed := if refs ∧ mode = 2 then false else f4.indexArmed }
  let x1 := { x with fb := f5 }
  let x2 := if refs then
      let y := shiftPos (s.pa pAxFbIndexPos a - pi - f5.pRef) x1
      { y with home := { y.home with referenced := true } }
    else x1
  let f6 := x2.fb
  let dp := (f6.pFb - f6.pRef) - base0
  let range := decide (2 ^ 62 ≤ absI f6.pFb)
  let mid := divHalfUp (2 * f6.pFb - dp) 2
  let (f7, o7) := commStage s a u on mid (if seen then some (pi + f6.pRef) else none) f6
  let f8 := { f7 with vFb := diffVel dp dt, posRange := range, thetaE := thetaAt s a f7.aC f7.pFb }
  ({ x2 with fb := f8 }, o1 ++ o2 ++ (if dev then [occOf fIndexDev a.val] else []) ++
    condStep fPosRange a.val x.fb.posRange range ++ o7)

/-- `ax.fb.flags` (R212). -/
def fbFlags (s : State) (a : AxisId) (f : Fb) : Nat :=
  packBits [(1, b2n f.coarse), (1, b2n f.illegal), (1, b2n f.indexSeen), (1, b2n f.amplBad), (1, b2n f.indexArmed),
    (1, b2n f.commCoarse), (1, b2n f.commExact), (1, b2n (s.emu.lag && decide (s.emu.src = a.val)))]

/-! ### Encoder emulation -/

/-- N of a source position (R206). -/
def emuCount (p : Int) (l : Nat) : Int := p * 4 * l / 2 ^ 32

/-- The emulator takes the next source value: `src` names it, `p` is its position or none where it was not computed,
`t` the start of its interval in FT ns and `ts` the interval. A re-base, also for a change of p_ref, drops the motion edges of that
value and the remainder (R206-R208). Log 211 (DEDUCED). -/
def emuTake (src l : Nat) (ref : Int) (p : Option Int) (t : Int) (ts : Nat) (s : State) : State :=
  let e := s.emu
  match p with
  | none => s
  | some p =>
    let n := emuCount p l
    if ¬ e.valid ∨ e.src ≠ src ∨ e.res ≠ l ∨ e.ref ≠ ref then
      { s with emu := { e with src := src, res := l, ref := ref, value := n, rem := 0, lag := false, valid := true,
                               count := n - e.edges.foldl (fun (acc : Int) x => acc + x.2) 0 } }
    else
      let d := n - e.value + e.rem
      let lim : Int := ts / 40
      let m := min (absI d) lim
      let sg := signOf d
      let at_ := fun (k : Nat) => t + ts + divHalfUp ((2 * k - 1) * ts) (2 * m)
      let new := (List.range m.toNat).map (fun k => (at_ (k + 1), sg))
      let rem := d - sg * m
      let big := decide (4 * (l : Int) < absI rem)
      let s1 := if big ∧ ¬ e.lagRep then s.raise fEmuLag 0xFF else if ¬ big ∧ e.lagRep then s.clearCond fEmuLag 0xFF else s
      { s1 with emu := { e with value := n, rem := rem, lag := decide (rem ≠ 0), lagRep := big, edges := e.edges ++ new } }

/-- The source is off: the outputs are low (R206). -/
def emuOff (s : State) : State :=
  let s1 := if s.emu.lagRep then s.clearCond fEmuLag 0xFF else s
  { s1 with emu := { src := 0xFF } }

/-- A source that is off drives the outputs low, whether or not control cycles run (R206). -/
def emuSource (s : State) : State := if s.pn pModEmuSource 0 = 0xFF then emuOff s else s

/-- Levels of EMA, EMB and EMZ: A leads B for positive motion; Z is high while N mod 4L is 0 (R207). -/
def emuPads (e : EmuState) : Bool × Bool × Bool :=
  if ¬ e.valid then (false, false, false)
  else (decide (e.phase % 4 = 1 ∨ e.phase % 4 = 2), decide (e.phase % 4 = 2 ∨ e.phase % 4 = 3),
        decide (e.count % (4 * (e.res : Int)) = 0))

/-- Edges whose instant has come are placed (R207). -/
def emuRun (now : Int) (e : EmuState) : EmuState :=
  let due := e.edges.filter (fun x => decide (x.1 ≤ now))
  let d := due.foldl (fun (acc : Int) x => acc + x.2) 0
  { e with edges := e.edges.filter (fun x => decide (now < x.1)), count := e.count + d,
           phase := ((e.phase + d) % 4).toNat }

/-- EMULATOR_EDGE: the edges due are placed on EMA and EMB (R207). -/
def execEmulatorEdge (t : Nat) (s : State) : Host.Outcome State Fault Refusal :=
  let s := s.begin t
  done { s with emu := emuRun s.ft s.emu }

end Sys2Proof.Machine
end

