-- ==== Sys2Proof/Machine/Planner.lean ====
section
/-! DEFINITION. Jerk-limited plans (R219-R225) in exact fractions of units and seconds: their pieces, the time-optimal
solution, stops and velocity changes, and the set-points that they give. -/

namespace Sys2Proof.Machine

/-- Square root in 64.64 fixed point, rounded down: it enters the continuous solution only (R221). -/
def sqrtR (x : Rat) : Rat := if x ≤ 0 then 0 else (isqrt (x * 2 ^ 128).floor.toNat : Rat) / 2 ^ 64

/-- Absolute value and sign of a rational. -/
def absR (x : Rat) : Rat := if x < 0 then -x else x
def sgnR (x : Rat) : Rat := if x < 0 then -1 else if 0 < x then 1 else 0

/-- Smallest integer not below a rational. -/
def ceilR (x : Rat) : Int := -(-x).floor

/-- State after a time in a piece of constant jerk (R223). -/
def pieceAt (p v a j t : Rat) : Rat × Rat × Rat :=
  (p + v * t + a * t ^ 2 / 2 + j * t ^ 3 / 6, v + a * t + j * t ^ 2 / 2, a + j * t)

/-- State, phase and jerk at a time in a chain of pieces; none after its end. -/
def chainAt : List Seg → Rat → Rat → Rat → Rat → Option (Rat × Rat × Rat × Nat × Rat)
  | [], _, _, _, _ => none
  | g :: r, p, v, a, t =>
    if t < g.dur then
      let (p1, v1, a1) := pieceAt p v a g.jerk t
      some (p1, v1, a1, g.ph, g.jerk)
    else
      let (p1, v1, a1) := pieceAt p v a g.jerk g.dur
      chainAt r p1 v1 a1 (t - g.dur)

/-- State at the end of a chain. -/
def chainEnd : List Seg → Rat → Rat → Rat → Rat × Rat × Rat
  | [], p, v, a => (p, v, a)
  | g :: r, p, v, a =>
    let (p1, v1, a1) := pieceAt p v a g.jerk g.dur
    chainEnd r p1 v1 a1

/-- State of a plan at a time from its origin, with phase and jerk (R223): at and after the end exactly the end state. -/
def Plan.at_ (p : Plan) (t : Rat) : Rat × Rat × Rat × Nat × Rat :=
  match chainAt p.segs p.p0 p.v0 p.a0 t with
  | some r => r
  | none =>
    if p.hold then
      let (e, _, _) := chainEnd p.segs p.p0 p.v0 p.a0
      (e + p.vEnd * (t - p.total), p.vEnd, 0, if p.vEnd = 0 then 0 else 4, 0)
    else (p.pEnd, p.vEnd, 0, 0, 0)

/-- A piece, left out when it has no length (R220). -/
def seg1 (d j : Rat) (ph : Nat) : List Seg := if d ≤ 0 then [] else [⟨d, j, ph⟩]

/-- Phases 1-3 (or 5-7): from (v0, a0) to velocity v1 at zero acceleration under |jerk| = j, and |a| ≤ lA where the speed rises, lD
where it falls; an acceleration beyond the limit is turned back at the jerk, through zero where the turn alone passes the target, and
the velocity then returns to it (R220, R222). -/
def trans (v0 a0 v1 lA lD j : Rat) (ph : Nat) : List Seg :=
  if j ≤ 0 ∨ lA ≤ 0 ∨ lD ≤ 0 then []
  else
    let after := v0 + a0 * absR a0 / (2 * j)
    if after = v1 then seg1 (absR a0 / j) (-(sgnR a0) * j) (ph + 2)
    else
      let sg : Rat := if after < v1 then 1 else -1
      let lim := if 0 < sg * v1 then lA else lD
      let peak := sqrtR ((2 * sg * j * (v1 - v0) + a0 ^ 2) / 2)
      let x := sg * (if lim < peak then lim else peak)
      let rest := (v1 - v0) - (a0 + x) * absR (x - a0) / (2 * j) - x * absR x / (2 * j)
      let hold := if lim < peak then rest / x else 0
      seg1 (absR (x - a0) / j) (sgnR (x - a0) * j) ph ++ seg1 hold 0 (ph + 1) ++ seg1 (absR x / j) (-sg * j) (ph + 2)

/-- Limits in force: V, A, D and J (R219). -/
structure Limits where
  v : Rat
  a : Rat
  d : Rat
  j : Rat
  deriving DecidableEq, Repr

def Limits.toList (l : Limits) : List Rat := [l.v, l.a, l.d, l.j]
def limitsOf (l : List Rat) : Limits := ⟨l.getD 0 1, l.getD 1 1, l.getD 2 1, l.getD 3 1⟩

/-- Pieces of a motion through a peak speed, with a time at it, to an end speed, in the direction sg (R220). -/
def throughPeak (v0 a0 sg vp tv vEnd : Rat) (l : Limits) : List Seg :=
  trans v0 a0 (sg * vp) l.a l.d l.j 1 ++ seg1 tv 0 4 ++ trans (sg * vp) 0 (sg * vEnd) l.a l.d l.j 5

/-- Distance in the direction sg of a chain. -/
def chainDist (sg v0 a0 : Rat) (g : List Seg) : Rat := sg * (chainEnd g 0 v0 a0).1

/-- `n` steps of bisection for the largest number of 2^-64 in [lo, hi] that meets a condition (R221). -/
def bisect (ok : Rat → Bool) : Nat → Int → Int → Int
  | 0, lo, _ => lo
  | n + 1, lo, hi =>
    let mid := (lo + hi) / 2
    if ok ((mid : Rat) / 2 ^ 64) then bisect ok n mid hi else bisect ok n lo mid

/-- Largest speed up to v for which a distance does not exceed len, in 64 steps over [0, v] (R221). -/
def peakFor (dist : Rat → Rat) (v len : Rat) : Rat :=
  if dist v ≤ len then v
  else (bisect (fun x => decide (dist x ≤ len)) 64 0 (v * 2 ^ 64).floor : Rat) / 2 ^ 64

/-- Velocity at which an acceleration has been turned to zero at a jerk. -/
def coastVel (v0 a0 j : Rat) : Rat := if j = 0 then v0 else v0 + a0 * absR a0 / (2 * j)

/-- The continuous time-optimal motion over a distance in the direction sg: pieces and peak speed (R220, R221). From a moving start
the distance grows with the peak only above the speed at which the present acceleration has been turned to zero, so the bisection over
[0, V] takes its solution there where one exists, and otherwise below it. -/
def forward (v0 a0 sg len vEnd : Rat) (l : Limits) : List Seg × Rat :=
  let dist := fun (vp : Rat) => chainDist sg v0 a0 (throughPeak v0 a0 sg vp 0 vEnd l)
  let lo := min l.v (max vEnd (sg * coastVel v0 a0 l.j))
  let above := decide (dist lo ≤ len)
  let ok := fun (x : Rat) =>
    if above then decide (x ≤ lo) || decide (dist x ≤ len) else decide (x ≤ vEnd) || (decide (x < lo) && decide (dist x ≤ len))
  let full := decide (dist l.v ≤ len)
  let vp : Rat := if full then l.v else (bisect ok 64 0 (l.v * 2 ^ 64).floor : Rat) / 2 ^ 64
  let tv := if full ∧ 0 < l.v then (len - dist l.v) / l.v else 0
  (throughPeak v0 a0 sg vp tv vEnd l, vp)

/-- Duration of a phase in a list of pieces, rounded up to whole position cycles. -/
def phaseUp (g : List Seg) (tp : Rat) (ph : Nat) : Rat :=
  tp * ceilR ((g.filter (fun x => decide (x.ph = ph))).foldl (fun (acc : Rat) x => acc + x.dur) 0 / tp)

/-- Rounding of a rest-to-rest move to whole position cycles (R221); a jerk phase keeps at least one (log 26). -/
def roundRest (g : List Seg) (sg len tp : Rat) : List Seg × Rat :=
  let tja := max tp (phaseUp g tp 1)
  let ta := phaseUp g tp 2
  let tv := phaseUp g tp 4
  let tjd := max tp (phaseUp g tp 5)
  let td := phaseUp g tp 6
  let vp := len / (tja + ta / 2 + tv + tjd + td / 2)
  let ja := sg * vp / (tja * (tja + ta))
  let jd := sg * vp / (tjd * (tjd + td))
  (seg1 tja ja 1 ++ seg1 ta 0 2 ++ seg1 tja (-ja) 3 ++ seg1 tv 0 4 ++ seg1 tjd (-jd) 5 ++ seg1 td 0 6 ++ seg1 tjd jd 7, vp)

/-- Plan of a move to a target from a state, with the end speed vEnd at it, rounded under R221 from rest (R220-R222). -/
def planMove (p0 v0 a0 target vEnd : Rat) (l : Limits) (tp : Rat) (round : Bool) : Plan :=
  let base : Plan := { p0 := p0, v0 := v0, a0 := a0, pEnd := target }
  if v0 = 0 ∧ a0 = 0 then
    let sg := sgnR (target - p0)
    if sg = 0 then base
    else
      let len := sg * (target - p0)
      let (g, vp) := forward 0 0 sg len vEnd l
      let (g, vp) := if round ∧ vEnd = 0 then roundRest g sg len tp else (g, vp)
      { base with segs := g, vEnd := sg * vEnd, vPeak := sg * vp }
  else
    let stop := trans v0 a0 0 l.a l.d l.j 5
    let (ps, _, _) := chainEnd stop p0 v0 a0
    let dir := if v0 ≠ 0 then sgnR v0 else sgnR a0
    let toEnd := trans v0 a0 (dir * vEnd) l.a l.d l.j 5
    let len := dir * (target - p0)
    if vEnd ≠ 0 ∧ chainDist dir v0 a0 toEnd ≤ len then
      let (g, vp) := forward v0 a0 dir len vEnd l
      { base with segs := g, vEnd := dir * vEnd, vPeak := dir * vp }
    else if dir * (target - ps) < 0 then
      let sg := sgnR (target - ps)
      let (g, _) := forward 0 0 sg (sg * (target - ps)) 0 l
      let (g, vp) := roundRest g sg (sg * (target - ps)) tp
      { base with segs := stop ++ g, vPeak := sg * vp }
    else
      let (g, vp) := forward v0 a0 dir len 0 l
      { base with segs := g, vPeak := dir * vp }

/-- Plan of a change to a velocity, which is then held (R224). -/
def planVel (p0 v0 a0 v1 : Rat) (l : Limits) : Plan :=
  let g := if v0 * v1 < 0 then trans v0 a0 0 l.a l.d l.j 1 ++ trans 0 0 v1 l.a l.d l.j 1 else trans v0 a0 v1 l.a l.d l.j 1
  { p0 := p0, v0 := v0, a0 := a0, segs := g, hold := true, vEnd := v1, vPeak := v1 }

/-- Plan of a stop under a deceleration and a jerk (R235). -/
def planStop (p0 v0 a0 d j : Rat) : Plan :=
  let g := trans v0 a0 0 d d j 5
  { p0 := p0, v0 := v0, a0 := a0, segs := g, pEnd := (chainEnd g p0 v0 a0).1 }

/-- Plan of a quick stop: the deceleration acts in full from the first position cycle until rest (R236). -/
def planQuick (p0 v0 d : Rat) : Plan :=
  let a := -(sgnR v0) * d
  let g := if d ≤ 0 then [] else seg1 (absR v0 / d) 0 6
  { p0 := p0, v0 := v0, a0 := if v0 = 0 then 0 else a, segs := g, pEnd := (chainEnd g p0 v0 a).1 }

/-- Plan of a DWELL: the position held for whole position cycles (R225). -/
def planDwell (p : Int) (ns : Int) (tpNs : Nat) : Plan :=
  let n : Int := if tpNs = 0 then 0 else -(-ns / tpNs)
  { p0 := p, segs := seg1 ((n * tpNs : Int) / 10 ^ 9) 0 0, pEnd := p }

/-- A set-point of a state, each value rounded half up to int64 (R223). -/
def setPointOf (p v a : Rat) : SetPoint := ⟨satS 64 (ratHalfUp p), satS 64 (ratHalfUp v), satS 64 (ratHalfUp a), true⟩

/-- Speed from which a motion at rest or at vEnd can still be reached within a length (R230). -/
def brakeSpeed (len vEnd : Rat) (l : Limits) : Rat :=
  let dist := fun (v : Rat) => if v ≤ vEnd then 0 else chainDist 1 v 0 (trans v 0 vEnd l.a l.d l.j 5)
  peakFor dist l.v len

/-- Speed that can be reached within a length from a state. -/
def reachSpeed (v0 a0 len : Rat) (l : Limits) : Rat :=
  let dist := fun (v : Rat) => if v ≤ max v0 (coastVel v0 a0 l.j) then 0 else chainDist 1 v0 a0 (trans v0 a0 v l.a l.d l.j 1)
  peakFor dist l.v len

end Sys2Proof.Machine
end

