-- ==== Sys2Proof/Machine/Path.lean ====
section
/-! DEFINITION. Path geometry of coordinated groups: lines, arcs and uniform cubic B-splines (R226-R228), in path
coordinates, exact but for square roots and angles. -/

namespace Sys2Proof.Machine

/-- Cosine and sine of an angle in turns, in 2^-96. -/
def cosSinT (turns : Rat) : Rat × Rat :=
  let f := turns - turns.floor
  let q := (4 * f).floor
  let x := ((4 * f - q) * piFix / 2).floor
  let x2 := x * x / 2 ^ 96
  let sn : Rat := (series x2 20 2 x : Rat) / 2 ^ 96
  let cs : Rat := (series x2 20 1 (2 ^ 96) : Rat) / 2 ^ 96
  if q = 0 then (cs, sn) else if q = 1 then (-sn, cs) else if q = 2 then (-cs, -sn) else (sn, -cs)

/-- Angle of a vector in turns, to 2^-64. -/
def turnsOf (y x : Rat) : Rat :=
  let d : Int := ((y.den * x.den : Nat) : Int)
  (atan2Turns 64 (y * d).floor (x * d).floor : Rat) / 2 ^ 64

/-- Scalar product and norm. -/
def dotR (x y : List Rat) : Rat := (List.zipWith (· * ·) x y).foldl (· + ·) 0
def normR (x : List Rat) : Rat := sqrtR (dotR x x)
def subR (x y : List Rat) : List Rat := List.zipWith (· - ·) x y

/-- Position and its first two derivatives by the parameter on one span of a uniform cubic B-spline. -/
def bspline (a b c d u : Rat) : Rat × Rat × Rat :=
  ((a * (1 - u) ^ 3 + b * (3 * u ^ 3 - 6 * u ^ 2 + 4) + c * (-3 * u ^ 3 + 3 * u ^ 2 + 3 * u + 1) + d * u ^ 3) / 6,
   (-a * (1 - u) ^ 2 + b * (3 * u ^ 2 - 4 * u) + c * (-3 * u ^ 2 + 2 * u + 1) + d * u ^ 2) / 2,
   a * (1 - u) + b * (3 * u - 2) + c * (1 - 3 * u) + d * u)

/-- The spline of a path at a span and parameter: value, first and second derivative of every member. -/
def splineAt (pts : List (List Rat)) (span : Nat) (u : Rat) : List (Rat × Rat × Rat) :=
  let g := fun (k j : Nat) => (pts.getD (span + k) []).getD j 0
  (List.range (pts.getD 0 []).length).map (fun j => bspline (g 0 j) (g 1 j) (g 2 j) (g 3 j) u)

/-- Spans of a spline. -/
def spansOf (pts : List (List Rat)) : Nat := pts.length - 3

/-- Chord lengths, 16 per span (R228). -/
def chordsOf (pts : List (List Rat)) : List Rat :=
  (List.range (16 * spansOf pts)).map (fun i =>
    let a := (splineAt pts (i / 16) ((i % 16 : Nat) / 16 : Rat)).map (·.1)
    let b := (splineAt pts (i / 16) ((i % 16 + 1 : Nat) / 16 : Rat)).map (·.1)
    normR (subR b a))

/-- Chord in which a path length falls: its number and the length within it. -/
def chordAt : List Rat → Nat → Rat → Nat × Rat × Rat
  | [], i, s => (i, s, 1)
  | [c], i, s => (i, s, c)
  | c :: d :: r, i, s => if s < c then (i, s, c) else chordAt (d :: r) (i + 1) (s - c)

/-- Every member's path coordinate and its first two derivatives by the path length (R227). -/
def Path.at_ (p : Path) (s : Rat) : List (Rat × Rat × Rat) :=
  if p.len = 0 then p.dst.map (fun x => (x, 0, 0))
  else if p.kind = 6 then
    let (i, w, c) := chordAt p.chords 0 s
    let k := if c = 0 then 0 else 1 / (16 * c)
    let u := (i % 16 : Nat) / 16 + w * k
    (splineAt p.pts (i / 16) u).map (fun x => (x.1, x.2.1 * k, x.2.2 * k ^ 2))
  else
    let lin := (List.zip p.src p.dst).map (fun e => (e.1 + (e.2 - e.1) * s / p.len, (e.2 - e.1) / p.len, (0 : Rat)))
    if p.kind = 3 then lin
    else
      let (c, sn) := cosSinT (p.sweep * s / p.len)
      let w := 2 * piRat * p.sweep / p.len
      let dx := p.src.getD 0 0 - p.centre.1
      let dy := p.src.getD 1 0 - p.centre.2
      let rx := c * dx - sn * dy
      let ry := sn * dx + c * dy
      [(p.centre.1 + rx, -w * ry, -(w ^ 2) * rx), (p.centre.2 + ry, w * rx, -(w ^ 2) * ry)] ++ lin.drop 2

/-- Curvature squared of a spline at a point. -/
def curvature (v : List (Rat × Rat × Rat)) : Rat :=
  let d1 := v.map (·.2.1)
  let d2 := v.map (·.2.2)
  let a := dotR d1 d1
  if a = 0 then 0 else (a * dotR d2 d2 - dotR d1 d2 ^ 2) / a ^ 3

/-- Sample points of a path at which member slopes and curvature are taken: 16 per span of a spline (R227). -/
def Path.samples (p : Path) : List (List (Rat × Rat × Rat)) :=
  if p.kind = 6 then
    (List.range (16 * spansOf p.pts)).map (fun i => splineAt p.pts (i / 16) ((i % 16 : Nat) / 16 : Rat))
  else [p.at_ 0]

/-- Largest |dx_k/ds| of a member: an arc's plane members reach 1 (R226). -/
def Path.slopeMax (p : Path) (k : Nat) : Rat :=
  if (p.kind = 4 ∨ p.kind = 5) ∧ k < 2 then
    (if p.len = 0 then 0 else absR (2 * piRat * p.sweep) * p.radius / p.len)
  else
    (p.samples.map (fun v =>
      let n := if p.kind = 6 then normR (v.map (·.2.1)) else 1
      if n = 0 then 0 else absR (v.getD k (0, 0, 0)).2.1 / n)).foldl max 0

/-- V by the curvature of an arc or a spline, for a path acceleration (R227). -/
def Path.vLimit (p : Path) (v acc : Rat) : Rat :=
  if p.kind = 4 ∨ p.kind = 5 then min v (sqrtR (acc * p.radius))
  else if p.kind = 6 then
    let k2 := (p.samples.map curvature).foldl max 0
    if k2 = 0 then v else min v (sqrtR (acc / sqrtR k2))
  else v

/-- A straight line. -/
def linePath (src dst : List Rat) : Path := { kind := 3, src := src, dst := dst, len := normR (subR dst src) }

/-- A circle about a centre with helical members: clockwise turns from member 1 toward member 0 (R227). The end equal to the
start without further turns is one full turn. Log 196 (DEDUCED). -/
def arcPath (kind : Nat) (src dst : List Rat) (cx cy : Rat) (turns : Nat) : Path :=
  let ax := src.getD 0 0 - cx
  let ay := src.getD 1 0 - cy
  let bx := dst.getD 0 0 - cx
  let by_ := dst.getD 1 0 - cy
  let r := sqrtR (ax ^ 2 + ay ^ 2)
  let ccw := turnsOf (ax * by_ - ay * bx) (ax * bx + ay * by_)
  let same := decide (src.take 2 = dst.take 2)
  let base := if same then 0 else if kind = 5 then ccw else if ccw = 0 then 0 else 1 - ccw
  let total : Rat := if same ∧ turns = 0 then 1 else base + turns
  let plane := 2 * piRat * total * r
  let rest := subR (dst.drop 2) (src.drop 2)
  { kind := kind, src := src, dst := dst, centre := (cx, cy), sweep := if kind = 5 then total else -total, radius := r,
    len := sqrtR (plane ^ 2 + dotR rest rest) }

/-- A spline run: the first control point is the previous end point; both ends are tripled (R227). -/
def splinePath (src : List Rat) (ctrl : List (List Rat)) : Path :=
  let last := ctrl.getLast?.getD src
  let pts := [src, src, src] ++ ctrl ++ [last, last]
  let ch := chordsOf pts
  { kind := 6, src := src, dst := last, pts := pts, chords := ch, len := ch.foldl (· + ·) 0 }

end Sys2Proof.Machine
end

