-- ==== Sys2Proof/Machine/Tides.lean ====
section
/-! DEFINITION. Tide positions, masters, cams and the functions that geared axes follow (10_tides.md). Definitions are
held in 2^-64 tide units, as R271 carries them. -/

namespace Sys2Proof.Machine

/-- A segment record of a definition (R271): KIND, DURATION in ns, V_END in 2^-64. -/
def tideSeg (body : List Byte) (k : Nat) : Nat × Nat × Int :=
  (getU body (32 + 32 * k) 1, getU body (40 + 32 * k) 8, getS body (48 + 32 * k) 16)

/-- Segments of a definition. -/
def tideSegs (body : List Byte) : List (Nat × Nat × Int) := (List.range (getU body 2 1)).map (tideSeg body)

/-- Position, velocity and acceleration at a time in a segment (R272), in 2^-64 units and ns, exact. -/
def segEval (kind : Nat) (p v : Int) (d : Nat) (vEnd : Int) (t : Rat) : Rat × Rat × Rat :=
  let dv : Rat := vEnd - v
  let dd : Rat := d
  if kind = 0 ∨ d = 0 then (p + v * t, v, 0)
  else if kind = 1 then (p + v * t + dv * t ^ 2 / (2 * dd), v + dv * t / dd, dv / dd)
  else (p + v * t + dv * t ^ 3 * (2 * dd - t) / (2 * dd ^ 3), v + dv * t ^ 2 * (3 * dd - 2 * t) / dd ^ 3,
        dv * (6 * dd * t - 6 * t ^ 2) / dd ^ 3)

/-- State of a definition at a time from its start (R272, R273): each boundary is rounded once to 64.64. -/
def segWalk : List (Nat × Nat × Int) → Int → Int → Int → Rat × Rat × Rat
  | [], p, v, t => (p + v * t, v, 0)
  | (kind, d, ve) :: r, p, v, t =>
    if (kind = 0 ∧ d = 0) ∨ t < d then segEval kind p v d ve t
    else
      let e := if kind = 0 then v else ve
      segWalk r (p + divHalfUp (d * (v + e)) 2) e (t - d)

/-- A definition at an FT instant in ns: position and velocity in 2^-64, each rounded once, and the exact acceleration. -/
def defAt (d : TideDef) (t : Int) : Int × Int × Rat :=
  let (p, v, a) := segWalk (tideSegs d.body) d.p0 d.v0 (t - d.t0)
  (satS 128 (ratHalfUp p), satS 128 (ratHalfUp v), a)

/-- ABS of a definition. -/
def tideAbs (body : List Byte) : Bool := bitOf (getU body 1 1) 0

/-- A definition as a node forms it on accepting it for cycle n: its T_0 and start stay, and its generation is set at S(N) (R273). -/
def formDef (s : State) (x : Tide) (n crc : Nat) (body : List Byte) : TideDef :=
  let t0 := s.startOf n
  let (p, v) :=
    if tideAbs body then (getS body 8 8 * 2 ^ 64, getS body 16 16)
    else match x.defn with
      | some d => let (p, v, _) := defAt d t0; (p, v)
      | none => (0, 0)
  { n := n, gen := 0, crc := crc, body := body, p0 := p, v0 := v, t0 := t0 }

/-- Definition that governs an instant: a committed change from its S(N) on, whenever the instant is asked for (R277, R279). -/
def Tide.defnAt (x : Tide) (t : Int) : Option TideDef :=
  match x.pend with
  | some c => if c.decision = 1 ∧ c.new.t0 ≤ t then some c.new else x.defn
  | none => x.defn

/-- State of a computed tide at an instant: the old definition governs the instants before S(N) (R273, R279). Log 203 (DEDUCED). -/
def computedAt (x : Tide) (t : Int) : Int × Int × Rat :=
  match x.defnAt t with
  | none => (0, 0, 0)
  | some d =>
    if d.t0 ≤ t then defAt d t
    else match x.old with
      | some o => defAt o t
      | none => (0, 0, 0)

/-- Record that governs an instant, of the one received for the next fabric cycle, the one in force and the one before; an instant before
them all takes the oldest (R284). Log 249 (DEDUCED). -/
def governing {α : Type} (next now old : Option α) (tNext tNow t : Int) : Option α :=
  if tNext ≤ t then next <|> now else if tNow ≤ t then now else old <|> now

/-- Extrapolation of a record (R284). -/
def extrapolate (ts p v t : Int) : Int := satS 64 (p + divHalfUp (v * (t - ts)) (10 ^ 9))

/-- Position of a tide at an FT instant, with its velocity and acceleration in units/s and units/s^2 (R274, R284). -/
def State.tideAt (s : State) (i : TideId) (t : Int) : Int × Rat × Rat :=
  let x := s.tides.get i
  let src := s.pn pTideSource i.val
  if src = 0 then (0, 0, 0)
  else if src = 1 then
    let (p, v, a) := computedAt x t
    (satS 64 (shrHalfUp p 64), (v : Rat) * 10 ^ 9 / 2 ^ 64, a * 10 ^ 18 / 2 ^ 64)
  else match governing x.next x.rec_ x.recOld (s.startOf (s.fabN + 1)) x.recFrom t with
    | some (_, ts, p, v) => (extrapolate ts p v t, v, 0)
    | none => (0, 0, 0)

/-- `tide[t].status` (R297). -/
def tideStatus (s : State) (i : TideId) : Nat :=
  let x := s.tides.get i
  let src := s.pn pTideSource i.val
  let st := if src = 0 then 0 else if src = 1 then max x.st 1 else if x.st = 3 then 3 else 1
  let (acked, comm, n) := match x.pend with
    | some c => (c.ownAck, decide (c.decision = 1), if c.origin then c.members.length else 0)
    | none => (false, false, 0)
  packBits [(3, st), (1, b2n (decide (0x80 ≤ src))), (1, b2n x.pend.isSome), (1, b2n acked), (1, b2n comm), (1, 0), (9, n)]

/-! ### Masters (R286) -/

/-- The record of a remote axis in a list. -/
def pubIn (node axis : Nat) (l : List PubRec) : Option PubRec := l.find? (fun r => decide (r.node = node ∧ r.axis = axis))

/-- A published record of a remote axis. -/
def State.pubRec (s : State) (node axis : Nat) : Option PubRec := pubIn node axis s.fab.published

/-- The record of a remote axis that governs an instant (R284, R286). -/
def State.pubAt (s : State) (node axis : Nat) (t : Int) : Option PubRec :=
  let now := s.pubRec node axis
  governing (pubIn node axis s.fab.pubNext) now (pubIn node axis s.fab.pubOld) (s.startOf (s.fabN + 1))
    (match now with | some r => r.from_ | none => t) t

/-- A remote master without governing records for `tide[t].stale_cycles` of tide A (R286). -/
def State.remoteStale (s : State) (code : Nat) : Bool :=
  decide (fieldOf code 0 8 = 4) && (match s.pubRec (fieldOf code 16 8) (fieldOf code 8 8) with
    | some r => decide (s.pn pTideStaleCycles 0 ≤ r.age)
    | none => true)

/-- The master is stale or diverged (R298). -/
def State.masterBad (s : State) (code : Nat) : Bool :=
  s.remoteStale code || (decide (fieldOf code 0 8 = 1) && decide (2 ≤ (s.tides.get ⟨fieldOf code 8 8 % 4, by omega⟩).st))

/-- A master's position, velocity and acceleration at an FT instant; local axes give the set-points just formed. -/
def State.masterAt (s : State) (code : Nat) (t : Int) : Int × Rat × Rat :=
  let idx := fieldOf code 8 8
  match fieldOf code 0 8, axisOf? idx with
  | 1, _ => s.tideAt ⟨idx % 4, by omega⟩ t
  | 2, some a => ((s.ax a).prof.sp.p, (s.ax a).prof.sp.v, 0)
  | 3, some a =>
    let x := s.ax a
    (satS 64 (ratHalfUp (x.fb.pFb + (x.vel.vHat : Rat) * (s.pn pCycPosDiv 0 * s.pn pCycPeriodNs 0 : Nat) / 10 ^ 9)),
     x.vel.vHat, 0)
  | 4, _ =>
    match s.pubAt (fieldOf code 16 8) idx t with
    | some r => (extrapolate r.ts r.pos r.vel t, r.vel, 0)
    | none => (0, 0, 0)
  | _, _ => (0, 0, 0)

/-- Local axis that a master code names. -/
def localMaster (code : Nat) : Option AxisId :=
  if fieldOf code 0 8 = 2 ∨ fieldOf code 0 8 = 3 then axisOf? (fieldOf code 8 8) else none

/-- Length of the chain of local masters above an axis, itself counted; the fuel bounds a loop (R286). -/
def State.chainLen (s : State) : Nat → AxisId → Nat
  | 0, _ => 0
  | n + 1, a =>
    let g := (s.ax a).gear
    1 + (g.masters.filterMap localMaster).foldl (fun m b => max m (s.chainLen n b)) 0

/-- Axes in the order masters before followers (R286). -/
def State.masterOrder (s : State) : List AxisId := sortBy (fun a => s.chainLen 6 a) allAxes

/-! ### Cams (R292, R294) -/

/-- Slave offset of point i, for any i from -1 to n. -/
def camY (c : Cam) (i : Int) : Int :=
  if i < 0 then (c.ys.getD (c.n - 1) 0) - c.rise
  else if (c.n : Int) ≤ i then c.ys.getD (i.toNat - c.n) 0 + c.rise
  else c.ys.getD i.toNat 0

/-- Slope of point i in Q32.32 (R292). -/
def camSlopeAt (c : Cam) (i : Int) : Int :=
  let h : Int := 2 ^ 32 / c.n
  let w := fun (j : Int) =>
    if j < 0 then camY c (j + c.n) - c.rise else if (c.n : Int) ≤ j then camY c (j - c.n) + c.rise else camY c j
  divHalfUp ((w (i + 1) - w (i - 1)) * 2 ^ 32) (2 * h)

/-- Value and derivatives of a cam at an input (R294). -/
def camAt (c : Cam) (x : Int) : Int × Rat × Rat :=
  if c.n = 0 then (0, 0, 0)
  else
    let h : Int := 2 ^ 32 / c.n
    let f := x % 2 ^ 32
    let i := f / h
    let u : Rat := ((f - i * h : Int) : Rat) / h
    let y0 : Rat := camY c i
    let y1 : Rat := camY c (i + 1)
    let s0 : Rat := (camSlopeAt c i : Rat) / 2 ^ 32 * h
    let s1 : Rat := (camSlopeAt c (i + 1) : Rat) / 2 ^ 32 * h
    let v := (2 * u ^ 3 - 3 * u ^ 2 + 1) * y0 + (u ^ 3 - 2 * u ^ 2 + u) * s0 + (-2 * u ^ 3 + 3 * u ^ 2) * y1 + (u ^ 3 - u ^ 2) * s1
    let d1 := ((6 * u ^ 2 - 6 * u) * y0 + (3 * u ^ 2 - 4 * u + 1) * s0 + (6 * u - 6 * u ^ 2) * y1 + (3 * u ^ 2 - 2 * u) * s1) / h
    let d2 := ((12 * u - 6) * y0 + (6 * u - 4) * s0 + (6 - 12 * u) * y1 + (6 * u - 2) * s1) / (h : Rat) ^ 2
    (x / 2 ^ 32 * c.rise + ratHalfUp v, d1, d2)

/-! ### The function that an axis follows (R287, R290, R294) -/

/-- Slope of the target function at its sync point. -/
def GCurve.ratio (g : GCurve) : Rat := if g.den = 0 then 0 else (g.num : Rat) / g.den

/-- The target function f and its derivatives by the master position. -/
def GCurve.line (s : State) (g : GCurve) (m : Int) : Rat × Rat × Rat :=
  if g.kind = 1 then
    let c := s.cam g.table
    let x := g.xS + ratHalfUp (((m - g.mS : Int) : Rat) * g.ratio)
    let (v0, _, _) := camAt c g.xS
    let (v, d1, d2) := camAt c x
    (g.pS - v0 + v, d1 * g.ratio, d2 * g.ratio ^ 2)
  else (g.pS + ((m - g.mS : Int) : Rat) * g.ratio, g.ratio, 0)

/-- The engage curve and then the target function (R290). Below m0 the curve goes on with its slope there (log 27). -/
def GCurve.eval (s : State) (g : GCurve) (m : Int) : Rat × Rat × Rat :=
  if g.len ≠ 0 ∧ m < g.mS then
    if m < g.m0 then (g.p0 + g.k0 * ((m - g.m0 : Int) : Rat), g.k0, 0)
    else
      let l : Rat := g.len
      let u : Rat := ((m - g.m0 : Int) : Rat) / l
      ((2 * u ^ 3 - 3 * u ^ 2 + 1) * g.p0 + (u ^ 3 - 2 * u ^ 2 + u) * l * g.k0 + (-2 * u ^ 3 + 3 * u ^ 2) * g.pS + (u ^ 3 - u ^ 2) * l * g.k1,
       ((6 * u ^ 2 - 6 * u) * g.p0 + (3 * u ^ 2 - 4 * u + 1) * l * g.k0 + (6 * u - 6 * u ^ 2) * g.pS + (3 * u ^ 2 - 2 * u) * l * g.k1) / l,
       ((12 * u - 6) * g.p0 + (6 * u - 4) * l * g.k0 + (6 - 12 * u) * g.pS + (6 * u - 2) * l * g.k1) / l ^ 2)
  else g.line s m

/-- An engage curve with p0, k0 and P_s as they are at m0; `cv` is the running function's value at M_s (R290). -/
def GCurve.fixed (s : State) (c : GCurve) (p0 k0 cv : Rat) : GCurve :=
  let (_, k1, _) := c.line s c.mS
  let free := p0 + c.len * (k0 + k1) / 2
  let pS : Rat :=
    if c.land = 0 then free
    else if c.land = 1 then c.pTarget
    else if c.land = 2 then (c.pTarget : Rat) + 2 ^ 32 * ((free - c.pTarget) / 2 ^ 32 + 1 / 2).floor
    else cv
  { c with p0 := p0, k0 := k0, k1 := k1, pS := pS }

/-- The running function as a line in the position of another master: its value at an instant, and its speed over that master's. -/
def GCurve.across (s : State) (run : GCurve) (vM : Rat) (t : Int) : Rat × Rat :=
  let (m, v, _) := s.masterAt run.master t
  let (p, d1, _) := run.eval s m
  (p, if vM = 0 then 0 else d1 * v / vM)

/-- The engage curve once the master has reached m0: one whose running function has another master takes p0, k0 and P_s from the line
of that function there (R289, R290). Log 250 (DEDUCED). -/
def GCurve.reached (s : State) (c run : GCurve) (m : Int) (vM : Rat) (t : Int) : GCurve :=
  if c.open_ then
    let (p, k) := run.across s vM t
    let p0 := p - k * ((m - c.m0 : Int) : Rat)
    { c.fixed s p0 k (p0 + k * c.len) with open_ := false }
  else c

/-- The set-point of a geared axis at an instant, and what the gear shows: the running function up to m0 of the next engage, and that one
from there (R287, R289, R290). Log 204 (DEDUCED). -/
def gearPoint (s : State) (g : Gear) (t : Int) : SetPoint × Gear :=
  let onto := fun (f : GCurve) (m : Int) (v a : Rat) (g : Gear) =>
    let (p, d1, d2) := f.eval s m
    (setPointOf p (d1 * v) (d2 * v ^ 2 + d1 * a), { g with m := m, vM := v, aM := a })
  let (m1, v1, a1) := s.masterAt g.run.master t
  match g.next with
  | none => onto g.run m1 v1 a1 { g with u := 0 }
  | some c =>
    let (m, v, a) := s.masterAt c.master t
    let g1 : Gear := { g with mNext := m, u := 0 }
    if m < c.m0 then
      -- An axis at rest waits: M in use is that of the master it waits for.
      if g.run.master = 0 then ((onto g.run m1 v1 a1 g1).1, { g1 with m := m, vM := v, aM := a }) else onto g.run m1 v1 a1 g1
    else
      let c1 := c.reached s g.run m v t
      let u : Int := if c.len ≠ 0 ∧ m < c.mS then satS 32 (divHalfUp ((m - c.m0) * 2 ^ 31) c.len) else 0
      onto c1 m v a { g1 with next := some c1, u := u }

/-- A running function that holds a position at rest (R289). -/
def holdCurve (p : Int) : GCurve := { pS := p }

/-- GEAR_ENGAGE with its parameters filled in: master, num, den, L (R288). -/
def gearFill (s : State) (a : AxisId) (r : GearReq) : GearReq :=
  { r with
    master := if r.master = 0 then s.pn pAxGearMaster a.val else r.master
    num := if r.den = 0 then s.pa pAxGearNum a else r.num
    den := if r.den = 0 then (s.pa pAxGearDen a).toNat else r.den
    len := if r.len = 0xFFFFFFFFFFFFFFFF then s.pn pAxGearEngage a.val else r.len }

/-- The sync point and the engage curve of a request (R289, R290); none where the master has passed it. Of a running function with
another master the curve holds the line that it is now. Log 250 (DEDUCED). -/
def fixEngage (s : State) (run : GCurve) (r : GearReq) (t : Int) : Option GCurve :=
  let (mNow, v, _) := s.masterAt r.master t
  let base := mNow + r.len
  let mS : Int := if r.mAbs = 1 then wrapS 64 r.mSpec else base + ((r.mSpec : Int) - base) % 2 ^ 32
  if mS - r.len < mNow then none
  else
    let m0 := mS - r.len
    let c : GCurve := { kind := r.kind, table := if r.kind = 1 then r.table else 0xFF, num := r.num, den := r.den, mS := mS,
                        xS := if r.kind = 1 then r.xS else 0, m0 := m0, len := r.len, master := r.master, land := r.land
                        pTarget := r.pTarget }
    if run.master = 0 ∨ run.master = r.master then
      let (p0, k0, _) := run.eval s m0
      some (c.fixed s p0 k0 (run.eval s mS).1)
    else
      let (p, k) := run.across s v t
      let p0 := p + k * ((m0 - mNow : Int) : Rat)
      some { c.fixed s p0 k (p0 + k * r.len) with open_ := true }

/-- Largest |dp/dM| and |d2p/dM2| of an engage curve (R291). -/
def engagePeaks (s : State) (g : GCurve) : Rat × Rat :=
  if g.len = 0 then
    let (_, d1, d2) := g.line s g.mS
    (absR d1, absR d2)
  else
    let l : Rat := g.len
    let a := 6 * (g.p0 - g.pS) + 3 * l * (g.k0 + g.k1)
    let b := -6 * (g.p0 - g.pS) - 2 * l * (2 * g.k0 + g.k1)
    let slope := fun (u : Rat) => absR ((a * u ^ 2 + b * u + l * g.k0) / l)
    let mid := if a = 0 then 0 else -b / (2 * a)
    let peak := if 0 < mid ∧ mid < 1 then slope mid else 0
    (max (max (slope 0) (slope 1)) peak, max (absR (b / l ^ 2)) (absR ((2 * a + b) / l ^ 2)))

/-- The engage stays within `ax.prof.v_max` and `ax.prof.a_max` at the master's present motion (R291). -/
def engageFits (s : State) (a : AxisId) (g : GCurve) (vM aM : Rat) : Bool :=
  let (k, q) := engagePeaks s g
  decide (k * absR vM ≤ s.pa pAxProfVMax a ∧ q * vM ^ 2 + k * absR aM ≤ s.pa pAxProfAMax a)

/-- A new engage ends a MASTER_STALE of the one before it. -/
def gearFresh (a : AxisId) (s : State) : State :=
  if (s.ax a).gear.masterStale then
    (s.modAxis a (fun x => { x with gear := { x.gear with masterStale := false } })).clearCond fMasterStale a.val
  else s

/-- `ax.gear.status` (R298). -/
def gearStatus (s : State) (g : Gear) : Nat :=
  let f := match g.next with | some c => if g.st = 3 then g.run else c | none => g.run
  packBits [(3, g.st), (1, b2n (decide (f.kind = 1) && decide (g.st ≠ 0))), (6, if f.kind = 1 ∧ g.st ≠ 0 then f.table else 0),
    (1, b2n ((g.master :: g.masters).any s.masterBad)), (1, b2n g.camSlope), (1, b2n (decide (g.st = 3) && g.next.isSome))]

end Sys2Proof.Machine
end

