-- ==== Sys2Proof/Machine/VelPos.lean ====
section
/-! DEFINITION. The observer, the position and velocity stages, their supervision, hand-over and the inertia estimate
(06_velocity_position.md). -/

namespace Sys2Proof.Machine

/-- T_v and T_p in ns (R159). -/
def State.velNs (s : State) : Nat := s.pn pCycVelDiv 0 * s.pn pCycPeriodNs 0
def State.posNs (s : State) : Nat := s.pn pCycPosDiv 0 * s.pn pCycPeriodNs 0

/-- Nominal inertia in g cm^2. -/
def State.jNom (s : State) (a : AxisId) : Rat := s.pa pAxVelInertia a

/-- k_a with the inertia in use, in units/s^2 per I_FS (R175). -/
def kaUsed (s : State) (a : AxisId) (x : Axis) : Rat :=
  if x.vel.jUsed = 0 then 0 else s.kaNom a * s.jNom a / x.vel.jUsed

/-- Observer gains l1, l2, l3 (R169); their rounding is not given (log 18). -/
def obsGains (s : State) (a : AxisId) : Rat × Rat × Rat :=
  let b : Rat := 2 * piRat * s.pa pAxVelObsBw a * s.pn pCycPeriodNs 0 / 10 ^ 9
  let held := holdBits (64 + Config.fracBits 2)
  (held (3 * b), held (3 * b ^ 2), held (b ^ 3))

/-- Acceleration by which the observer predicts: the current term by the kind of axis (R169, R170). A closed-loop stepper
uses the references of the two cycles before, the latest ones formed (log 25). -/
def driveAcc (s : State) (a : AxisId) (x : Axis) : Rat :=
  if x.mode = 5 then x.aSet
  else
    let i := if s.pa pAxMotKind a = 2 then x.cur.refQ + x.cur.refQPrev else x.cur.iQ + x.cur.iQPrev
    kaUsed s a x * i / 2 ^ 32

/-- Observer, OVERSPEED and PLAUS in one computed cycle; `on` is ENABLE of the frame being built (R168-R172). Log 177 (DEDUCED). -/
def observer (s : State) (a : AxisId) (on : Bool) (x : Axis) : Axis × List Occ :=
  let v := x.vel
  let f := x.fb
  let fast := decide (6 * s.pa pAxVelLimit a < 5 * absI f.vFb)
  let (ro, o1) := runStep fOverspeed a.val 4 v.overRun fast
  let v1 := { v with overRun := ro, overHi := fast }
  if on then
    let tn : Rat := (s.pn pCycPeriodNs 0 : Rat) / 10 ^ 9
    let am := driveAcc s a x - v.dHat
    let (l1, l2, l3) := obsGains s a
    let pPre := satS 64 (ratHalfUp (v.pHat + v.vHat * tn + am * tn ^ 2 / 2))
    let vPre := satS 64 (ratHalfUp (v.vHat + am * tn))
    let r := satS 64 (f.pFb - pPre)
    let lim := s.pa pAxFbPlausLimit a
    let hi := decide (lim ≠ 0 ∧ s.pa pAxFbKind a ≠ 0 ∧ lim < absI r)
    let n := min (v.predict + 1) 17
    let (rp, o2) := runStep fPlaus a.val (s.pa pAxFbPlausCycles a).toNat v.plausRun (hi && decide (17 ≤ n))
    ({ x with vel := { v1 with
        pHat := satS 64 (ratHalfUp (pPre + l1 * r)), vHat := satS 64 (ratHalfUp (vPre + l2 * r / tn)),
        dHat := satS 64 (ratHalfUp (v.dHat - l3 * r / tn ^ 2)), innov := r, predict := n, plausHi := hi, plausRun := rp } },
     o1 ++ o2)
  else
    let (rp, o2) := runStep fPlaus a.val 1 v.plausRun false
    ({ x with vel := { v1 with pHat := f.pFb, vHat := f.vFb, dHat := 0, innov := 0, predict := 0, plausHi := false,
                               plausRun := rp } }, o1 ++ o2)

/-- The position error (R162). -/
def posError (x : Axis) : Int := satS 64 (x.pSet - x.fb.pFb)

/-- The position stage after the position error: velocity reference and FERR, suspended in PRESS (R162, R163, R256).
Log 178 (DEDUCED). -/
def posStage (s : State) (a : AxisId) (x : Axis) : Axis × List Occ :=
  let lim := s.pa pAxVelLimit a
  let e := x.vel.eP
  let v := divHalfUp (s.pa pAxPosKp a * e + s.pa pAxPosFfVel a * x.vSet) (2 ^ 16)
  let fl := s.pa pAxPosFerrLimit a
  let hi := decide (fl ≠ 0 ∧ fl < absI e)
  let (rf, o) := runStep fFerr a.val 2 x.vel.ferrRun (hi && decide (x.home.phase ≠ 5))
  ({ x with vel := { x.vel with vRef := clamp (-lim) lim v, aRef := x.aSet, velLim := decide (clamp (-lim) lim v ≠ v),
                                ferrHi := hi, ferrRun := rf } }, o)

/-- The references of Velocity mode in a position cycle (R158). -/
def velRefs (x : Axis) : Axis :=
  { x with vel := { x.vel with vRef := x.vSet, aRef := x.aSet, velLim := false, ferrRun := 0, ferrHi := false } }

/-- One velocity cycle of a residual: the blend's share and the state after it (R179). -/
def blendStep (v : Vel) : Int × Vel :=
  let r := if v.blendJ < v.blendN then divHalfUp (v.rho * (v.blendN - v.blendJ)) v.blendN else 0
  (r, { v with blendJ := min (v.blendJ + 1) v.blendN, blend := decide (r ≠ 0) })

/-- Start of a blend (R179, R180). -/
def startBlend (s : State) (a : AxisId) (rho : Int) (torque : Bool) (v : Vel) : Vel :=
  { v with rho := rho, blendJ := 0, blendN := s.blendLen a, blendTorque := torque, switch := true, hand := none }

/-- Torque mode in a velocity cycle (R158, R180). -/
def torqueStage (s : State) (a : AxisId) (v : Vel) : Vel :=
  let ref := s.pa pAxModeTorqueRef a * 2 ^ 16
  let v1 := match v.hand with
    | some i => startBlend s a (i - ref) true v
    | none => v
  let (r, v2) := blendStep v1
  { v2 with iQRef := satS 32 (ref + (if v2.blendTorque then r else 0)), incV := none }

/-- I_int with 31 fraction bits (R166). -/
def intLimit (s : State) (a : AxisId) (x : Axis) : Int := min (s.pa pAxVelIntLimit a * 2 ^ 16) (iLim s a x)

/-- The velocity stage up to the biquads: u, i_ff, the increment held, and the presets of a switch (R164, R178, R179). -/
def velFront (s : State) (a : AxisId) (x : Axis) : Vel :=
  let v := x.vel
  let eV := satS 64 (v.vRef - v.vHat)
  let ratio : Rat := if s.jNom a = 0 then 1 else v.jUsed / s.jNom a
  let uP := satS 32 (ratHalfUp ((s.pa pAxVelKp a * eV : Int) * ratio / 2 ^ 17))
  let kiv := ratHalfUp ((divHalfUp (s.pa pAxVelKi a * s.velNs * 2 ^ 32) (10 ^ 9) : Int) * ratio)
  let inc := shrHalfUp (kiv * eV) 18
  let ka := kaUsed s a x
  let iff := if ka = 0 then 0 else satS 32 (ratHalfUp ((s.pa pAxVelFfAcc a * v.aRef * 2 ^ 15 : Int) / ka))
  let lim := intLimit s a x * 2 ^ 31
  let (v1, inc1) : Vel × Option Int := match v.hand with
    | some i =>
      let ut := satS 32 (i - iff)
      let want := (ut - uP) * 2 ^ 31
      let en := (s.pa pAxVelBqEn a).toNat
      let bq := (List.range 4).map (fun j => if bitOf en j then (⟨ut, ut, ut, ut⟩ : BqMem) else v.bq.getD j ({} : BqMem))
      (startBlend s a (shrHalfUp (want - clamp (-lim) lim want) 31) false { v with intV := clamp (-lim) lim want, bq := bq }, none)
    | none => (v, some inc)
  let (r, v2) := blendStep v1
  let u := satS 32 (satS 32 (uP + shrHalfUp v2.intV 31) + (if v2.blendTorque then 0 else r))
  { v2 with eV := eV, u := u, iFf := iff, incV := inc1.map (fun i => (i, u)) }

/-- One biquad in direct form I (R165): output and memory. -/
def biquad (c : List Int) (m : BqMem) (x : Int) : Int × BqMem :=
  let k := fun (i : Nat) => c.getD i 0
  let acc := satS 80 (k 0 * x + k 1 * m.x1 + k 2 * m.x2 - k 3 * m.y1 - k 4 * m.y2)
  let y := satS 32 (shrHalfUp acc 30)
  (y, ⟨x, m.x1, y, m.y1⟩)

/-- The enabled biquads in a chain; a stage that is off keeps no state (R164, R165). -/
def biquads (s : State) (a : AxisId) (v : Vel) : Vel :=
  let en := (s.pa pAxVelBqEn a).toNat
  let r := (List.range 4).foldl (fun (acc : Int × List BqMem) j =>
    if bitOf en j then
      let (y, m) := biquad (s.par (pAxVelBq + j) a.val) (v.bq.getD j ({} : BqMem)) acc.1
      (y, acc.2 ++ [m])
    else (acc.1, acc.2 ++ [({} : BqMem)])) (v.u, [])
  { v with uF := r.1, bq := r.2 }

/-- The end of the velocity stage (R164). -/
def velBack (v : Vel) : Vel := { v with iQRef := satS 32 (v.uF + v.iFf) }

/-- Commit of the velocity integrator with step 8 of R128 (R166). -/
def commitVel (s : State) (a : AxisId) (x : Axis) (ilim vlim : Bool) : Vel :=
  let v := x.vel
  match v.incV with
  | none => { v with awHold := false }
  | some (inc, u) =>
    let lim := intLimit s a x * 2 ^ 31
    let drop := decide (inc ≠ 0 ∧ signOf inc = signOf u) && (ilim || vlim || decide (lim ≤ absI v.intV))
    { v with incV := none, awHold := drop, intV := clamp (-lim) lim (if drop then v.intV else v.intV + inc) }

/-- AXIS_ENABLE clears int_v and the biquads, and no blend runs (R183, R256). -/
def velClear (v : Vel) : Vel :=
  { v with intV := 0, bq := [{}, {}, {}, {}], rho := 0, blendJ := 0, blendN := 0, blend := false, hand := none, incV := none }

/-! ### Inertia (R173-R175) -/

/-- What the estimator does not run on. -/
def inertiaIdle (s : State) (a : AxisId) : Bool :=
  decide (s.pa pAxCurAdapt a = 0 ∨ s.pa pAxMotKind a = 2 ∨ s.pa pAxFbKind a = 0 ∨ s.kaNom a = 0)

/-- One RLS row for [k_a, -d]; a frozen k_a takes no part (R150, R173). -/
def inertiaRow (frozen : Bool) (p : List (List Rat)) (im y lam ka d : Rat) : Rat × Rat × List (List Rat) :=
  let at_ := fun (i j : Nat) => (p.getD i []).getD j 0
  if frozen then
    let den := lam + at_ 1 1
    let k := at_ 1 1 / den
    (ka, estHold (d + k * (y - (im * ka + d))),
     [[at_ 0 0, at_ 0 1], [at_ 1 0, estHold ((at_ 1 1 - k * at_ 1 1) / lam)]])
  else
    let p0 := at_ 0 0 * im + at_ 0 1
    let p1 := at_ 1 0 * im + at_ 1 1
    let den := lam + im * p0 + p1
    let err := y - (im * ka + d)
    (estHold (ka + p0 / den * err), estHold (d + p1 / den * err),
     [[estHold ((at_ 0 0 - p0 / den * p0) / lam), estHold ((at_ 0 1 - p0 / den * p1) / lam)],
      [estHold ((at_ 1 0 - p1 / den * p0) / lam), estHold ((at_ 1 1 - p1 / den * p1) / lam)]])

/-- The estimator in a velocity cycle that was computed with ENABLE = `on`; J_BOUND is set once J_est has been held at a bound for 1 s
(R173-R175). -/
def inertiaStage (s : State) (a : AxisId) (on : Bool) (x : Axis) : Vel :=
  let v := x.vel
  let jn := s.jNom a
  let tv : Rat := (s.velNs : Rat) / 10 ^ 9
  let tau : Rat := (s.pa pAxIdTauMs a : Rat) / 1000
  let b : Rat := (s.pa pAxIdBoundPct a : Rat) / 100
  let adapt := s.pa pAxCurAdapt a
  let whole := v.jWhole && on
  let base := { v with vPrevFb := x.fb.vFb, jSum := 0, jCount := 0, jWhole := true, jUpdated := false }
  if inertiaIdle s a then
    { base with jFrozen := true, jBound := false, jBoundSince := none, jUsed := v.jUsed + clampR (-jn / 4096) (jn / 4096) (jn - v.jUsed),
                jEst := if s.kaNom a = 0 then jn else v.jEst }
  else
    let am := ((x.fb.vFb - v.vPrevFb : Int) : Rat) / tv
    let exc := if whole then estHold (v.jExc + (am * am - v.jExc) * tv / tau) else v.jExc
    let thr : Rat := (s.pa pAxIdExciteMin a : Rat) / 2 ^ 16 * s.pa pAxProfAMax a
    let frozen := decide (exc < thr * thr)
    let kan := s.kaNom a
    let ka := if v.jEst = 0 then kan else kan * jn / v.jEst
    let v1 : Vel :=
      if whole then
        let n := x.cur.iQ + v.jSum
        let im : Rat := (n : Rat) / (v.jCount + 1) / 2 ^ 31
        let p := if v.jP.isEmpty then [[(b * kan) ^ 2, 0], [0, kan ^ 2]] else v.jP
        let (k1, d1, p1) := inertiaRow frozen p im am (1 - tv / tau) ka (-v.jB)
        let j := if frozen then v.jEst else clampR (jn * (1 - b)) (jn * (1 + b)) (estHold (jn * kan / k1))
        { base with jEst := j, jB := -d1, jP := p1, jUpdated := !frozen }
      else base
    let bound := decide (v1.jEst = jn * (1 - b) ∨ v1.jEst = jn * (1 + b))
    let target := if adapt = 2 then v1.jEst else jn
    let since := if bound then some (v.jBoundSince.getD s.time.lt) else none
    { v1 with
      jExc := exc, jFrozen := frozen, jBoundSince := since
      jBound := (match since with | some t => decide (t + 1000000000 ≤ s.time.lt) | none => false)
      jUsed := v.jUsed + clampR (-jn / 4096) (jn / 4096) (target - v.jUsed) }

/-- A computed cycle between velocity cycles (R173, R174). -/
def inertiaBetween (on : Bool) (x : Axis) : Vel :=
  { x.vel with jSum := x.vel.jSum + x.cur.iQ, jCount := x.vel.jCount + 1, jWhole := x.vel.jWhole && on, jUpdated := false }

/-- In ADAPT an estimate of the axis has been held at a bound for 1 s (R153, R175). -/
def idHeld (s : State) (a : AxisId) (x : Axis) : Bool :=
  let held : Option Nat → Bool := fun o => match o with | some c => decide (c + 1000000000 ≤ s.time.lt) | none => false
  decide (s.pa pAxCurAdapt a = 2) && (x.cur.id.boundSince.any held || held x.vel.jBoundSince)

/-- `vel.flags` (R187). -/
def velFlags (x : Axis) : Nat :=
  packBits [(1, b2n x.vel.velLim), (1, b2n x.vel.awHold), (1, b2n (x.vel.blend || x.cur.stp.blend)),
    (1, b2n x.vel.switch), (1, b2n x.pendSw.isSome), (1, b2n x.vel.ferrHi), (1, b2n x.vel.plausHi), (1, b2n x.vel.overHi),
    (1, b2n x.vel.jFrozen), (1, b2n x.vel.jBound), (1, b2n x.vel.jUpdated)]

end Sys2Proof.Machine
end

