-- ==== Sys2Proof/Machine/Profile.lean ====
section
/-! DEFINITION. The profile engine of one axis: limits, taking entries from the queue, joints, stops, jogs, soft limits and
the set-points of the coming position cycle (08_motion_profiles.md). -/

namespace Sys2Proof.Machine

/-- T_p in s (R159). -/
def State.tp (s : State) : Rat := ((s.pn pCycPosDiv 0 * s.pn pCycPeriodNs 0 : Nat) : Rat) / 10 ^ 9

/-- A limit times a fraction of R215; 0 means 1.0 (R219). -/
def fracR (b : Int) (f : Nat) : Rat := if f = 0 then b else (b : Rat) * f / 2 ^ 16

/-- Limits of an axis in force for a move (R219). -/
def axLimits (s : State) (a : AxisId) (vf af df jf : Nat) : Limits :=
  ⟨fracR (s.pa pAxProfVMax a) vf, fracR (s.pa pAxProfAMax a) af, fracR (s.pa pAxProfDMax a) df, fracR (s.pa pAxProfJMax a) jf⟩

def moveLimits (s : State) (a : AxisId) (m : MoveReq) : Limits := axLimits s a m.vFrac m.aFrac m.dFrac m.jFrac

/-- The software limits that apply (R243, R259). -/
def softLims (s : State) (a : AxisId) : Option (Int × Int) :=
  let lo := s.pa pAxProfSoftMin a
  let hi := s.pa pAxProfSoftMax a
  if (s.ax a).home.referenced ∧ lo < hi then some (lo, hi) else none

/-- BLEND in force of an entry (R215). -/
def blendOf (queueMode : Int) (m : MoveReq) : Int := if m.blend = 0xFF then queueMode else m.blend

/-- State from which a plan starts: in Velocity mode, which forms no p_set, at p_fb (R224, log 28). -/
def startOf (x : Axis) : Rat × Rat × Rat :=
  (if x.mode = 1 then x.fb.pFb else x.prof.sp.p, x.prof.sp.v, x.prof.sp.a)

/-- Largest speed at a joint from which the looked-ahead moves can come to rest; before a VEL entry in the same direction it is that
entry's velocity (R230-R232). -/
def lookSpeed (s : State) (a : AxisId) (dir : Rat) : List (MoveReq × Nat) → Rat → Rat
  | [], _ => 0
  | (m, _) :: r, src =>
    if m.startAt then 0
    else if m.kind = 2 then (if sgnR m.target = dir then min (absR m.target) (moveLimits s a m).v else 0)
    else if m.kind ≠ 0 ∨ sgnR (m.target - src) ≠ dir then 0
    else
      let next := if blendOf (s.pa pAxProfBlendMode a) m = 0 then 0 else lookSpeed s a dir r m.target
      brakeSpeed (absR (m.target - src)) next (moveLimits s a m)

/-- The joint at the end of a move of one axis, from a start state (R230-R232): a corner blend acts as a velocity blend. -/
def axJoint (s : State) (a : AxisId) (m : MoveReq) (st : Rat × Rat × Rat) : Joint :=
  if blendOf (s.pa pAxProfBlendMode a) m = 0 then .exact
  else
    let l := moveLimits s a m
    let dir := sgnR (m.target - st.1)
    let v := min (min l.v (reachSpeed (dir * st.2.1) (dir * st.2.2) (absR (m.target - st.1)) l))
      (lookSpeed s a dir ((s.ax a).prof.queue.take 16) m.target)
    if v ≤ 0 ∨ dir * st.2.1 < 0 then .exact else .vel v

def Joint.vEnd : Joint → Rat
  | .vel v => v
  | _ => 0

/-- A velocity change that comes to rest at a software limit, or ramps where the limit is already too near (R243): the
plan, SOFT_LIM and whether SOFT_LIMIT is raised. Log 192 (DEDUCED). -/
def planVelSoft (s : State) (a : AxisId) (st : Rat × Rat × Rat) (v : Rat) (l : Limits) : Plan × Bool × Bool :=
  let (p0, v0, a0) := st
  match softLims s a with
  | none => (planVel p0 v0 a0 v l, false, false)
  | some (lo, hi) =>
    if v = 0 then (planVel p0 v0 a0 v l, false, false)
    else
      let lim : Rat := if 0 < v then hi else lo
      let sg := sgnR v
      let stop := trans v0 a0 0 l.a l.d l.j 5
      let (ps, _, _) := chainEnd stop p0 v0 a0
      if 0 < sg * (ps - lim) then
        (planStop p0 v0 a0 (s.pa pAxProfStopDecel a) (s.pa pAxProfJMax a), true, true)
      else if v0 * v < 0 then
        let g := stop ++ (forward 0 0 sg (sg * (lim - ps)) 0 { l with v := absR v }).1
        ({ p0 := p0, v0 := v0, a0 := a0, segs := g, pEnd := lim, vPeak := v }, true, false)
      else (planMove p0 v0 a0 lim 0 { l with v := absR v } s.tp false, true, false)

/-- The TAG that ended has its MOVE_DONE posted (R217). -/
def postDone (unit : Nat) (l : List (Nat × Int)) (s : State) : State :=
  l.foldl (fun s e => s.postEvent 0x8002 e.1 unit (toLE 4 0 ++ toLE 8 e.2)) s

/-- MOVE_DONE of an axis. In Velocity mode no p_set is formed (R224), so the final p_set of the event is free (log 28). -/
def axDone (a : AxisId) (l : List (Nat × Int)) (s : State) : State :=
  if (s.ax a).mode = 1 then
    l.foldl (fun s e =>
      ({ s with free := s.free + 8 } : State).postEvent 0x8002 e.1 a.val
        (toLE 4 0 ++ (List.range 8).map (fun i => Config.freeByte (s.free + i)))) s
  else postDone a.val l s

/-- A move that was taken ends before its target (R217). -/
def dropOwed (a : AxisId) (reason : Nat) (s : State) : State :=
  (postDrops a.val reason (s.ax a).prof.owedTags s).modProf a (fun p => { p with owed := [], ovl := none })

/-- The engine begins an entry from a state, `t0` after its origin (R217, R222, R224, R225). -/
def axBegin (a : AxisId) (e : MoveReq × Nat) (st : Rat × Rat × Rat) (t0 : Rat) (late : Bool) (s : State) : State :=
  let (m, tag) := e
  let l := moveLimits s a m
  let j := if m.kind = 0 then axJoint s a m st else .exact
  let v := clampR (-l.v) l.v m.target
  let (k, plan, soft, raise) : Motion × Plan × Bool × Bool :=
    if m.kind = 7 then (.dwell, planDwell (s.ax a).prof.sp.p m.target s.posNs, false, false)
    else if m.kind = 2 then
      let (p, so, ra) := planVelSoft s a st v l
      (if ra then .ramp else .vel, p, so, ra)
    else (.move, planMove st.1 st.2.1 st.2.2 m.target j.vEnd l s.tp true, false, false)
  let s1 := s.modProf a (fun p => { p with
    kind := k, plan := { plan with t := t0 }, act := some e, lim := l.toList, goal := m.target, joint := j,
    owed := [tag], vt := if k = .vel then ratHalfUp v else 0, waiting := false, seen := false, released := false,
    late := late, softLim := soft, replan := false })
  let s2 := if raise then s1.raise fSoftLimit a.val else s1
  let s3 := if late then s2.raise fLateStart a.val else s2
  s3.postEvent 0x8001 tag a.val (toLE 1 (s3.ax a).prof.queue.length)

/-- A DWELL or the end of a VEL entry first brings the set-point to rest under D and J (R231, R234). -/
def axRamp (s : State) (a : AxisId) (l : Limits) (p : Prof) : Prof :=
  let (p0, v0, a0) := startOf (s.ax a)
  { p with kind := .ramp, plan := planStop p0 v0 a0 l.d l.j, vt := 0, joint := .exact }

/-- The engine takes an entry at the head, or a REPLACE, in this position cycle (R216, R217, R234). A DWELL that is taken in motion first
brings the set-point to rest under D and J. An entry whose converted target lies outside the software limits is dropped. -/
def axTake (a : AxisId) (e : MoveReq × Nat) (late : Bool) (s : State) : State × Bool :=
  let x := s.ax a
  let st := startOf x
  let m := e.1
  if m.kind = 7 ∧ (x.prof.sp.v ≠ 0 ∨ x.prof.sp.a ≠ 0) then
    let s1 := axDone a (x.prof.owed.map (fun t => (t, x.prof.sp.p))) s
    let l := moveLimits s a m
    let s2 := s1.modProf a (fun p => { axRamp s a l p with
      act := some e, lim := l.toList, owed := [e.2], waiting := false, seen := false, released := false, late := late
      softLim := false, replan := false })
    ((if late then s2.raise fLateStart a.val else s2).postEvent 0x8001 e.2 a.val (toLE 1 x.prof.queue.length), true)
  else
    let e1 : MoveReq × Nat := if m.kind = 1 then ({ m with kind := 0, target := satS 64 (x.prof.sp.p + m.target) }, e.2) else e
    let bad := match softLims s a with
      | some (lo, hi) => decide (m.kind = 1 ∧ (e1.1.target < lo ∨ hi < e1.1.target))
      | none => false
    if bad then ((postDrops a.val 5 [e.2] s).modProf a (fun p => { p with seen := false, waiting := false }), false)
    else
      let s1 := axDone a (x.prof.owed.map (fun t => (t, x.prof.sp.p))) (s.modProf a (fun p => { p with owed := [] }))
      (axBegin a e1 st 0 late s1, true)

/-- FT in ns of position cycle k = 0 of a fabric cycle number of 32 bits (R218, R394). -/
def State.startNs (s : State) (n : Nat) : Int := extendN s.fabN n * s.cycleNs + s.pn pCycPhaseNs 0

/-- Nothing stands in the way of the head entry (R217, R224). Log 189 (DEDUCED). -/
def Prof.free (p : Prof) : Bool :=
  match p.kind with
  | .idle | .vel | .preset => true
  | .stop | .qstop | .home => false
  | _ => p.plan.ended

/-- The ramp to rest of a DWELL that has been taken (R234). -/
def Prof.rampsToDwell (p : Prof) : Bool :=
  decide (p.kind = .ramp) && (match p.act with | some e => decide (e.1.kind = 7) | none => false)

/-- The DWELL begins in the position cycle in which the set-point is at rest (R234). -/
def axDwell (a : AxisId) (s : State) : State :=
  let p := (s.ax a).prof
  match p.act with
  | some e => if p.rampsToDwell ∧ p.plan.ended then s.modProf a (fun p => { p with kind := .dwell, plan := planDwell p.sp.p e.1.target s.posNs }) else s
  | none => s

/-- Modes in which an axis queue takes an entry kind (R214). -/
def axKindOk (mode kind : Nat) : Bool :=
  if mode = 2 ∨ mode = 5 then decide (kind ≤ 2 ∨ kind = 7) else if mode = 1 then decide (kind = 2 ∨ kind = 7) else false

/-- Take entries from the queue until one runs or waits; the fuel is the queue's length. An entry that was queued
in another mode waits until the mode accepts its kind (R214, R217, R218). Log 242 (DEDUCED). -/
def axQueue (a : AxisId) : Nat → State → State
  | 0, s => s
  | n + 1, s =>
    let p := (s.ax a).prof
    match p.queue with
    | [] => s
    | e :: r =>
      if ¬ axKindOk (s.ax a).mode e.1.kind then s
      else
      let due := s.startNs e.1.startN
      let late := e.1.startAt && !p.seen && decide (due < s.cyc.start)
      if e.1.startAt ∧ ¬ p.released ∧ s.cyc.start < due then
        s.modProf a (fun p => { p with waiting := true, seen := true })
      else
        let (s1, ok) := axTake a e late (s.modProf a (fun p => { p with queue := r }))
        if ok then s1 else axQueue a n s1

/-- A jog begins (R242, R234): a distance counts from the target of the distance jog that it replaces. -/
def axJog (a : AxisId) (j : JogReq) (s : State) : State :=
  let x := s.ax a
  let p := x.prof
  let l := axLimits s a j.vFrac j.aFrac j.dFrac j.jFrac
  let st := startOf x
  if j.kind = 0 then
    let v := clampR (-l.v) l.v j.value
    let (plan, soft, ra) := planVelSoft s a st v l
    let s1 := s.modProf a (fun p => { p with
      kind := .jogv, plan := plan, lim := l.toList, vt := ratHalfUp v, jog := none,
      act := none, joint := .exact, owed := [], softLim := soft })
    if ra then s1.raise fSoftLimit a.val else s1
  else
    let org := if p.kind = .jog ∧ ¬ p.plan.ended then p.goal else p.sp.p
    let goal := satS 64 (org + j.value)
    s.modProf a (fun p => { p with
      kind := .jog, plan := planMove st.1 st.2.1 st.2.2 goal 0 l s.tp true, lim := l.toList,
      goal := goal, vt := 0, jog := none, act := none, joint := .exact, owed := [], softLim := false })

/-- A ramp stop or quick stop begins from the present state (R235, R236), supervised from here (R237). -/
def axStopBegin (a : AxisId) (s : State) : State :=
  let x := s.ax a
  let p := x.prof
  let (p0, v0, a0) := startOf x
  let quick := decide (p.stopReq = 2)
  let plan := if quick then planQuick p0 v0 (s.pa pAxProfQuickDecel a)
    else planStop p0 v0 a0 (s.pa pAxProfStopDecel a) (s.pa pAxProfJMax a)
  let dead := s.time.lt + (ceilR (plan.total * 10 ^ 9)).toNat + s.pn pAxProfStopTimeoutMs a.val * 1000000
  (dropOwed a p.stopWhy s).modProf a (fun p => { p with
    kind := if quick then .qstop else .stop, plan := plan, act := none, joint := .exact, stopReq := 0, stopWhy := 0,
    stopDeadline := some dead, stillRun := 0, vt := 0, pre := none })

/-- The plan that follows a preset (R177, R183). -/
def axPresetBegin (a : AxisId) (mode : Nat) (s : State) : State :=
  let x := s.ax a
  let l := axLimits s a 0 0 0 0
  let (p0, v0, a0) := startOf x
  let v := if mode = 1 then v0 else 0
  s.modProf a (fun p => { p with
    kind := if mode = 1 then .vel else .preset, plan := planVel p0 v0 a0 v l, act := none, lim := l.toList, owed := [],
    vt := if mode = 1 then p.sp.v else 0, joint := .exact, pre := none })

/-- The active move is planned anew from the present state: for an entry queued before phase 5 (R230), and by a flush where its joint was
no exact stop (R241). -/
def axReplan (a : AxisId) (s : State) : State :=
  let x := s.ax a
  let p := x.prof
  match p.act with
  | some (m, _) =>
    let st := startOf x
    let (_, _, _, ph, _) := p.plan.at_ p.plan.t
    let j := if p.flush then .exact else axJoint s a m st
    if p.kind = .move ∧ (if p.flush then j ≠ p.joint else ph < 5) ∧ ¬ p.plan.ended then
      s.modProf a (fun p => { p with joint := j, plan := planMove st.1 st.2.1 st.2.2 p.goal j.vEnd (limitsOf p.lim) s.tp true })
    else s
  | none => s

/-- The next homing phase begins once the stop of the present one is at rest (R253, R254). -/
def homeSpeed (s : State) (a : AxisId) (phase : Nat) (dir : Int) : Rat :=
  let sg : Int := if s.pa pAxHomeDir a = 1 then -1 else 1
  if phase = 1 then dir * s.pa pAxHomeVSearch a
  else if phase = 2 then -sg * s.pa pAxHomeVCreep a
  else sg * s.pa pAxHomeVCreep a

/-- Motion of a homing phase: a VEL profile (R253). -/
def homeBegin (a : AxisId) (phase : Nat) (s : State) : State :=
  let x := s.ax a
  let l := axLimits s a 0 0 0 0
  let (p0, v0, a0) := startOf x
  let v := clampR (-l.v) l.v (homeSpeed s a phase x.home.dir)
  s.modAxis a (fun x => { x with
    home := { x.home with phase := phase, next := none, pressSince := none, since := s.ft, met := x.home.met && phase == x.home.phase }
    fb := { x.fb with indexArmed := x.fb.indexArmed || (decide (phase = 4) && decide (s.pa pAxFbIndexMode a = 2)) }
    prof := if phase = 6 then { x.prof with kind := .stop, vt := 0 }
      else { x.prof with kind := .home, plan := planVel p0 v0 a0 v l, act := none, lim := l.toList, vt := ratHalfUp v } })

/-- A homing phase ends in a ramp stop (R253). -/
def homeStop (a : AxisId) (next : Nat) (s : State) : State :=
  let x := s.ax a
  let (p0, v0, a0) := startOf x
  s.modAxis a (fun x => { x with
    home := { x.home with next := some next }
    prof := { x.prof with kind := .home, plan := planStop p0 v0 a0 (s.pa pAxProfStopDecel a) (s.pa pAxProfJMax a), vt := 0 } })

/-- Decisions of a position cycle before the set-points are formed, the higher row of R238 first. After a missed switch cycle the
set-points of the old mode continue from the preset that stands until the new one is formed. Log 238 (DEDUCED). -/
def axDecide (a : AxisId) (s : State) : State :=
  let s0 := match (s.ax a).prof.pre with
    | some m => axPresetBegin a m s
    | none => s
  let x := s0.ax a
  let p := x.prof
  let s1 :=
    if p.stopReq ≠ 0 ∧ ¬ (x.mode = 0 ∧ x.pendSw.isSome) then axStopBegin a s0
    else match (if x.home.phase = 0 then p.repl else none), p.jog with
      | some e, _ => (axTake a e false ((dropOwed a 2 s0).modProf a (fun p => { p with repl := none }))).1
      | none, some j => axJog a j s0
      | none, none =>
        if p.flush ∧ p.kind = .vel then s0.modProf a (axRamp s0 a (limitsOf p.lim))
        else if p.flush ∨ p.replan then axReplan a s0
        else match x.home.next with
          | some n => if p.kind = .home ∧ p.plan.ended then homeBegin a n s0 else s0
          | none => s0
  let s2 := axDwell a (s1.modProf a (fun p => { p with flush := false, replan := false }))
  let q := (s2.ax a).prof
  if q.free ∧ q.repl.isNone ∧ x.home.phase = 0 then
    axQueue a q.queue.length (s2.modProf a (fun p => { p with waiting := false }))
  else s2

/-- A velocity joint reached before the coming position cycle: the next move starts at the end instant (R222, R232). -/
def axJoints (a : AxisId) : Nat → State → State
  | 0, s => s
  | n + 1, s =>
    let p := (s.ax a).prof
    let t1 := p.plan.t + s.tp
    match p.joint, p.queue with
    | .vel _, e :: r =>
      if p.kind = .move ∧ p.plan.total ≤ t1 then
        let st := (p.plan.pEnd, p.plan.vEnd, (0 : Rat))
        let s1 := axDone a (p.owed.map (fun t => (t, ratHalfUp p.plan.pEnd))) (s.modProf a (fun p => { p with owed := [], queue := r }))
        axJoints a n (axBegin a e st (t1 - p.plan.total - s.tp) false s1)
      else s
    | _, _ => s

/-- The set-point of the coming position cycle goes to its buffer (R40). -/
def putPoint (s : State) (x : Axis) (sp : SetPoint) : Axis :=
  if (s.cyc.posNo + 1) % 2 = 0 then { x with spEven := { sp with ready := true } } else { x with spOdd := { sp with ready := true } }

/-- Standstill is counted while a stop's set-point rests (R237). -/
def countStill (s : State) (a : AxisId) (x : Axis) : Axis :=
  let p := x.prof
  let grp := match s.groupOf a with | some g => (s.grps.get g).prof.kind | none => .idle
  let rest := decide ((p.kind = .stop ∨ p.kind = .qstop ∨ grp = .stop ∨ grp = .qstop) ∧ p.sp.v = 0 ∧ p.sp.a = 0 ∧ absI x.vel.vHat ≤ s.pa pAxProfStillV a)
  { x with prof := { p with stillRun := if rest then min (p.stillRun + 1) 8 else 0 } }

/-- The set-point of the coming position cycle from the plan in force (R223, R224). -/
def axForm (a : AxisId) (s : State) : State :=
  s.modAxis a (fun x =>
    let p := x.prof
    let t1 := p.plan.t + s.tp
    let (q, v, ac, _, _) := p.plan.at_ t1
    let sp1 := if p.kind = .idle then { p.sp with v := 0, a := 0 } else setPointOf q v ac
    let sp := if x.mode = 1 then { sp1 with p := p.sp.p } else sp1
    let plan := { p.plan with t := t1 }
    let done_ := decide (p.kind ≠ .idle) && plan.ended && decide (p.joint.vEnd = 0) && !(decide (p.kind = .vel)) && !p.rampsToDwell
    countStill s a (putPoint s { x with prof := { p with
      plan := plan, sp := sp, owed := if done_ then [] else p.owed,
      doneNext := if done_ then p.owed.map (fun t => (t, sp.p)) else [] } } sp))

/-- The preset of R177 for the coming cycle, which is the switch cycle; to and from Stepper open-loop the position is p_fb (R181). -/
def presetPoint (s : State) (a : AxisId) (mode : Nat) : SetPoint :=
  let x := s.ax a
  let p := satS 64 (x.fb.pFb + divHalfUp (x.vel.vHat * s.posNs) (10 ^ 9))
  if mode = 5 then ⟨x.fb.pFb, 0, 0, true⟩
  else ⟨if x.mode = 5 then x.fb.pFb else p, if mode = 3 then 0 else x.vel.vHat, 0, true⟩

/-- Modes into which a switch presets the set-points (R177, R181). -/
def presets (mode : Nat) : Bool := decide (mode = 1 ∨ mode = 2 ∨ mode = 3 ∨ mode = 4 ∨ mode = 5)

/-- Target mode whose switch or enable takes place in the coming position cycle or has come due (R177, R183). -/
def presetDue (s : State) (a : AxisId) : Option Nat :=
  let x := s.ax a
  match x.pendSw with
  | some w => if w.at_ ≤ s.cyc.posNo + 1 ∧ w.preset ∧ ¬ w.made ∧ presets w.target then some w.target else none
  | none =>
    if s.cyc.pendEnable.any (fun p => bitOf p.mask a.val && decide (p.at_ ≤ s.cyc.posNo + 1) && !p.effective) ∧ ¬ x.enabled ∧
        presets x.mode then some x.mode
    else none

/-- A mode switch ends the move that runs: its MOVE_DROPPED carries a reason that R430 does not list, a free value (R217).
Log 243 (DESIGN CHOICE). -/
def dropSwitched (a : AxisId) (s : State) : State :=
  let tags := (s.ax a).prof.owedTags
  (tags.foldl (fun s tag => ({ s with free := s.free + 1 } : State).postEvent 0x8003 tag a.val [Config.freeByte s.free]) s).modProf a
    (fun p => { p with owed := [], ovl := none, act := none, kind := .idle, plan := {}, vt := 0, joint := .exact })

/-- Form the preset: the engine's state is that of the preset from here on. -/
def axPreset (a : AxisId) (mode : Nat) (s : State) : State :=
  let sp := presetPoint s a mode
  (dropSwitched a s).modAxis a (fun x => putPoint s { x with prof := { x.prof with sp := sp, pre := some mode } } sp)

/-- The set-points of a geared axis (R287-R290). -/
def axGear (a : AxisId) (tNext : Int) (s : State) : State :=
  let (sp, g1) := gearPoint s (s.ax a).gear tNext
  s.modAxis a (fun x => putPoint s { x with gear := g1, prof := { x.prof with sp := sp, kind := .idle, plan := {} } } sp)

/-- The profile engine of an axis in a position cycle whose successor starts at `tNext` (R42). -/
def axisEngine (tNext : Int) (a : AxisId) (s : State) : State :=
  let x := s.ax a
  let grp := match s.groupOf a with | some g => (s.grps.get g).moving | none => false
  let s0 := (axDone a x.prof.doneNext s).modProf a (fun p => { p with doneNext := [] })
  if grp then s0
  else match presetDue s0 a with
    | some m => axPreset a m s0
    | none =>
      if x.mode = 3 ∧ x.gear.st ≠ 0 ∧ x.prof.stopReq = 0 then axGear a tNext s0
      else axForm a (axJoints a 64 (axDecide a s0))

/-- STATE of `ax.prof.status` (R244). -/
def Prof.stateCode (p : Prof) : Nat :=
  if p.stopReq = 2 then 4 else if p.stopReq = 1 then 3
  else if p.waiting then 8
  else match p.kind with
    | .idle => 0
    | .stop => if p.plan.ended ∧ p.ovl.isNone then 5 else 3
    | .qstop => if p.plan.ended ∧ p.ovl.isNone then 5 else 4
    | .dwell => if p.plan.ended then 0 else 2
    | .jog => if p.plan.ended then 0 else 7
    | .jogv => if p.vt = 0 ∧ p.sp.v = 0 ∧ p.sp.a = 0 then 0 else 7
    | .preset => if p.sp.v = 0 ∧ p.sp.a = 0 then 0 else 1
    | .home => 1
    | .vel => 1
    | .move | .ramp => if p.plan.ended then 0 else 1

/-- The status word of a profile (R244). -/
def Prof.statusWord (p : Prof) (member : Bool) : Nat :=
  let st := if member then 6 else p.stateCode
  let active := decide (st ≠ 0) && !p.plan.ended
  let blending := p.ovl.isSome || (match p.joint with | .vel _ => active && decide (p.kind = .move) | _ => false)
  packBits [(4, st), (7, p.queue.length), (1, b2n blending), (1, b2n (p.late && active)), (1, b2n p.softLim), (2, 0),
    (16, if active then (match p.act with | some e => e.2 | none => 0) else 0)]

/-- `ax.prof.status` (R244). -/
def axProfStatus (s : State) (a : AxisId) : Nat :=
  let grp := match s.groupOf a with | some g => (s.grps.get g).moving | none => false
  (s.ax a).prof.statusWord grp

end Sys2Proof.Machine
end

