-- ==== Sys2Proof/Machine/Groups.lean ====
section
/-! DEFINITION. The profile engine of a coordinated group: path segments, joints, corner overlaps, stops, and the set-points of
its members (R226-R241). A group's plan is that of its path length. -/

namespace Sys2Proof.Machine

/-- Members of a group in member order, with their weights (R226). -/
def State.grpSlots (s : State) (g : Fin 8) : List (AxisId × Rat) :=
  (List.zip (s.par pGrpMember g.val) (s.par pGrpWeight g.val)).filterMap
    (fun e => (axisOf? e.1.toNat).map (fun a => (a, (e.2 : Rat) / 2 ^ 16)))

/-- Limits in force on a path: those of the group by the entry's fractions, lowered so that no member exceeds its own, and
V by the curvature (R219, R226, R227). -/
def grpLimits (s : State) (g : Fin 8) (m : MoveReq) (p : Path) : Limits :=
  let base : Limits := ⟨fracR (s.p1 pGrpVMax g.val) m.vFrac, fracR (s.p1 pGrpAMax g.val) m.aFrac,
    fracR (s.p1 pGrpDMax g.val) m.dFrac, fracR (s.p1 pGrpJMax g.val) m.jFrac⟩
  let slots := s.grpSlots g
  let l := (List.range slots.length).foldl (fun (l : Limits) k =>
    match slots[k]? with
    | none => l
    | some (a, w) =>
      let sl := if w = 0 then 0 else p.slopeMax k / w
      if sl = 0 then l
      else ⟨min l.v (s.pa pAxProfVMax a / sl), min l.a (s.pa pAxProfAMax a / sl), min l.d (s.pa pAxProfDMax a / sl),
            min l.j (s.pa pAxProfJMax a / sl)⟩) base
  { l with v := p.vLimit l.v l.a }

/-- Path of one LINE or ARC entry from a start point. -/
def entryPath (src : List Rat) (m : MoveReq) : Path :=
  let dst := m.points.map (fun (x : Int) => (x : Rat))
  if m.kind = 3 then linePath src dst else arcPath m.kind src dst m.centre0 m.centre1 m.turns

/-- Position, velocity and acceleration of every member in path coordinates, from the motion along the path (R227). At the
end of a segment the position is exactly its end point (R223). -/
def pathState (p : Path) (s v a : Rat) : List (Rat × Rat × Rat) :=
  let l := (p.at_ s).map (fun e => (e.1, e.2.1 * v, e.2.2 * v ^ 2 + e.2.1 * a))
  if s = p.len then List.zipWith (fun x (e : Rat × Rat × Rat) => (x, e.2.1, e.2.2)) p.dst l else l

/-- A plan on its path at a time. -/
def planPoint (pl : Plan) (p : Path) (t : Rat) : List (Rat × Rat × Rat) :=
  let (s, v, a, _, _) := pl.at_ t
  pathState p s v a

/-- Sum of two moves less their joint (R233). -/
def blendPoints (pin pout : List (Rat × Rat × Rat)) (joint : List Rat) : List (Rat × Rat × Rat) :=
  List.zipWith (fun (e : Rat × Rat × Rat) x => (e.1 - x, e.2.1, e.2.2))
    (List.zipWith (fun (x y : Rat × Rat × Rat) => (x.1 + y.1, x.2.1 + y.2.1, x.2.2 + y.2.2)) pin pout) joint

/-- Members' states of a group at a shift in time from the last set-point formed. -/
def Prof.grpPoints (p : Prof) (dt : Rat) : List (Rat × Rat × Rat) :=
  let out := planPoint p.plan p.path (p.plan.t + dt)
  match p.ovl with
  | some o => blendPoints (planPoint o.plan o.path (o.plan.t + dt)) out p.path.src
  | none => out

/-- State of the members from which a segment starts: on the running path, or the members' own set-points. -/
def grpStart (s : State) (g : Fin 8) : List (Rat × Rat × Rat) :=
  let x := s.grps.get g
  if x.moving ∨ (x.prof.kind = .move ∧ x.prof.path.dst ≠ []) then x.prof.grpPoints 0
  else (s.grpSlots g).map (fun e =>
    let sp := (s.ax e.1).prof.sp
    (sp.p * e.2, sp.v * e.2, sp.a * e.2))

/-- Unit tangents at the start and at the end of a path. -/
def Path.tangent (p : Path) (atEnd : Bool) : List Rat :=
  if p.len = 0 then p.dst.map (fun _ => 0)
  else
    let d := (p.at_ (if atEnd then p.len else 0)).map (·.2.1)
    let n := normR d
    if p.kind = 6 ∧ n ≠ 0 then d.map (fun x => x / n) else d

/-- Largest speed at a joint for the members' acceleration limits (R232). -/
def tangentSpeed (s : State) (g : Fin 8) (uIn uOut : List Rat) (v : Rat) : Rat :=
  let du := subR uIn uOut
  let slots := s.grpSlots g
  (List.range slots.length).foldl (fun (v : Rat) k =>
    match slots[k]? with
    | none => v
    | some (a, w) =>
      let d := absR (du.getD k 0)
      if d = 0 then v else min v (s.pa pAxProfAMax a * s.tp * w / d)) v

/-- A LINE or ARC without START_AT: a joint before it can be blended (R231, log 24). -/
def blendable (m : MoveReq) : Bool := decide (3 ≤ m.kind ∧ m.kind ≤ 5) && !m.startAt

/-- Largest speed at a joint from which the looked-ahead segments can come to rest (R230, R232). -/
def grpLook (s : State) (g : Fin 8) (uIn : List Rat) : List (MoveReq × Nat) → List Rat → Rat
  | [], _ => 0
  | (m, _) :: r, src =>
    if blendable m then
      let p := entryPath src m
      let l := grpLimits s g m p
      let next := if blendOf (s.p1 pGrpBlendMode g.val) m = 1 then grpLook s g (p.tangent true) r p.dst else 0
      tangentSpeed s g uIn (p.tangent false) (min l.v (brakeSpeed p.len next l))
    else 0

/-- Distance of a point from a segment; on an arc the point's own angle, its further turns and both ends are tried (log 29). -/
def pathDist (p : Path) (q : List Rat) : Rat :=
  let far := fun (s : Rat) => normR (subR q ((p.at_ s).map (·.1)))
  if p.len = 0 then normR (subR q p.dst)
  else if p.kind = 3 then
    let d := subR p.dst p.src
    let u := clampR 0 1 (dotR (subR q p.src) d / dotR d d)
    far (u * p.len)
  else
    let ax := p.src.getD 0 0 - p.centre.1
    let ay := p.src.getD 1 0 - p.centre.2
    let bx := q.getD 0 0 - p.centre.1
    let by_ := q.getD 1 0 - p.centre.2
    let ccw := turnsOf (ax * by_ - ay * bx) (ax * bx + ay * by_)
    let w := absR p.sweep
    let f := if 0 ≤ p.sweep then ccw else if ccw = 0 then 0 else 1 - ccw
    let tries := (List.range (w.floor.toNat + 1)).filterMap (fun (k : Nat) =>
      if f + k ≤ w ∧ w ≠ 0 then some ((f + k) / w * p.len) else none)
    tries.foldl (fun (acc : Rat) s => min acc (far s)) (min (far 0) (far p.len))

/-- One overlap of N cycles meets the conditions of R233 at every set-point; `tb` is the time of b in the incoming plan. -/
def cornerOk (s : State) (g : Fin 8) (tol : Rat) (pin : Plan) (pathIn : Path) (tb : Rat) (pout : Plan) (pathOut : Path)
    (n : Nat) : Bool :=
  let tp := s.tp
  let slots := s.grpSlots g
  let pt := fun (k : Nat) =>
    blendPoints (planPoint pin pathIn (tb - ((n : Rat) - k) * tp)) (planPoint pout pathOut (k * tp)) pathOut.src
  let aOk := fun (l : List (Rat × Rat × Rat)) => (List.zip slots l).all (fun e =>
    decide (absR e.2.2.2 ≤ s.pa pAxProfAMax e.1.1 * e.1.2))
  let jOk := fun (l m : List (Rat × Rat × Rat)) => (List.zip slots (List.zip l m)).all (fun e =>
    decide (absR (e.2.2.2.2 - e.2.1.2.2) ≤ 2 * s.pa pAxProfJMax e.1.1 * e.1.2 * tp))
  (List.range (n + 1)).all (fun k =>
    let l := pt k
    let q := l.map (·.1)
    decide (min (pathDist pathIn q) (pathDist pathOut q) ≤ tol) && aOk l && (k = 0 || jOk (pt (k - 1)) l))

/-- Largest N in [lo, hi) that passes, lo passing and hi not, by bisection over whole cycles (R233). -/
def cornerBisect (ok : Nat → Bool) : Nat → Nat → Nat → Nat
  | 0, lo, _ => lo
  | f + 1, lo, hi =>
    if hi ≤ lo + 1 then lo
    else
      let mid := (lo + hi) / 2
      if ok mid then cornerBisect ok f mid hi else cornerBisect ok f lo mid

/-- Whole position cycles of some phases of a plan. -/
def phaseCycles (pl : Plan) (tp : Rat) (lo hi : Nat) : Nat :=
  ((pl.segs.filter (fun x => decide (lo ≤ x.ph ∧ x.ph ≤ hi))).foldl (fun (acc : Rat) x => acc + x.dur) 0 / tp).floor.toNat

/-- Whole cycles from a plan's present time to the first boundary at or after its end. -/
def Plan.cyclesLeft (p : Plan) (tp : Rat) : Nat := if tp = 0 then 0 else (ceilR ((p.total - p.t) / tp)).toNat

/-- Plan of a segment from a state on its path, and the speed of a velocity joint at its end, 0 for none (R230-R232). -/
def segPlan (s : State) (g : Fin 8) (m : MoveReq) (path : Path) (l : Limits) (q0 v0 a0 : Rat) (queue : List (MoveReq × Nat)) :
    Plan × Rat :=
  let rest := planMove q0 v0 a0 path.len 0 l s.tp true
  match queue with
  | (e, _) :: _ =>
    if m.kind = 6 ∨ blendOf (s.p1 pGrpBlendMode g.val) m ≠ 1 ∨ !blendable e then (rest, 0)
    else
      let v := min (min l.v (reachSpeed v0 a0 (path.len - q0) l)) (grpLook s g (path.tangent true) (queue.take 16) path.dst)
      if v ≤ 0 ∨ v0 < 0 then (rest, 0) else (planMove q0 v0 a0 path.len v l s.tp true, v)
  | [] => (rest, 0)

/-- N of a corner blend between a planned incoming move and the next entry, planned as it will be with the entries behind it (R233). -/
def cornerN (s : State) (g : Fin 8) (m : MoveReq) (pin : Plan) (pathIn : Path) (next : MoveReq) (behind : List (MoveReq × Nat)) : Nat :=
  let tp := s.tp
  let pathOut := entryPath pathIn.dst next
  let pout := (segPlan s g next pathOut (grpLimits s g next pathOut) 0 0 0 behind).1
  let tol : Rat := if m.tol = 0 then s.pn pGrpBlendTol g.val else m.tol
  let tb := pin.t + pin.cyclesLeft tp * tp
  let top := min (phaseCycles pin tp 5 7) (phaseCycles pout tp 1 3)
  let ok := cornerOk s g tol pin pathIn tb pout pathOut
  if ok top then top else cornerBisect ok 64 0 top

/-- Plan and joint of a segment from a state along its path (R230-R233). -/
def grpPlan (s : State) (g : Fin 8) (m : MoveReq) (path : Path) (l : Limits) (q0 v0 a0 t0 : Rat)
    (queue : List (MoveReq × Nat)) : Plan × Joint :=
  let (p0, v) := segPlan s g m path l q0 v0 a0 queue
  let plan := { p0 with t := t0 }
  if 0 < v then (plan, .vel v)
  else match queue with
    | (e, _) :: r =>
      if m.kind = 6 ∨ blendOf (s.p1 pGrpBlendMode g.val) m ≠ 2 ∨ !blendable e then (plan, .exact)
      else
        let n := cornerN s g m plan path e r
        (plan, if n = 0 then .exact else .corner n)
    | [] => (plan, .exact)

/-- A group segment begins from a state of its members, `t0` after its origin; the tags of a spline run start together
(R217, R222, R228). -/
def grpBegin (g : Fin 8) (es : List (MoveReq × Nat)) (st : List (Rat × Rat × Rat)) (t0 : Rat) (late : Bool) (s : State) : State :=
  match es with
  | [] => s
  | e :: _ =>
    let m := e.1
    let src := st.map (·.1)
    let path := if m.kind = 7 then { kind := 3, src := src, dst := src }
      else if m.kind = 6 then splinePath src (es.map (fun x => x.1.points.map (fun (y : Int) => (y : Rat))))
      else entryPath src m
    let u := path.tangent false
    let v0 := dotR (st.map (·.2.1)) u
    let a0 := dotR (st.map (·.2.2)) u
    let l := grpLimits s g m path
    let (plan, j) : Plan × Joint :=
      if m.kind = 7 then (planDwell 0 m.target s.posNs, .exact) else grpPlan s g m path l 0 v0 a0 t0 (s.grps.get g).prof.queue
    let s1 := s.modGrp g (fun x => { x with prof := { x.prof with
      kind := if m.kind = 7 then .dwell else .move, plan := plan, path := path, act := some e, lim := l.toList, joint := j,
      owed := es.map (·.2), waiting := false, seen := false, released := false, late := late, replan := false } })
    let s2 := if late then s1.raise fLateStart (0x80 + g.val) else s1
    es.foldl (fun s e => s.postEvent 0x8001 e.2 (0x80 + g.val) (toLE 1 (s.grps.get g).prof.queue.length)) s2

/-- MOVE_DONE of a group: the final p_set of a group is not given, so its eight bytes are free (log 5). -/
def grpDone (g : Fin 8) (tags : List Nat) (s : State) : State :=
  tags.foldl (fun s tag =>
    let n := s.free
    ({ s with free := n + 8 }).postEvent 0x8002 tag (0x80 + g.val)
      (toLE 4 0 ++ (List.range 8).map (fun i => Config.freeByte (n + i)))) s

/-- Taken moves of a group that end before their targets (R217). -/
def dropGrpOwed (g : Fin 8) (reason : Nat) (s : State) : State :=
  (postDrops (0x80 + g.val) reason (s.grps.get g).prof.owedTags s).modGrp g
    (fun x => { x with prof := { x.prof with owed := [], ovl := none } })

/-- The stop of a group ramps the path length; an overlap that runs keeps its blended geometry (R239). Log 195 (DEDUCED). -/
def grpStopBegin (g : Fin 8) (s : State) : State :=
  let p := (s.grps.get g).prof
  let quick := decide (p.stopReq = 2)
  let stop := fun (pl : Plan) =>
    let (q, v, a, _, _) := pl.at_ pl.t
    if quick then planQuick q v (s.p1 pGrpQuickDecel g.val)
    else planStop q v a (s.p1 pGrpStopDecel g.val) (p.lim.getD 3 (s.p1 pGrpJMax g.val))
  let plan := stop p.plan
  let ovl := p.ovl.map (fun o => { o with plan := stop o.plan, owed := [] })
  let span := match ovl with | some o => max plan.total o.plan.total | none => plan.total
  let ms := (s.members g).foldl (fun (m : Nat) a => max m (s.pn pAxProfStopTimeoutMs a.val)) 0
  let dead := s.time.lt + (ceilR (span * 10 ^ 9)).toNat + ms * 1000000
  (postDrops (0x80 + g.val) p.stopWhy p.owedTags s).modGrp g (fun x => { x with prof := { x.prof with
    kind := if quick then .qstop else .stop, plan := plan, ovl := ovl, act := none, joint := .exact, owed := [], stopReq := 0,
    stopWhy := 0, stopDeadline := some dead } })

/-- The run of SPLINE entries at the head of a queue up to its END, and the rest. -/
def splineRun : List (MoveReq × Nat) → Option (List (MoveReq × Nat) × List (MoveReq × Nat))
  | [] => none
  | e :: r =>
    if e.1.kind ≠ 6 then none
    else if e.1.endRun then some ([e], r)
    else match splineRun r with
      | some (run, rest) => some (e :: run, rest)
      | none => none

/-- A group takes the head of its queue, waits for START_N, or waits for the END of a spline run (R217, R218, R228). -/
def grpQueue (g : Fin 8) (s : State) : State :=
  let p := (s.grps.get g).prof
  match p.queue with
  | [] => s
  | e :: r =>
    let due := s.startNs e.1.startN
    let late := e.1.startAt && !p.seen && decide (due < s.cyc.start)
    let wait := fun (s : State) => s.modGrp g (fun x => { x with prof := { x.prof with waiting := true, seen := true } })
    if e.1.startAt ∧ ¬ p.released ∧ s.cyc.start < due then wait s
    else if e.1.kind = 6 then
      match splineRun p.queue with
      | some (run, rest) =>
        grpBegin g run (grpStart s g) 0 late (s.modGrp g (fun x => { x with prof := { x.prof with queue := rest } }))
      | none => s.modGrp g (fun x => { x with prof := { x.prof with waiting := true } })
    else grpBegin g [e] (grpStart s g) 0 late (s.modGrp g (fun x => { x with prof := { x.prof with queue := r } }))

/-- The path length ramps to rest under D and J; an overlap keeps its blended geometry (R234). -/
def grpRamp (g : Fin 8) (s : State) : State :=
  let p := (s.grps.get g).prof
  let stop := fun (pl : Plan) => let (q, v, a, _, _) := pl.at_ pl.t; planStop q v a (p.lim.getD 2 1) (p.lim.getD 3 1)
  s.modGrp g (fun x => { x with prof := { x.prof with
    kind := .ramp, plan := stop x.prof.plan, owed := [], joint := .exact, replan := false
    ovl := x.prof.ovl.map (fun o => { o with plan := stop o.plan, owed := [] }) } })

/-- REPLACE in a group: the running move or overlap ends, and the entry starts from the present state, its speed that along
the new path (R234, log 30). A DWELL first brings the path length to rest. A SPLINE entry does too and then waits in the queue for
the END of its run (R228). Log 244 (DEDUCED). -/
def grpReplace (g : Fin 8) (e : MoveReq × Nat) (s : State) : State :=
  let st := grpStart s g
  let moving := st.any (fun x => decide (x.2.1 ≠ 0 ∨ x.2.2 ≠ 0))
  let s1 := s.modGrp g (fun x => { x with prof := { x.prof with repl := none } })
  let drop := fun (s : State) => postDrops (0x80 + g.val) 2 (s.grps.get g).prof.owedTags s
  if e.1.kind = 7 ∧ moving then
    ((grpRamp g (drop s1)).modGrp g (fun x => { x with prof := { x.prof with
      act := some e, owed := [e.2], waiting := false, seen := false, released := false, late := false } })).postEvent 0x8001 e.2
        (0x80 + g.val) (toLE 1 (s1.grps.get g).prof.queue.length)
  else if e.1.kind = 6 then
    let s2 := s1.modGrp g (fun x => { x with prof := { x.prof with queue := e :: x.prof.queue } })
    if moving then grpRamp g (drop s2)
    else (dropGrpOwed g 2 s2).modGrp g (fun x => { x with prof := { x.prof with kind := .idle, plan := {}, act := none, joint := .exact } })
  else grpBegin g [e] st 0 false (dropGrpOwed g 2 s1)

/-- The DWELL of a REPLACE begins in the position cycle in which the set-points are at rest (R234). -/
def grpDwell (g : Fin 8) (s : State) : State :=
  let p := (s.grps.get g).prof
  match p.act with
  | some e =>
    if p.rampsToDwell ∧ p.plan.ended ∧ p.ovl.isNone then
      let src := (grpStart s g).map (·.1)
      s.modGrp g (fun x => { x with prof := { x.prof with
        kind := .dwell, plan := planDwell 0 e.1.target s.posNs, path := { kind := 3, src := src, dst := src } } })
    else s
  | none => s

/-- The running segment is planned anew from its present state: for an entry queued before its phase 5 (R230), and by a flush where
its joint was no exact stop (R241). -/
def grpReplan (g : Fin 8) (s : State) : State :=
  let p := (s.grps.get g).prof
  match p.act with
  | some (m, _) =>
    let (q, v, a, ph, _) := p.plan.at_ p.plan.t
    if p.kind ≠ .move ∨ p.plan.ended ∨ (if p.flush then p.joint = .exact else 5 ≤ ph) then s
    else
      let (plan, j) := grpPlan s g m p.path (limitsOf p.lim) q v a 0 (if p.flush then [] else p.queue)
      s.modGrp g (fun x => { x with prof := { x.prof with joint := j, plan := plan } })
  | none => s

/-- Decisions of a group in a position cycle (R230-R241). -/
def grpDecide (g : Fin 8) (s : State) : State :=
  let p := (s.grps.get g).prof
  let s1 :=
    if p.stopReq ≠ 0 then grpStopBegin g s
    else match p.repl with
      | some e => grpReplace g e s
      | none => if p.flush ∨ p.replan then grpReplan g s else s
  let s2 := grpDwell g (s1.modGrp g (fun x => { x with prof := { x.prof with flush := false, replan := false } }))
  let q := (s2.grps.get g).prof
  match q.joint, q.queue with
  | .corner n, e :: r =>
    if q.kind = .move ∧ q.ovl.isNone ∧ q.plan.cyclesLeft s.tp ≤ n then
      let st := q.path.dst.map (fun x => (x, (0 : Rat), (0 : Rat)))
      grpBegin g [e] st 0 false (s2.modGrp g (fun x => { x with prof := { x.prof with
        queue := r, ovl := some ⟨q.plan, q.path, q.plan.cyclesLeft s.tp, q.owed⟩ } }))
    else s2
  | _, _ =>
    if q.kind ≠ .stop ∧ q.kind ≠ .qstop ∧ q.ovl.isNone ∧ (q.kind = .idle ∨ q.plan.ended) ∧ q.joint.vEnd = 0 then
      grpQueue g (s2.modGrp g (fun x => { x with prof := { x.prof with waiting := false } }))
    else s2

/-- A velocity joint that lies before the coming position cycle (R232). -/
def grpJoints (g : Fin 8) : Nat → State → State
  | 0, s => s
  | n + 1, s =>
    let p := (s.grps.get g).prof
    let t1 := p.plan.t + s.tp
    match p.joint, p.queue with
    | .vel v, e :: r =>
      if p.kind = .move ∧ p.plan.total ≤ t1 then
        -- the outgoing segment starts with the whole joint speed along its own tangent
        let st := List.zipWith (fun x u => (x, v * u, (0 : Rat))) p.path.dst ((entryPath p.path.dst e.1).tangent false)
        let s1 := (grpDone g p.owed s).modGrp g (fun x => { x with prof := { x.prof with owed := [], queue := r } })
        grpJoints g n (grpBegin g [e] st (t1 - p.plan.total - s.tp) false s1)
      else s
    | _, _ => s

/-- Set-points of the members for the coming position cycle (R227, R233). An overlap lasts until its incoming move has reached the joint,
or, where a stop ended it short of the joint, until both moves are at rest (R239). -/
def grpForm (g : Fin 8) (s : State) : State :=
  let p := (s.grps.get g).prof
  let pts := p.grpPoints s.tp
  let plan := { p.plan with t := p.plan.t + s.tp }
  let ovl := p.ovl.map (fun o => { o with plan := { o.plan with t := o.plan.t + s.tp }, left := o.left - 1 })
  let (endIn, ovl1) : List Nat × Option Overlap := match ovl with
    | some o => if o.plan.ended && (decide (o.plan.pEnd = o.path.len) || plan.ended) then (o.owed, none) else ([], some o)
    | none => ([], none)
  let endOut := plan.ended && decide (p.joint.vEnd = 0) && !p.rampsToDwell
  let (q, _, _, _, _) := plan.at_ plan.t
  let s1 := s.modGrp g (fun x => { x with prof := { x.prof with
    plan := plan, ovl := ovl1, s := q, owed := if endOut then [] else p.owed,
    doneNext := (endIn ++ (if endOut then p.owed else [])).map (fun t => (t, 0)) } })
  (List.zip (s.grpSlots g) pts).foldl (fun s e =>
    let ((a, w), (x, v, ac)) := e
    let sp := if w = 0 then { (s.ax a).prof.sp with v := 0, a := 0 } else setPointOf (x / w) (v / w) (ac / w)
    s.modAxis a (fun y => countStill s a (putPoint s { y with prof := { y.prof with kind := .idle, plan := {}, sp := sp } } sp))) s1

/-- Standstill of a stopped group: every member has been still for 8 position cycles, so its supervision ends (R237). -/
def grpStill (g : Fin 8) (s : State) : State :=
  let p := (s.grps.get g).prof
  if p.stopDeadline.isSome ∧ p.stopRuns = 0 ∧ (s.members g).all (fun a => decide (8 ≤ (s.ax a).prof.stillRun)) then
    s.modGrp g (fun x => { x with prof := { x.prof with stopDeadline := none } })
  else s

/-- The profile engine of a group in a position cycle. -/
def grpEngine (g : Fin 8) (s : State) : State :=
  let p := (s.grps.get g).prof
  let s0 := (grpDone g (p.doneNext.map (·.1)) s).modGrp g (fun x => { x with prof := { x.prof with doneNext := [] } })
  let s1 := grpDecide g s0
  if (s1.grps.get g).moving ∨ (s1.grps.get g).prof.owed ≠ [] then grpForm g (grpJoints g 64 s1)
  else grpStill g s1

/-- Positions of a group's path and queue follow a change of a member's p_ref (R201). -/
def shiftGroup (a : AxisId) (d : Int) (s : State) : State :=
  match s.groupOf a with
  | none => s
  | some g =>
    let slots := s.grpSlots g
    let k := slots.findIdx (fun e => decide (e.1 = a))
    let w := (slots.getD k (a, 1)).2
    let dw : Rat := d * w
    let at_ := fun (l : List Rat) => l.modify k (fun x => x + dw)
    let path := fun (p : Path) => { p with
      src := at_ p.src, dst := at_ p.dst, pts := p.pts.map at_,
      centre := (if k = 0 then p.centre.1 + dw else p.centre.1, if k = 1 then p.centre.2 + dw else p.centre.2) }
    let c := ratHalfUp dw
    let mv := fun (e : MoveReq × Nat) => ({ e.1 with
      points := e.1.points.modify k (fun x => x + c)
      centre0 := if k = 0 then e.1.centre0 + c else e.1.centre0
      centre1 := if k = 1 then e.1.centre1 + c else e.1.centre1 }, e.2)
    s.modGrp g (fun x => { x with prof := { x.prof with
      path := path x.prof.path, ovl := x.prof.ovl.map (fun o => { o with path := path o.path }),
      queue := x.prof.queue.map mv, repl := x.prof.repl.map mv } })

/-- `grp[g].status` (R244). -/
def grpStatus (s : State) (g : Fin 8) : Nat := (s.grps.get g).prof.statusWord false

end Sys2Proof.Machine
end

