-- ==== Sys2Proof/Machine/Crc.lean ====
section
/-! DEFINITION. Checksums and sequences of the manual: CRC-16 of the axis link and safety exchange (R85), CRC-32 of
IEEE 802.3, and PRBS-7 (R67). -/

namespace Sys2Proof.Machine

/-- One bit of a CRC that shifts left: register of `w` bits. -/
def crcStepL (w poly : Nat) (r : Nat) : Nat :=
  if r.testBit (w - 1) then Nat.xor (r * 2 % 2 ^ w) poly else r * 2 % 2 ^ w

def iter {α : Type} (f : α → α) : Nat → α → α
  | 0, x => x
  | n + 1, x => iter f n (f x)

/-- CRC-16, polynomial 0x1021, initial 0xFFFF, most significant bit first, no inversion (R85). -/
def crc16 (l : List Byte) : Nat :=
  l.foldl (fun r b => iter (crcStepL 16 0x1021) 8 (Nat.xor r (b.toNat * 256))) 0xFFFF

/-- One bit of a reflected CRC. -/
def crcStepR (poly : Nat) (r : Nat) : Nat := if r % 2 = 1 then Nat.xor (r / 2) poly else r / 2

/-- A reflected CRC-32 with initial value and final inversion of ones. -/
def crcReflected (poly : Nat) (l : List Byte) : Nat :=
  Nat.xor (l.foldl (fun r b => iter (crcStepR poly) 8 (Nat.xor r b.toNat)) 0xFFFFFFFF) 0xFFFFFFFF

/-- CRC-32 of IEEE 802.3. -/
def crc32 (l : List Byte) : Nat := crcReflected 0xEDB88320 l

/-- CRC-32C (Castagnoli). -/
def crc32c (l : List Byte) : Nat := crcReflected 0x82F63B78 l

/-- `n` output bits of PRBS-7 as a number, first bit least significant, with the register after them (R67). -/
def prbsBits : Nat → Nat → Nat × Nat
  | 0, r => (0, r)
  | n + 1, r =>
    let f := (r / 64 + r / 32) % 2
    let (v, r') := prbsBits n ((r * 2 + f) % 128)
    (f + 2 * v, r')

/-- `n` bytes of PRBS-7. -/
def prbsBytes : Nat → Nat → List Byte
  | 0, _ => []
  | n + 1, r =>
    let (v, r') := prbsBits 8 r
    BitVec.ofNat 8 v :: prbsBytes n r'

/-- Body of a TRAIN or WAKE burst of `len` bytes (R67). -/
def prbsBody (type len : Nat) : List Byte :=
  let b := toLE 1 type ++ prbsBytes (len - 3) 0x7F
  b ++ toLE 2 (crc16 b)

end Sys2Proof.Machine
end

