-- ==== Sys2Proof/Machine/LineCode.lean ====
section
/-! DEFINITION. The 8b/10b code groups of bursts and Causeway frames (R57-R60, R338): the line code of IEEE 802.3 clause 36 with its running disparity,
bursts as they leave, and the reading of a received burst. Log 226 (PRESUMED). -/

namespace Sys2Proof.Machine

/-- What a code group stands for: a data byte, or the control byte of the same number. -/
inductive Sym where
  | data (b : Byte)
  | ctrl (b : Byte)
  deriving DecidableEq, Repr

/-- The control groups that R57 names: K28.5, K27.7 (/S/), K29.7 (/T/) and K23.7 (/R/). -/
def symK285 : Sym := .ctrl 0xBC
def symS : Sym := .ctrl 0xFB
def symT : Sym := .ctrl 0xFD
def symR : Sym := .ctrl 0xF7

/-- Sub-block abcdei of D.0-D.31 at negative disparity; a is the most significant bit and leaves first. -/
def sixTable : List Nat :=
  [0b100111, 0b011101, 0b101101, 0b110001, 0b110101, 0b101001, 0b011001, 0b111000,
   0b111001, 0b100101, 0b010101, 0b110100, 0b001101, 0b101100, 0b011100, 0b010111] ++
  [0b011011, 0b100011, 0b010011, 0b110010, 0b001011, 0b101010, 0b011010, 0b111010,
   0b110011, 0b100110, 0b010110, 0b110110, 0b001110, 0b101110, 0b011110, 0b101011]

/-- Sub-block fghj of D.x.0-D.x.7 at negative disparity; the alternate of D.x.7 is 0111. -/
def fourTable : List Nat := [0b1011, 0b1001, 0b0101, 0b1100, 0b1101, 0b1010, 0b0110, 0b1110]

/-- Ones among the low n bits. -/
def onesOf (n x : Nat) : Nat := ((List.range n).filter (fun i => bitOf x i)).length

/-- A sub-block of n bits at a disparity: unbalanced ones, and the two balanced ones that are not neutral, are inverted at
positive disparity. -/
def subBlock (n : Nat) (pos : Bool) (c : Nat) : Nat :=
  if pos && (decide (2 * onesOf n c ≠ n) || decide (n = 6 ∧ c = 0b111000) || decide (n = 4 ∧ c = 0b1100)) then 2 ^ n - 1 - c else c

/-- Running disparity after a sub-block of n bits. -/
def dispAfter (n : Nat) (pos : Bool) (c : Nat) : Bool :=
  let k := 2 * onesOf n c
  if n < k then true
  else if k < n then false
  else if (n = 6 ∧ c = 0b000111) ∨ (n = 4 ∧ c = 0b0011) then true
  else if (n = 6 ∧ c = 0b111000) ∨ (n = 4 ∧ c = 0b1100) then false
  else pos

/-- D.x.7 takes its alternate sub-block where the primary one would make five equal bits. -/
def altSeven (pos : Bool) (x : Nat) : Bool := if pos then [11, 13, 14].contains x else [17, 18, 20].contains x

/-- The two sub-blocks of a data byte at a disparity; `pos` of the second is the disparity after the first. -/
def dataSix (pos : Bool) (x : Nat) : Nat := subBlock 6 pos (sixTable.getD x 0)
def dataFour (pos : Bool) (x y : Nat) : Nat :=
  if y = 7 ∧ altSeven pos x then subBlock 4 pos 0b0111 else subBlock 4 pos (fourTable.getD y 0)

/-- The sub-blocks of a control group: K28.5, or K23.7, K27.7 and K29.7 with the alternate 0b1000 at positive disparity. -/
def ctrlBlocks (pos : Bool) (b : Byte) : Nat × Nat :=
  let neg : Nat × Nat := if b = 0xBC then (0b001111, 0b1010) else (sixTable.getD (b.toNat % 32) 0, 0b1000)
  if pos then (63 - neg.1, 15 - neg.2) else neg

/-- The code group of a symbol, abcdei before fghj, and the disparity after it. -/
def encodeSym (pos : Bool) : Sym → Nat × Bool
  | .data b =>
    let x := b.toNat % 32
    let six := dataSix pos x
    let mid := dispAfter 6 pos six
    let four := dataFour mid x (b.toNat / 32)
    (16 * six + four, dispAfter 4 mid four)
  | .ctrl b =>
    let c := ctrlBlocks pos b
    (16 * c.1 + c.2, dispAfter 4 (dispAfter 6 pos c.1) c.2)

/-- Code groups of a list of symbols from a disparity on (R58). -/
def encodeSyms : Bool → List Sym → List Nat
  | _, [] => []
  | pos, x :: r => (encodeSym pos x).1 :: encodeSyms (encodeSym pos x).2 r

/-- The symbol of a received code group at a disparity; none for a code violation or a disparity error (R59). -/
def decodeSym (pos : Bool) (g : Nat) : Option Sym :=
  match [symK285, symS, symT, symR].find? (fun k => (encodeSym pos k).1 = g) with
  | some k => some k
  | none =>
    let six := g / 16
    match (List.range 32).find? (fun x => dataSix pos x = six) with
    | none => none
    | some x =>
      ((List.range 8).find? (fun y => dataFour (dispAfter 6 pos six) x y = g % 16)).map
        (fun y => .data (BitVec.ofNat 8 (32 * y + x)))

/-- All symbols of a received burst from a disparity on; none where one group is not good. -/
def decodeSyms : Bool → List Nat → Option (List Sym)
  | _, [] => some []
  | pos, g :: r =>
    match decodeSym pos g with
    | none => none
    | some x => (decodeSyms (encodeSym pos x).2 r).map (fun l => x :: l)

/-- Ordered sets of the preamble by frame type (R58). -/
def preambleSets (type : Nat) : Nat :=
  if type % 16 = 3 then 8 else if type % 16 = 4 then 32 else 2

/-- The symbols of a burst: /I2/ sets, /S/, the body in offset order, /T/ and /R/ (R57, R60, R338). -/
def burstSyms (sets : Nat) (body : List Byte) : List Sym :=
  (List.replicate sets [symK285, Sym.data 0x50]).flatten ++ [symS] ++ body.map Sym.data ++ [symT, symR]

/-- Code groups from negative disparity, with which a burst starts and which /I2/ keeps (R58, R338). -/
def frameGroups (sets : Nat) (body : List Byte) : List Nat := encodeSyms false (burstSyms sets body)

/-- The code groups of an axis-link burst, with the preamble of its frame type (R57, R58). -/
def burstGroups (body : List Byte) : List Nat := frameGroups (preambleSets (getU body 0 1)) body

/-- What follows the preamble of /I2/ sets. -/
def skipPreamble : List Sym → List Sym
  | [] => []
  | x :: r => if x = symK285 ∨ x = .data 0x50 then skipPreamble r else x :: r

/-- The data bytes at the head of a list of symbols, and the rest. -/
def takeData : List Sym → List Byte × List Sym
  | .data b :: r => let t := takeData r; (b :: t.1, t.2)
  | l => ([], l)

/-- The body between /S/ and /T/ /R/ of decoded symbols; empty where the delimiters do not stand so. -/
def bodyOf (l : List Sym) : List Byte :=
  match skipPreamble l with
  | x :: r =>
    let t := takeData r
    if x = symS ∧ t.2 = [symT, symR] then t.1 else []
  | [] => []

end Sys2Proof.Machine

namespace Sys2Proof

/-- The burst has neither a code group that R57 does not name nor a disparity error (R59). -/
def Burst.codeOk (b : Burst) : Bool := (Machine.decodeSyms false b.groups).isSome

/-- The bytes between /S/ and /T/ of received code groups (R57). -/
def Machine.bodyOfGroups (g : List Nat) : List Byte :=
  match Machine.decodeSyms false g with
  | some l => Machine.bodyOf l
  | none => []

def Burst.body (b : Burst) : List Byte := Machine.bodyOfGroups b.groups

/-- The same of a Causeway frame (R338). -/
def CFrame.codeOk (f : CFrame) : Bool := (Machine.decodeSyms false f.groups).isSome
def CFrame.body (f : CFrame) : List Byte := Machine.bodyOfGroups f.groups

end Sys2Proof
end

