-- ==== Sys2Proof/Machine/Modulate.lean ====
section
/-! DEFINITION. The modulation stage: duties, dead-time compensation, minimum pulse, carriers and the PWM test pair
(04_pwm_edges.md). Times are in 250 ps. -/

namespace Sys2Proof.Machine

/-- What modulation hands to the frame and to the current stage. -/
structure ModOut where
  car : Carrier
  vlim : Bool
  clampHit : Bool
  drop : Bool
  deriving DecidableEq, Repr

/-- One half-bridge's edges from T_c under R108 and R110: ON, OFF, PULSE_CLAMP, PULSE_DROP. -/
def placePulse (tc p d m : Int) : Int × Int × Bool × Bool :=
  let h := tc - d
  let l := p - tc - d
  if 2 * h < m then (p, p, false, true)
  else if h < m then
    let t := m + d
    (divHalfUp (p - t) 2, divHalfUp (p - t) 2 + t, true, false)
  else if 2 * l < m then (0, p, false, true)
  else if l < m then
    let t := p - d - m
    (divHalfUp (p - t) 2, divHalfUp (p - t) 2 + t, true, false)
  else (divHalfUp (p - tc) 2, divHalfUp (p - tc) 2 + tc, false, false)

/-- Compensation factor s in Q1.15 for a phase-current reference (R107). -/
def compFactor (i band : Int) : Int :=
  if band = 0 then 0 else if band ≤ i then 2 ^ 15 else if i ≤ -band then -(2 ^ 15) else divHalfUp (i * 2 ^ 15) band

/-- Phase-current references in Q1.15 by inverse Park and inverse Clarke (R107). -/
def phaseRefs (kind : Int) (c : Cur) (theta : Int) : List Int :=
  if kind = 3 then
    let u := satS 16 (shrHalfUp c.refQ 16)
    [u, -u, 0]
  else
    let (cs, sn) := rot theta
    let ia := c.refD * cs - c.refQ * sn
    let ib := (c.refD * sn + c.refQ * cs) * kSqrt32
    [satS 16 (shrHalfUp ia 47), satS 16 (shrHalfUp (-(ia * 2 ^ 30) + ib) 78), satS 16 (shrHalfUp (-(ia * 2 ^ 30) - ib) 78)]

def minI (l : List Int) : Int := l.foldl min (l.headD 0)
def maxI (l : List Int) : Int := l.foldl max (l.headD 0)
def maxR (l : List Rat) : Rat := l.foldl max (l.headD 0)

/-- A duty from a reference in Q1.15, exact, held to the region that the span limit leaves, [0, 1] where the limit is V_BUS
(R104, R106, log 21). -/
def dutyOf (off spanLim : Rat) (vBus : Int) (v : Int) : Rat :=
  clampR ((1 - spanLim) / 2) ((1 + spanLim) / 2) (off + (v : Rat) / vBus)

/-- Duties of the enabled half-bridges and VLIM (R104-R106, R109). `fixed` is the centre-aligned carrier, `spanLim` the factor of the
span limit. References, their scaling and v_0 are Q1.15, each rounded half up and saturated (R5, R6); duties are exact and rounded
once with T_c. Log 21 (DEDUCED). -/
def duties (kind : Int) (fixed : Bool) (spanLim : Rat) (vBus va vb : Int) : List Rat × Bool :=
  let n := if kind = 3 then 2 else 3
  if vBus < 0x0200 then (List.replicate n (1 / 2), true)
  else
    let off : Rat := if fixed then 1 / 2 else 0
    if kind = 3 then
      let v := clamp (-vBus) vBus va
      let ph := [shrHalfUp v 1, shrHalfUp (-v) 1]
      let v0 := if fixed then 0 else -minI ph
      (ph.map (fun u => dutyOf off 1 vBus (u + v0)), decide (v ≠ va))
    else
      let h := vb * kSqrt32
      let ph := [va, satS 16 (shrHalfUp (-(va * 2 ^ 30) + h) 31), satS 16 (shrHalfUp (-(va * 2 ^ 30) - h) 31)]
      let span := maxI ph - minI ph
      let lim := (vBus : Rat) * spanLim
      let above := decide (lim < span)
      let sc := if above then ph.map (fun v => ratHalfUp (v * lim / span)) else ph
      let v0 := satS 16 (if fixed then shrHalfUp (-(maxI sc + minI sc)) 1 else -minI sc)
      (sc.map (fun v => dutyOf off spanLim vBus (v + v0)), above || decide (lim = 0))

/-- The period of a variable-period carrier (R114); fixed carriers keep `ax.pwm.period_ns` (R113). -/
def carrierPeriod (kind : Nat) (per on off d m : Int) (dMax : Rat) : Int :=
  if kind = 1 then
    if dMax ≤ 0 then per else min per (max (on + 2 * d + m) (ratHalfUp (on / dMax)))
  else if kind = 2 then
    if 1 ≤ dMax then per else min per (max (off + 2 * d + m) (ratHalfUp (off / (1 - dMax))))
  else per

/-- BRIDGE_EN by motor kind (R117). -/
def bridgeEn (kind : Int) : Nat := if kind = 3 then 0b011 else if kind = 2 then 0 else 0b111

/-- The modulation stage of a PMSM, linear or brushed DC axis with torque (R103-R117). The current references of R107 turn by the
angle of the samples. Log 230 (DEDUCED). -/
def modulate (s : State) (a : AxisId) (x : Axis) (u : UpFrame) : ModOut :=
  let kind := s.pa pAxMotKind a
  let ck := (s.pa pAxPwmCarrier a).toNat
  let per := s.pa pAxPwmPeriodNs a
  let d := s.pa pAxPwmDeadNs a
  let m := s.pa pAxPwmMinPulseNs a
  let fixed := decide (ck = 0)
  let spanLim : Rat := if fixed ∧ s.pa pAxPwmSpanMode a = 1 then 1 - 2 * ((2 * d + m : Int) : Rat) / per else 1
  let (dut, vlim) := duties kind fixed spanLim u.vBus x.cur.vAlpha x.cur.vBeta
  let p := carrierPeriod ck per (s.pa pAxPwmOnNs a) (s.pa pAxPwmOffNs a) d m (maxR dut)
  let refs := phaseRefs kind x.cur x.fb.thetaE
  let band := s.pa pAxPwmCompBand a
  let places := (List.range dut.length).map (fun i =>
    let tc := ratHalfUp (dut.getD i 0 * p + (d : Rat) * compFactor (refs.getD i 0) band / 2 ^ 15)
    placePulse tc p d m)
  let edges := (places.map (fun e => [e.1.toNat, e.2.1.toNat])).flatten
  { car := { kind := ck, dead := d.toNat, period := p.toNat,
             edges := edges ++ List.replicate (6 - edges.length) 0, bridge := bridgeEn kind, chop := [0, 0, 0, 0] }
    vlim := vlim, clampHit := places.any (fun e => e.2.2.1), drop := places.any (fun e => e.2.2.2) }

/-- The chopper frame of a stepper axis (R116). PERIOD, which R74 reserves there, carries `ax.pwm.period_ns` as R117 says of every
frame. Log 229 (DEDUCED). -/
def chopperCarrier (s : State) (a : AxisId) (chop : List Int) : Carrier :=
  { kind := 3, dead := (s.pa pAxPwmDeadNs a).toNat, period := (s.pa pAxPwmPeriodNs a).toNat,
    edges := [(s.pa pAxPwmOnNs a).toNat, (s.pa pAxPwmOffNs a).toNat, 0, 0, 0, 0], bridge := 0, chop := chop }

/-- The carrier of a frame with ENABLE = 0: DEAD by its parameter, PERIOD with P, which in the test mode is that of the running pair,
no half-bridge; a chopper frame keeps MIN_ON and MIN_OFF, with thresholds of zero (R116, R117, R122). -/
def offCarrier (s : State) (a : AxisId) (x : Axis) : Carrier :=
  if x.mode = 6 then { kind := 0, dead := (s.pa pAxPwmDeadNs a).toNat, period := x.mod.pair.2.1 }
  else if s.pa pAxPwmCarrier a = 3 then chopperCarrier s a [0, 0, 0, 0]
  else { kind := (s.pa pAxPwmCarrier a).toNat, dead := (s.pa pAxPwmDeadNs a).toNat, period := (s.pa pAxPwmPeriodNs a).toNat }

/-! ### The test pair (R118-R123) -/

/-- A staged half: time and generation (R119). -/
def halfOf (v : Int) : Nat × Nat := (fieldOf v.toNat 0 24, fieldOf v.toNat 32 16)

/-- Comparison of the staged halves at the opening of the tile window (R121). -/
def pairCheck (s : State) (a : AxisId) (m : Mod) : Mod :=
  let (tp, gp) := halfOf (s.pa pAxPwmTestPeriod a)
  let (to_, go) := halfOf (s.pa pAxPwmTestOn a)
  let d := s.pa pAxPwmDeadNs a
  let mp := s.pa pAxPwmMinPulseNs a
  if m.pair = (gp, tp, to_) ∧ gp = go then { m with pairSplit := false }
  else if gp ≠ go then { m with pairSplit := true }
  else if 2 * (d + mp) ≤ tp ∧ tp ≤ 4 * s.pn pCycPeriodNs 0 ∧ to_ < tp then
    { m with pair := (gp, tp, to_), pairSplit := false, pairBad := false }
  else { m with pairSplit := false, pairBad := true }

/-- The carrier of the running pair (R122). -/
def pairOut (s : State) (a : AxisId) (m : Mod) : ModOut :=
  let d := s.pa pAxPwmDeadNs a
  let (_, p, on) := m.pair
  let (xon, xoff, c, dr) := placePulse on p d (s.pa pAxPwmMinPulseNs a)
  let dc := decide (s.pa pAxMotKind a = 3)
  let w := if dc then 0 else p
  { car := { kind := 0, dead := d.toNat, period := p, edges := [xon.toNat, xoff.toNat, p, p, w, w],
             bridge := bridgeEn (s.pa pAxMotKind a), chop := [0, 0, 0, 0] }
    vlim := false, clampHit := c, drop := dr }

/-- Write both staged halves. -/
def State.setHalves (s : State) (a : AxisId) (v w : Int) : State :=
  (s.setLive pAxPwmTestPeriod a.val [v]).setLive pAxPwmTestOn a.val [w]

/-- Entry into the test mode: generation 0, the carrier period and on-time 0, both halves equal to it (R118). -/
def enterTest (a : AxisId) (s : State) : State :=
  let p : Nat := (s.pa pAxPwmPeriodNs a).toNat % 2 ^ 24
  (s.setHalves a p 0).modAxis a (fun x => { x with mod := { x.mod with pair := (0, p, 0), pairSplit := false, pairBad := false } })

/-- Leaving the test mode discards both halves and clears both flags (R122). -/
def leaveTest (a : AxisId) (s : State) : State :=
  (s.setHalves a 0 0).modAxis a (fun x => { x with mod := { x.mod with pairSplit := false, pairBad := false } })

/-- The mode in force changes, with what leaving and entering the test mode does; a jog ends with Manual mode (R118, R122, R176,
R242). -/
def setMode (a : AxisId) (m : Nat) (s : State) : State :=
  let old := (s.ax a).mode
  let s1 := if old = 6 ∧ m ≠ 6 then leaveTest a s else s
  let s2 := s1.modAxis a (fun x =>
    { x with mode := m, prof := if m = 4 then x.prof else { x.prof with jog := none, jogUntil := none } })
  if m = 6 ∧ old ≠ 6 then enterTest a s2 else s2

end Sys2Proof.Machine
end

