-- ==== Sys2Proof/Machine/Link.lean ====
section
/-! DEFINITION. The axis link: bring-up, bursts, delay, frames, losses and trips (03_axis_link.md and the trips of
04_pwm_edges.md). -/

namespace Sys2Proof.Machine

/-- LINK code of R417. -/
def LinkState.code : LinkState → Nat
  | .down => 0 | .listen => 1 | .train => 2 | .measure => 3 | .ready => 4 | .run => 5

/-- No event in the window of R81. -/
def noStamp : Int := -(2 ^ 31)

/-- The fields of an upstream body of 80 bytes (R79). -/
def parseUp (l : List Byte) : UpFrame :=
  { type := getU l 0 1, statA := getU l 1 1, seq := getU l 2 2, statB := getU l 4 1, dnErr := getU l 5 1,
    temp := getS l 6 1, turnaround := getU l 8 3, indexTs := getS l 12 4, reg0Ts := getS l 16 4, reg1Ts := getS l 20 4,
    quad := getU l 24 4, hallIo := getU l 28 1, sin := getS l 30 2, cos := getS l 32 2, iU := getS l 34 2,
    iV := getS l 36 2, iW := getS l 38 2, vBus := getS l 40 2, vU := getS l 42 2, vV := getS l 44 2, vW := getS l 46 2,
    iMeanA := getS l 48 2, iMeanB := getS l 50 2, chopA := getU l 52 1, chopB := getU l 53 1, tripTs := getS l 54 4,
    tMotor := getS l 58 2, aux0 := getS l 60 2, aux1 := getS l 62 2, sideAddr := getU l 64 1, sideData := getU l 66 4 }

/-- TRIP, TRIP_DEAD, TRIP_IN, DN_LOST, OFF_LOST and the STO inputs of STAT_A (R82). -/
def UpFrame.trip (u : UpFrame) : Bool := bitOf u.statA 0
def UpFrame.tripDead (u : UpFrame) : Bool := bitOf u.statA 1
def UpFrame.tripIn (u : UpFrame) : Bool := bitOf u.statA 2
def UpFrame.dnLost (u : UpFrame) : Bool := bitOf u.statA 3
def UpFrame.offLost (u : UpFrame) : Bool := bitOf u.statA 5
def UpFrame.stoA (u : UpFrame) : Bool := bitOf u.statA 6
def UpFrame.stoB (u : UpFrame) : Bool := bitOf u.statA 7

/-- Body of a downstream frame (R74, R75). -/
def dnBytes (f : DnFrame) (seq sampleOfs upOfs cycle : Int) : List Byte :=
  let ctrl := packBits [(1, b2n f.enable), (1, b2n f.tripClear), (1, b2n f.rep), (1, b2n f.arm0), (1, b2n f.arm1)]
  let edges := (f.car.edges.map (fun (e : Nat) => toLE 3 (e : Int))).flatten
  let b := toLE 1 f.type ++ toLE 1 ctrl ++ toLE 2 seq ++ toLE 3 sampleOfs ++ toLE 1 f.car.kind ++ toLE 2 upOfs ++
    toLE 2 f.car.dead ++ toLE 3 f.car.period ++ padTo 18 edges ++ toLE 1 f.car.bridge ++
    padTo 8 ((f.car.chop.map (toLE 2)).flatten) ++ toLE 1 f.sideAddr ++ toLE 3 cycle
  b ++ toLE 2 (crc16 b)

/-- Change of a link's state, with its LINK_STATE event (R430). -/
def setLink (a : AxisId) (st : LinkState) (s : State) : State :=
  if (s.ax a).link.st = st then s
  else (s.modLink a (fun l => { l with st := st })).postEvent 0x8040 0 a.val (toLE 1 st.code)

/-- The sample instant that an upstream frame answers to, in FT ns. -/
def sampleInstant (a : AxisId) (s : State) : Int :=
  if (s.ax a).link.st = .run then s.cyc.start
  else match (s.ax a).link.virt with
    | some v => v.1
    | none => s.ft

/-- One TRIP clear sequence has ended with a status; OK closes its record, with cleared-at at the sample instant of the frame
that reports TRIP clear (R126, R481). -/
def tripClearEnds (a : AxisId) (status : Nat) (s : State) (c : TripClear) : State :=
  let s1 := s.modRec c.slot (fun r => { r with acting := false })
  let s2 := if status = stOk then closeRec c.slot (latchRec c.slot (sampleInstant a s1) s1) else s1
  s2.finish c.req { status := status }

/-- The TRIP clear sequences of a link that `p` selects end with a status (R126). -/
def endTripClearIf (p : TripClear → Bool) (a : AxisId) (status : Nat) (s : State) : State :=
  ((s.ax a).link.tripClear.filter p).foldl (tripClearEnds a status)
    (s.modLink a (fun l => { l with tripClear := l.tripClear.filter (fun c => !p c) }))

/-- Every TRIP clear sequence of a link ends with a status. -/
def endTripClear (a : AxisId) (status : Nat) (s : State) : State := endTripClearIf (fun _ => true) a status s

/-- What ends when a link leaves READY and RUN: REFERENCED, latch validity and the TRIP clear (R126, R259, R264). -/
def linkLeaves (a : AxisId) (s : State) : State :=
  (endTripClear a stUnreachable s).modAxis a (fun x =>
    { x with home := { x.home with referenced := false }
             latch0 := x.latch0.off
             latch1 := x.latch1.off
             fb := { x.fb with first := true, commCoarse := false, commExact := false, stepped := false, stepAlign := none } })

/-- Conditions that the link's own frames show end with the link: the eye margin has no reference before the next training,
and no frame compares the STO inputs (R64, R100). -/
def endShown (a : AxisId) (s : State) : State :=
  let l := (s.ax a).link
  let s1 := if l.eyeRep then s.clearCond fEyeLow a.val else s
  let s2 := if l.stoRep then s1.clearCond fStoMismatch a.val else s1
  s2.modLink a (fun l => { l with eyeLowSince := none, eyeRep := false, stoSince := [none, none], stoRep := false })

/-- Numbering, identification and exchanges start again (R70, R84, R86). -/
def linkRestart (a : AxisId) (s : State) : State :=
  (endShown a (linkLeaves a s)).modLink a (fun l =>
    { l with wakes := 0, exchanges := 0, errorFree := 0, measCount := 0, measAccepted := 0, idRegs := [], idRot := 0, up := none,
             virt := none, fresh := false, lost := false, sinceReady := false, lostRun := 0, dStamp := none, fastAdapt := 0 })

/-- Return to LISTEN for any reason (R70). -/
def toListen (a : AxisId) (s : State) : State := setLink a .listen (linkRestart a s)

/-- `ax.lnk.enable` became 0: every state but DOWN returns to DOWN (R65). -/
def toDown (a : AxisId) (s : State) : State :=
  setLink a .down ((linkRestart a s).modLink a (fun l => { l with trainFails := 0 }))

/-- DOWN leaves to LISTEN when the link is enabled and the AXL domain is on (R65). -/
def linkEnable (a : AxisId) (s : State) : State :=
  if (s.ax a).link.st = .down ∧ s.pa pAxLnkEnable a = 1 ∧ s.domOn .axl then setLink a .listen s else s

/-- AXL and AFE conditions are reported only while cycling and not in the last frame after a stop (R48, R52). -/
def reports (a : AxisId) (s : State) : Bool := s.cyc.cycling && decide ((s.ax a).link.st = .run)

/-- Thresholds of consecutive and windowed losses (R89): 2 raises to level 1, 3 to level 3, more than 16 in 1 s LOST_RATE. -/
def lostThresholds (a : AxisId) (s : State) : State :=
  let l := (s.ax a).link
  if reports a s then
    let lvl := if 3 ≤ l.lostRun then 3 else if l.lostRun = 2 then 1 else 0
    let step := min l.lostRun 3
    let s1 := if l.lostRep < step then
        (s.raiseAt fUpLost a.val lvl).modLink a (fun l => { l with lostRep := step })
      else s
    if 16 < l.lostTimes.length ∧ ¬ l.rateOver then
      (s1.raise fLostRate a.val).modLink a (fun l => { l with rateOver := true })
    else s1
  else s

/-- One upstream frame is lost (R88, R89). -/
def frameLost (a : AxisId) (s : State) : State :=
  let now := s.time.lt
  lostThresholds a (s.modLink a (fun l =>
    { l with lost := true, lostRun := l.lostRun + 1, lostCount := incSat 32 l.lostCount,
             lostTimes := (l.lostTimes.filter (fun x => decide (now < x + 1000000000))) ++ [now] }))

/-- The mean of the samples kept (R71). -/
def meanOf (l : List Int) : Rat := if l.isEmpty then 0 else ((l.foldl (· + ·) 0 : Int) : Rat) / (l.length : Nat)

/-- A delay sample is formed and kept or discarded (R71). -/
def delaySample (a : AxisId) (arrival : Int) (turnaround : Nat) (s : State) : State :=
  let l := (s.ax a).link
  match l.dStamp with
  | none => s
  | some d =>
    let di : Int := arrival - d - (turnaround : Int) * 2 ^ 14
    let keep : Bool := match l.dEst with
      | none => true
      | some e => decide ((di : Rat) - e ≤ 4 * 2 ^ 17 ∧ e - (di : Rat) ≤ 4 * 2 ^ 17)
    if keep then
      let samples : List Int := (di :: l.samples).take 16
      let est := meanOf samples
      s.modLink a (fun l =>
        { l with samples := samples, dEst := some est, discards := 0,
                 dUse := if l.st = .measure then est else l.dUse })
    else if 15 ≤ l.discards then
      (s.raise fDelaySpread a.val).modLink a (fun l => { l with samples := [], dEst := none, discards := 0 })
    else s.modLink a (fun l => { l with discards := l.discards + 1 })

/-- The value in use follows the estimate by at most 250 ps per cycle in READY and RUN (R71). -/
def followDelay (l : Link) : Link :=
  match l.dEst with
  | none => l
  | some e =>
    let lim : Rat := 2 ^ 15
    let d := e - l.dUse
    { l with dUse := if d < -lim then l.dUse - lim else if lim < d then l.dUse + lim else e }

/-- STAT_B conditions: bit, code (R94). -/
def statBCodes : List (Nat × Nat) :=
  [(0, fGateUv), (1, fOvertemp), (2, fVbusOv), (3, fVbusUv), (6, fFbFault)]

/-- AFE status bits raise and end their conditions (R94). -/
def statFaults (a : AxisId) (prev now : Nat) (s : State) : State :=
  statBCodes.foldl (fun s e =>
    if bitOf now e.1 ∧ ¬ bitOf prev e.1 then s.raise e.2 a.val
    else if bitOf prev e.1 ∧ ¬ bitOf now e.1 then s.clearCond e.2 a.val
    else s) s

/-- A newly latched trip raises TRIP or TRIP_DEAD at the frame's sample instant plus TRIP_TS, or at the sample instant alone where
TRIP_TS holds none (R124). In MEASURE the frame before counts too. Log 228 (DEDUCED). -/
def tripReport (a : AxisId) (u : UpFrame) (s : State) : State :=
  let l := (s.ax a).link
  let before : Bool := match l.up with
    | some p => (l.sinceReady || decide (l.st = .measure)) && p.trip
    | none => false
  if u.trip ∧ (u.tripTs ≠ noStamp ∨ ¬ before) then
    let at_ := sampleInstant a s + (if u.tripTs = noStamp then 0 else divHalfUp u.tripTs 4)
    s.raiseOcc ⟨if u.tripDead then fTripDead else fTrip, a.val, none, false, some at_, 0⟩
  else s

/-- The running TRIP clears that `p` selects see an accepted frame (R126). -/
def tripClearSees (p : TripClear → Bool) (a : AxisId) (u : UpFrame) (s : State) : State :=
  if ¬ u.trip then endTripClearIf p a stOk s
  else if u.tripIn then endTripClearIf p a stState s
  else s

/-- Before a frame is built, every running TRIP clear acts on the latest frame accepted, which may have come before the
acknowledgement; those that go on have this frame as one of their 16 (R126, R610). -/
def tripClearBuild (a : AxisId) (s : State) : State :=
  let s1 := match (s.ax a).link.up with
    | some u => tripClearSees (fun c => !c.hold) a u s
    | none => s
  s1.modLink a (fun l => { l with tripClear := l.tripClear.map (fun c => { c with inFrame := !c.hold && decide (c.framesSent < 16) }) })

/-- The register that a frame returns is kept in MEASURE, or where its answers were all lost there, and compared afterwards (R83,
R84). -/
def sideReg (a : AxisId) (u : UpFrame) (s : State) : State :=
  let l := (s.ax a).link
  if 0x0C < u.sideAddr then s
  else if l.st = .measure ∨ ¬ l.idRegs.any (fun e => decide (e.1 = u.sideAddr)) then s.modLink a (fun l => { l with idRegs := alPut u.sideAddr u.sideData l.idRegs })
  else if alGet u.sideData u.sideAddr l.idRegs ≠ u.sideData then toListen a (s.raise fIdChange a.val)
  else s

/-- The frame being built carries TRIP_CLEAR (R126). -/
def Link.clearsTrip (l : Link) : Bool :=
  l.tripClear.any (fun c => c.inFrame)

/-- An STO input and its own output's command, SOB's as the safety exchange last reported it, and since when they disagree (R100). -/
def stoTrack (a : AxisId) (u : UpFrame) (s : State) : State :=
  let now := s.time.lt
  let upd := fun (bad : Bool) (o : Option Nat) => if bad then (match o with | some x => some x | none => some now) else none
  let badA := decide (u.stoA ≠ s.safe.proc.closed)
  let badB := decide (u.stoB ≠ s.safe.sobSeen)
  let l := (s.ax a).link
  let s1 := if ¬ badA ∧ ¬ badB ∧ l.stoRep then s.clearCond fStoMismatch a.val else s
  s1.modLink a (fun l =>
    { l with stoSince := [upd badA (l.stoSince.getD 0 none), upd badB (l.stoSince.getD 1 none)],
             stoRep := l.stoRep && (badA || badB) })

/-- De-emphasis from the equaliser gain, which in RUN moves only 2 dB past a boundary: upward at 7 and 12 dB, downward at 4 and
9 dB (R63). Log 227 (DEDUCED). -/
def deemphOf (g prev : Nat) (run : Bool) : Nat :=
  let want := if g ≤ 5 then 0 else if g ≤ 10 then 1 else 2
  if !run then want
  else if prev < want then (if (if prev = 0 then 7 else 12) ≤ g then want else prev)
  else if want < prev then (if g ≤ (if prev = 2 then 9 else 4) then want else prev)
  else prev

/-- Equaliser and eye after an accepted burst (R62-R64). -/
def eqAccepted (a : AxisId) (b : Burst) (s : State) : State :=
  let now := s.time.lt
  let l := (s.ax a).link
  let low := decide (b.eyePct < 25)
  let s1 := if ¬ low ∧ l.eyeRep then s.clearCond fEyeLow a.val else s
  s1.modLink a (fun l =>
    { l with ctle := min 15 b.ctle, dfe := b.dfe, deemph := deemphOf b.ctle l.deemph (decide (l.st = .run)),
             fastAdapt := l.fastAdapt - 1, eyePct := b.eyePct,
             eyeLowSince := if low then (match l.eyeLowSince with | some x => some x | none => some now) else none,
             eyeRep := l.eyeRep && low })

/-- A burst was discarded for a code violation or a CRC error: fast adaptation and the count of CRC errors (R64, R462). A burst
discarded for its length starts neither. -/
def eqDiscarded (a : AxisId) (violation crcBad : Bool) (s : State) : State :=
  s.modLink a (fun l =>
    { l with fastAdapt := if violation || crcBad then 64 else l.fastAdapt,
             crcCount := if crcBad then incSat 32 l.crcCount else l.crcCount })

/-- Effects of an accepted upstream frame (R71, R84, R89, R94, R100, R124, R126). A run of losses ends as a condition with the
first frame accepted in RUN (R609). Log 168 (DEDUCED). -/
def frameAccepted (a : AxisId) (b : Burst) (u : UpFrame) (s : State) : State :=
  let l := (s.ax a).link
  let ends := decide (0 < l.lostRep ∧ l.st = .run)
  let s1 := if ends then s.clearCond fUpLost a.val else s
  let s2 := if u.dnLost ∧ reports a s1 then s1.raise fDnLost a.val else s1
  let rises := u.offLost && !l.offLost && reports a s2
  let s3 := if rises then s2.raise fOffLost a.val
    else if ¬ u.offLost ∧ l.offLost then s2.clearCond fOffLost a.val else s2
  let s4 := if u.dnLost then s3 else delaySample a (s3.ftFine8 b.stampS) u.turnaround s3
  let s5 := statFaults a l.statBPrev u.statB (tripReport a u s4)
  let s5 := if l.st ≠ .measure ∧ (s.ax a).fb.first then s5.modAxis a (feedbackReady s5 a u) else s5
  let s6 := s5.modLink a (fun l =>
    { l with up := some u, upRaw := b.body, fresh := true, lost := false, lostRun := 0,
             lostRep := if ends then 0 else l.lostRep, statBPrev := u.statB,
             sinceReady := decide (l.st ≠ .measure), measAccepted := l.measAccepted + 1, offLost := rises || (l.offLost && u.offLost) })
  let s7 := stoTrack a u (tripClearSees (fun _ => true) a u (eqAccepted a b s6))
  sideReg a u s7

/-- The window in which losses count has moved on (R89). -/
def rateWindow (a : AxisId) (s : State) : State :=
  let now := s.time.lt
  let s1 := s.modLink a (fun l => { l with lostTimes := l.lostTimes.filter (fun x => decide (now < x + 1000000000)) })
  if (s.ax a).link.rateOver ∧ (s1.ax a).link.lostTimes.length ≤ 16 then
    (s1.clearCond fLostRate a.val).modLink a (fun l => { l with rateOver := false })
  else s1

/-- UPSTREAM_FRAME_RX: a burst in MEASURE, READY or RUN is accepted or counted as lost (R59, R88); in MEASURE no frame is
late. Log 225 (DEDUCED). -/
def execUpstreamFrameRx (t : Nat) (ax : AxisId) (b : Burst) (s : State) : Host.Outcome State Fault Refusal :=
  let s := rateWindow ax (s.begin t)
  let l := (s.ax ax).link
  if l.st ≠ .measure ∧ l.st ≠ .ready ∧ l.st ≠ .run ∨ l.fresh ∨ l.lost ∨ (l.st = .run ∧ l.virt.isSome) then done s
  else
    let whole := b.codeOk && decide (b.body.length = 80)
    let crcOk := decide (getU b.body 78 2 = crc16 (b.body.take 78))
    let u := parseUp b.body
    let typeOk := decide (u.type = l.expType)
    let seqOk := decide (u.seq = l.expect.toNat)
    let late := decide (l.st ≠ .measure) && decide (2300 * 2 ^ 16 ≤ s.ftFine8 b.stampEnd - sampleInstant ax s * 2 ^ 16)
    if whole ∧ crcOk ∧ typeOk ∧ seqOk ∧ ¬ late then done (frameAccepted ax b u s)
    else if whole ∧ crcOk then done (frameLost ax s)
    else done (frameLost ax (eqDiscarded ax (!b.codeOk) whole s))

/-- The axis is computed in the present cycle: named in the map, link in RUN, frame accepted (R48, R89). -/
def mapped (a : AxisId) (s : State) : Bool := s.tiles.map.any (fun l => l.contains a.val)

/-- Every frame that a running link has not accepted is lost (R36, R88). -/
def loseMissing (s : State) : State :=
  forAxes allAxes (fun a s =>
    let l := (s.ax a).link
    if l.st = .run ∧ l.virt.isNone ∧ ¬ l.fresh ∧ ¬ l.lost then frameLost a (s.modLink a (fun l => { l with late := true })) else s) s

/-- UPSTREAM_DEADLINE: 2,300 ns into the cycle, frames not accepted are late and lost (R35, R36, R88). -/
def execUpstreamDeadline (t : Nat) (s : State) : Host.Outcome State Fault Refusal :=
  let s := s.begin t
  if s.cyc.cycling ∧ ¬ s.cyc.inPriming ∧ s.cyc.start + 2300 ≤ s.ft then done (loseMissing s) else done s

/-- LOST_FRAME_LIMIT: a threshold of R89 that has been reached and not reported is reported. -/
def execLostFrameLimit (t : Nat) (ax : AxisId) (s : State) : Host.Outcome State Fault Refusal :=
  done (lostThresholds ax (s.begin t))

/-- A TRAIN or WAKE body as R67 lays it down. -/
def prbsOk (b : Burst) (type : Nat) : Bool := b.codeOk && decide (b.body = prbsBody type 80)

/-- The equaliser adapts from the data of an accepted burst, and in LISTEN and TRAIN the de-emphasis follows (R62-R64). -/
def adapt (b : Burst) (l : Link) : Link :=
  { l with ctle := min 15 b.ctle, dfe := b.dfe, eyePct := b.eyePct, deemph := deemphOf b.ctle l.deemph false,
           fastAdapt := l.fastAdapt - 1 }

/-- A TRAIN burst that is not accepted leaves the settings unchanged; a code violation or a CRC error starts the faster steps
(R62, R64). -/
def adaptTrain (b : Burst) (l : Link) : Link :=
  if prbsOk b 0x93 then adapt b l
  else if !b.codeOk || (decide (b.body.length = 80) && decide (getU b.body 78 2 ≠ crc16 (b.body.take 78))) then { l with fastAdapt := 64 }
  else l

/-- A TRAIN burst leaves (R65). -/
def sendTrain (a : AxisId) (s : State) : State :=
  { s with out := { s.out with link := s.out.link ++ [(a.val, burstGroups (prbsBody 0x13 48))] } }

/-- LINK_WAKE_RX: 3 consecutive WAKE bursts accepted lead to TRAIN (R65); in TRAIN a WAKE burst is answered. -/
def execLinkWakeRx (t : Nat) (ax : AxisId) (b : Burst) (s : State) : Host.Outcome State Fault Refusal :=
  let s := s.begin t
  let l := (s.ax ax).link
  if l.st = .listen then
    if prbsOk b 0x94 then
      if 2 ≤ l.wakes then
        done (sendTrain ax (setLink ax .train (s.modLink ax (fun l =>
          { adapt b l with wakes := 0, exchanges := 0, errorFree := 0 }))))
      else done (s.modLink ax (fun l => { adapt b l with wakes := l.wakes + 1 }))
    else done (s.modLink ax (fun l => { l with wakes := 0 }))
  else if l.st = .train ∧ prbsOk b 0x94 then done (sendTrain ax (s.modLink ax (adapt b)))
  else done s

/-- LINK_TRAIN_RX: one exchange of TRAIN; the exit condition leads to MEASURE (R65, R67). -/
def execLinkTrainRx (t : Nat) (ax : AxisId) (b : Burst) (s : State) : Host.Outcome State Fault Refusal :=
  let s := s.begin t
  let l := (s.ax ax).link
  if l.st ≠ .train ∨ 1024 ≤ l.exchanges then done s
  else
    let l1 := { adaptTrain b l with exchanges := l.exchanges + 1
                                    errorFree := if prbsOk b 0x93 then l.errorFree + 1 else 0 }
    let s1 := s.modLink ax (fun _ => l1)
    if 256 ≤ l1.exchanges ∧ 64 ≤ l1.errorFree ∧ 50 ≤ l1.eyePct then
      let s2 := if 4 ≤ l1.trainFails then s1.clearCond fTrainFail ax.val else s1
      done (setLink ax .measure (s2.modLink ax (fun l =>
        { l with seq := 0, expect := 0, measCount := 0, measAccepted := 0, idRegs := [], idRot := 0, trainFails := 0,
                 samples := [], dEst := none, dUse := 0, discards := 0, dStamp := none, virt := none, eyePct := 100, up := none,
                 statBPrev := 0,
                 fresh := false, lost := false, lostRun := 0 })))
    else if 1024 ≤ l1.exchanges then done s1
    else done (sendTrain ax s1)

/-- TRAIN_FAIL: 1,024 exchanges without the exit condition (R67). -/
def execTrainFail (t : Nat) (ax : AxisId) (s : State) : Host.Outcome State Fault Refusal :=
  let s := s.begin t
  let l := (s.ax ax).link
  if l.st = .train ∧ 1024 ≤ l.exchanges then
    let s1 := toListen ax (s.modLink ax (fun l => { l with trainFails := l.trainFails + 1 }))
    done (if l.trainFails + 1 = 4 then s1.raise fTrainFail ax.val else s1)
  else done s

/-- The exchange under way is over: its answer was accepted or lost, or none has come by 2,300 ns after its sample instant (R36,
R69). -/
def Link.answered (l : Link) (ft : Int) : Bool :=
  l.fresh || l.lost || (match l.virt with | some v => decide (v.1 + 2300 ≤ ft) | none => false)

/-- MEASURE_DONE: after 64 exchanges READY, or MEASURE_FAIL and LISTEN (R65, R68). -/
def execMeasureDone (t : Nat) (ax : AxisId) (s : State) : Host.Outcome State Fault Refusal :=
  let s := s.begin t
  let l := (s.ax ax).link
  if l.st = .measure ∧ 64 ≤ l.measCount ∧ l.answered s.ft then
    let far : Bool := match l.dEst with
      | some e => decide (120 * 2 ^ 17 < e)
      | none => true
    let major := fieldOf (alGet 0 0 l.idRegs) 8 8
    if far ∨ major ≠ 1 ∨ l.measAccepted < 48 then done (toListen ax (s.raise fMeasureFail ax.val))
    else
      done (setLink ax .ready (s.modAxis ax (fun x =>
        { x with
          link := { x.link with dUse := x.link.dEst.getD 0, sinceReady := false, up := none, lostRun := 0, lostRep := 0 }
          cur := { x.cur with coefReady := true } })))
  else done s

/-- SAMPLE_OFS for a sample instant in FT ns and a departure stamp in 2^-16 ns (R73). -/
def sampleOfs (ts d : Int) (dUse : Rat) : Int := ratHalfUp ((((ts * 2 ^ 17 - 2 * d : Int) : Rat) - dUse) / 2 ^ 15)

/-- UP_OFS in whole ns (R73). -/
def upOfs (dUse : Rat) : Int := (-25 - dUse / 2 ^ 17).floor

/-- Length of the virtual cycle that begins at an announced instant (R48, R69): 100,000 ns, or towards the priming cycle. -/
def virtLength (s : State) (ts : Int) : Nat :=
  match s.cyc.priming with
  | none => 100000
  | some n =>
    let start := s.startOf n + s.pn pCycPhaseNs 0
    let r := (start - ts).toNat
    if start ≤ ts then (s.pn pCycPeriodNs 0) else if r ≤ 150000 then max 50000 r else if r < 200000 then r / 2 else 100000

/-- LINK_IDLE_EXCHANGE: the exchange before is closed, and an IDLE frame leaves at `stamp` (R65, R69, R86). The first announces
the end of a virtual cycle that began 6,000 ns before it, the t_dn of R34 at this length; a later one the end of a cycle whose
length looks to the priming cycle placed meanwhile (R48). In MEASURE 64 frames leave. Log 166 (DEDUCED). -/
def execLinkIdleExchange (t : Nat) (ax : AxisId) (stamp : Nat) (s : State) : Host.Outcome State Fault Refusal :=
  let s := s.begin t
  let l := (s.ax ax).link
  if l.st ≠ .measure ∧ l.st ≠ .ready ∨ (l.st = .measure ∧ 64 ≤ l.measCount) then done s
  else
    let s1 := if l.virt.isSome ∧ ¬ l.fresh ∧ ¬ l.lost then frameLost ax s else s
    let d := s1.ftFine8 stamp
    let ts := match l.virt with
      | some v => v.1 + virtLength s1 v.1
      | none => s1.ft + 94000
    let len := virtLength s1 ts
    let l1 := (s1.ax ax).link
    let l2 := if l1.st = .ready then followDelay l1 else l1
    let f : DnFrame := { type := 0x12, car := offCarrier s1 ax (s1.ax ax), sideAddr := l2.idRot }
    let bytes := dnBytes f l2.seq.toNat (sampleOfs ts d l2.dUse) (upOfs l2.dUse) (4 * len)
    let s2 := s1.modAxis ax (fun x =>
      { x with
        torque := false
        link := { l2 with virt := some (ts, len), expect := l2.seq, expType := 0x92, seq := l2.seq + 1, dStamp := some d, dnRaw := bytes,
                          fresh := false, lost := false, idRot := (l2.idRot + 1) % 13,
                          measCount := if l2.st = .measure then l2.measCount + 1 else l2.measCount } })
    done { s2 with out := { s2.out with link := s2.out.link ++ [(ax.val, burstGroups bytes)] } }

/-- LINK_LOST: 8 consecutive losses in READY or RUN return the link to LISTEN (R70, R101). -/
def execLinkLost (t : Nat) (ax : AxisId) (s : State) : Host.Outcome State Fault Refusal :=
  let s := s.begin t
  let l := (s.ax ax).link
  if (l.st = .ready ∨ l.st = .run) ∧ 8 ≤ l.lostRun then done (toListen ax s) else done s

/-- EYE_LOW: the margin has stayed below 25 % for 1 s (R64). -/
def execEyeLow (t : Nat) (ax : AxisId) (s : State) : Host.Outcome State Fault Refusal :=
  let s := s.begin t
  let l := (s.ax ax).link
  match l.eyeLowSince with
  | some x =>
    if x + 1000000000 ≤ s.time.lt ∧ ¬ l.eyeRep then
      done ((s.raise fEyeLow ax.val).modLink ax (fun l => { l with eyeRep := true }))
    else done s
  | none => done s

/-- STO_MISMATCH: an STO input has disagreed with its output's command for more than 10 ms (R100). -/
def execStoMismatch (t : Nat) (ax : AxisId) (s : State) : Host.Outcome State Fault Refusal :=
  let s := s.begin t
  let l := (s.ax ax).link
  let over10 := l.stoSince.any (fun o => match o with | some x => decide (x + 10000000 < s.time.lt) | none => false)
  if over10 ∧ ¬ l.stoRep then
    done ((s.raise fStoMismatch ax.val).modLink ax (fun l => { l with stoRep := true }))
  else done s

/-- TRIP_CLEAR_TIMEOUT: 16 frames sent and TRIP still set (R126). -/
def execTripClearTimeout (t : Nat) (ax : AxisId) (s : State) : Host.Outcome State Fault Refusal :=
  let s := s.begin t
  let l := (s.ax ax).link
  match l.up with
  | some u => if u.trip then done (endTripClearIf (fun c => decide (16 ≤ c.framesSent)) ax stTimeout s) else done s
  | none => done s

/-- The send of one axis's frame at its stamp (R73, R86); TRIP_CLEAR frames count (R126). -/
def sendFrame (a : AxisId) (stamp : Nat) (s : State) : State :=
  let x := s.ax a
  if x.link.st = .run ∧ x.dn.built then
    let d := s.ftFine8 stamp
    let ts := s.cyc.start + s.cyc.per
    let l := followDelay x.link
    let f := { x.dn with type := 0x11, sideAddr := l.idRot }
    let bytes := dnBytes f l.seq.toNat (sampleOfs ts d l.dUse) (upOfs l.dUse) (4 * s.cyc.per)
    let tc := l.tripClear.map (fun c => if c.inFrame then { c with framesSent := c.framesSent + 1, inFrame := false } else c)
    let s1 := s.modAxis a (fun x =>
      { x with
        torque := f.enable
        dn := { f with built := false }
        link := { l with expect := l.seq, expType := 0x91, seq := l.seq + 1, dStamp := some d, dnRaw := bytes, idRot := (l.idRot + 1) % 13,
                         tripClear := tc } })
    { s1 with out := { s1.out with link := s1.out.link ++ [(a.val, burstGroups bytes)] } }
  else s

/-- AXIS_ENABLE completes once every named axis's first frame with ENABLE = 1 has left (R183, R438). -/
def enablesLeft (s : State) : State :=
  let ready := fun (p : PendEnable) => p.effective && (maskAxes p.mask).all (fun a => (s.ax a).torque)
  let fin := s.cyc.pendEnable.filter ready
  let s1 := { s with cyc := { s.cyc with pendEnable := s.cyc.pendEnable.filter (fun p => ! ready p) } }
  fin.foldl (fun s p => s.finish p.req { status := stOk }) s1

end Sys2Proof.Machine
end

