-- ==== Sys2Proof/Machine/Flags.lean ====
section
/-! DEFINITION. Status words, flag words and trace nodes of axes and module, as the host and custom blocks read them. -/

namespace Sys2Proof.Machine

/-- Estimates as the host reads them: nominal while `ax.cur.adapt` is OFF (R148, R155), in mOhm, nH, nH and uWb. -/
def idReport (s : State) (a : AxisId) : List Nat :=
  let e := if s.pa pAxCurAdapt a = 0 then s.nominal a else (s.ax a).cur.id.est
  let r := fun (i k : Nat) => (satU 32 (ratHalfUp (e.getD i 0 * 10 ^ k))).toNat
  [r 0 3, r 1 9, r 2 9, r 3 6]

/-- J_est as the host reads it (R173). -/
def inertiaReport (s : State) (a : AxisId) : Nat :=
  (satU 32 (ratHalfUp (if s.pa pAxCurAdapt a = 0 then s.jNom a else (s.ax a).vel.jEst))).toNat

/-- `cur.flags` of an axis (R157). -/
def axisCurFlags (x : Axis) : Nat := curFlags x.cur x.mod.vlim x.mod.pulseClamp x.mod.pulseDrop

/-- Trace nodes of the feedback stage (R213). -/
def fbNode (s : State) (a : AxisId) (x : Axis) (n : Nat) : Int :=
  let f := x.fb
  match n with
  | 0x00 => f.sinRaw
  | 0x01 => f.cosRaw
  | 0x02 => f.s1
  | 0x03 => f.c2
  | 0x04 => f.ampl
  | 0x05 => f.fine
  | 0x06 => f.n
  | 0x07 => f.x
  | 0x08 => f.pRaw
  | 0x09 => f.pRef
  | 0x0A => f.hall
  | 0x0B => f.thetaE
  | 0x0C => f.aC
  | 0x0D => f.pI
  | 0x0E => fbFlags s a f
  | _ => 0

/-- Trace nodes of the current stage, the steppers and the identification (R156). -/
def curNode (s : State) (a : AxisId) (x : Axis) (n : Nat) : Int :=
  let c := x.cur
  let id := idReport s a
  match n with
  | 0x10 => c.raw.getD 0 0
  | 0x11 => c.raw.getD 1 0
  | 0x12 => c.raw.getD 2 0
  | 0x13 => c.iZero
  | 0x14 => c.raw.getD 3 0
  | 0x15 => x.fb.thetaE
  | 0x16 => c.iD
  | 0x17 => c.iQ
  | 0x18 => c.refD
  | 0x19 => c.refQ
  | 0x1A => c.intD / 2 ^ 32
  | 0x1B => c.intQ / 2 ^ 32
  | 0x1C => c.vDRaw
  | 0x1D => c.vQRaw
  | 0x1E => c.vDFf
  | 0x1F => c.vQFf
  | 0x20 => c.bus
  | 0x21 => c.vAlpha
  | 0x22 => c.vBeta
  | 0x23 => axisCurFlags x
  | 0x24 => c.stp.chop.getD 0 0
  | 0x25 => c.stp.chop.getD 1 0
  | 0x26 => c.stp.chop.getD 2 0
  | 0x27 => c.stp.chop.getD 3 0
  | 0x28 => c.stp.offA
  | 0x29 => c.stp.offB
  | 0x2A => c.stp.load
  | 0x2B => c.stp.iAmp
  | 0x2C => id.getD 0 0
  | 0x2D => id.getD 1 0
  | 0x2E => id.getD 2 0
  | 0x2F => id.getD 3 0
  | 0x30 => idStatus c.id
  | _ => 0

/-- Residual that a blend adds in the last velocity cycle (R179). -/
def blendShare (v : Vel) : Int :=
  if v.blendN = 0 ∨ !v.blend then 0 else divHalfUp (v.rho * (v.blendN - (v.blendJ - 1) : Int)) v.blendN

/-- Trace nodes of the position and velocity stages (R186). -/
def velNode (s : State) (a : AxisId) (x : Axis) (n : Nat) : Int :=
  let v := x.vel
  match n with
  | 0x38 => x.pSet
  | 0x39 => x.fb.pFb
  | 0x3A => v.eP
  | 0x3B => v.vRef
  | 0x3C => x.vSet
  | 0x3D => v.vHat
  | 0x3E => x.fb.vFb
  | 0x3F => v.eV
  | 0x40 => v.aRef
  | 0x41 => v.intV / 2 ^ 32
  | 0x42 => v.u
  | 0x43 => v.uF
  | 0x44 => v.iFf
  | 0x45 => blendShare v
  | 0x46 => v.innov
  | 0x47 => v.dHat
  | 0x48 => inertiaReport s a
  | 0x49 => velFlags x
  | _ => 0

/-- Target that drives a profile: a position, or the velocity of a VEL entry, a velocity jog or a homing phase (R247). -/
def Prof.target (p : Prof) : Int :=
  match p.kind with
  | .move | .jog => p.goal
  | .vel | .jogv | .home => p.vt
  | .ramp | .stop | .qstop => satS 64 (ratHalfUp p.plan.pEnd)
  | _ => p.sp.p

/-- Phase, jerk, target and peak speed of the move of an axis; for a member of a moving group those of the path, carried to the member by
its share of the path at the present point. Log 245 (DEDUCED). -/
def moveNodes (s : State) (a : AxisId) (x : Axis) : Nat × Int × Int × Int :=
  let own := x.prof
  let grp := (s.groupOf a).filter (fun g => (s.grps.get g).moving)
  match grp with
  | some g =>
    let p := (s.grps.get g).prof
    let slots := s.grpSlots g
    let k := slots.findIdx (fun e => decide (e.1 = a))
    let w := (slots.getD k (a, 1)).2
    let (q, v, ac, ph, j) := p.plan.at_ p.plan.t
    let u := ((p.path.at_ q).getD k (0, 0, 0)).2.1
    let share := fun (z : Rat) => if w = 0 then 0 else satS 64 (ratHalfUp (z / w))
    (if v = 0 ∧ ac = 0 then 0 else ph, share (j * u), share (p.path.dst.getD k 0), share (p.plan.vPeak * u))
  | none =>
    let (_, _, _, ph, j) := own.plan.at_ own.plan.t
    (if own.sp.v = 0 ∧ own.sp.a = 0 then 0 else ph, satS 64 (ratHalfUp j), own.target, satS 64 (ratHalfUp own.plan.vPeak))

/-- Trace nodes of the profile engine and of gears (R247, R301). -/
def profNode (s : State) (a : AxisId) (x : Axis) (n : Nat) : Int :=
  let o := match s.groupOf a with
    | some g => (match (s.grps.get g).prof.ovl with | some o => o.left | none => 0)
    | none => 0
  match n with
  | 0x50 => axProfStatus s a
  | 0x51 => (moveNodes s a x).1
  | 0x52 => (moveNodes s a x).2.1
  | 0x53 => (moveNodes s a x).2.2.1
  | 0x54 => (moveNodes s a x).2.2.2
  | 0x55 => o
  | 0x58 => x.gear.m
  | 0x59 => if x.gear.st = 2 then x.gear.u else 0
  | 0x5A => gearStatus s x.gear
  | _ => 0

/-- A trace node of an axis; reserved nodes read 0 (R537). -/
def axisNode (s : State) (a : AxisId) (x : Axis) (n : Nat) : Int :=
  if n < 0x10 then fbNode s a x n else if n < 0x38 then curNode s a x n
  else if n < 0x50 then velNode s a x n else profNode s a x n

/-- `cyc.tile_status` (R335). -/
def tileStatus (s : State) : Nat :=
  let t := s.tiles
  let now := s.time.lt
  let rec_ := (t.transients.filter (fun e => decide (now < e.2 + 3600000000000))).length
  let l := fun (i : Nat) => t.last.getD i 0
  packBits (((List.finRange 5).map (fun i => (3, (t.tiles.get i).st))) ++
    [(1, 0), (3, t.checked), (1, b2n t.takeover.isSome), (4, min rec_ 15), (8, 0), (32, l 0), (16, l 1), (3, l 2), (3, l 3),
     (2, l 4), (5, l 5), (13, l 6)])

def Axis.sw (x : Axis) : SwitchSel → Switch
  | .pos => x.swPos
  | .neg => x.swNeg
  | .home => x.swHome

/-- Source code of a switch input (R248). -/
def swSource (s : State) (a : AxisId) : SwitchSel → Nat
  | .pos => s.pn pAxLimPosSrc a.val
  | .neg => s.pn pAxLimNegSrc a.val
  | .home => s.pn pAxHomeSwitchSrc a.val

/-- The input is active low (R268). -/
def swLow (s : State) (a : AxisId) (k : SwitchSel) : Bool :=
  bitOf (s.pn pAxLimPolarity a.val) (match k with | .pos => 0 | .neg => 1 | .home => 2)

/-- A digital input is masked by a record on it, or stale with the field link up silent (R467, R518). -/
def diForced (s : State) (src : Nat) : Bool :=
  decide (src < 16) && (s.unitMasked (0x90 + src) || (decide (src < 8) && s.fld.stale))

/-- The debounced state of a switch input reads active (R249-R251). -/
def swActive (s : State) (a : AxisId) (k : SwitchSel) : Bool :=
  let src := swSource s a k
  let w := (s.ax a).sw k
  decide (src ≠ 0xFF) && (w.chatter || diForced s src || (w.deb != swLow s a k))

/-- `ax.home.status` (R267). -/
def homeStatus (s : State) (a : AxisId) : Nat :=
  let x := s.ax a
  packBits [(4, x.home.phase), (1, b2n x.home.referenced), (1, b2n x.home.reversed), (1, b2n (swActive s a .pos)),
    (1, b2n (swActive s a .neg)), (1, b2n (swActive s a .home)), (1, b2n x.swPos.chatter), (1, b2n x.swNeg.chatter),
    (1, b2n x.swHome.chatter)]

/-- `ax.fb.latch0_result` and `ax.fb.latch1_result` (R265). -/
def Latch.result (l : Latch) : Nat :=
  packBits [(64, (wrapU 64 l.time).toNat), (64, (wrapU 64 l.pos).toNat), (64, (wrapU 64 l.tidePos).toNat), (16, l.count),
    (1, b2n l.rising), (1, b2n l.armed)]

/-- Highest level among the open records that name an axis (R417). -/
def axisLevel (s : State) (a : AxisId) : Option Nat :=
  let l := (s.openSlots.filter (fun i => decide ((s.frec i).scope = a.val))).map (fun i => (s.frec i).level)
  if l.isEmpty then none else some (l.foldl max 0)

/-- AXIS_STATE (R417). -/
def axisState (s : State) (a : AxisId) : Nat :=
  let x := s.ax a
  let lv := axisLevel s a
  let trip := match x.link.up with | some u => u.trip | none => false
  packBits [(4, x.mode), (1, b2n x.enabled), (1, b2n x.torque), (3, x.link.st.code), (1, b2n x.home.referenced),
    (1, b2n lv.isSome), (3, lv.getD 0), (1, b2n (x.vel.blend || x.cur.stp.blend)),
    (1, b2n x.mod.pairSplit), (1, b2n x.mod.pairBad), (1, b2n trip), (1, b2n x.pendSw.isSome),
    (4, axProfStatus s a % 16), (3, x.gear.st)]

/-- FLT_LEVEL: per class the highest level of its open records, 0xF for none (R416). -/
def fltLevels (s : State) : Nat :=
  packBits ((List.range 16).map (fun c =>
    let l := (s.openSlots.filter (fun i => decide ((s.frec i).cls = c))).map (fun i => (s.frec i).level)
    (4, if l.isEmpty then 0xF else l.foldl max 0)))

/-- An APPLY awaits its boundary (R418). -/
def State.applyPending (s : State) : Bool := s.prm.pend.isSome

/-- MOD_STATE (R418). -/
def modState (s : State) : Nat :=
  packBits [(1, b2n s.cyc.cycling), (1, b2n s.fab.ftValid), (1, b2n s.ntValid), (1, b2n s.flt.errLow),
    (1, b2n s.applyPending), (3, s.life.lc), (3, s.fab.st)]

end Sys2Proof.Machine
end

