-- ==== Sys2Proof/Machine/Homing.lean ====
section
/-! DEFINITION. Switch inputs, homing and the arming of latches (09_homing_latching.md). -/

namespace Sys2Proof.Machine

def Axis.setSw (x : Axis) (k : SwitchSel) (w : Switch) : Axis :=
  match k with
  | .pos => { x with swPos := w }
  | .neg => { x with swNeg := w }
  | .home => { x with swHome := w }

def State.modSw (s : State) (a : AxisId) (k : SwitchSel) (f : Switch → Switch) : State :=
  s.modAxis a (fun x => x.setSw k (f (x.sw k)))

/-- The three switch inputs of an axis. -/
def allSw : List SwitchSel := [.pos, .neg, .home]

/-- One evaluation of a source: its raw level, and the instant of an edge that it shows; instants are FT in quarter ns (R248, R250).
Log 197 (DEDUCED). -/
def Switch.eval (w : Switch) (level : Bool) (edge : Option Int) (now : Int) : Switch :=
  if w.raw = level ∧ edge.isNone then { w with evalAt := now, again := true }
  else { w with raw := level, tE := edge.getD now, evalAt := now, again := false, pend := decide (level ≠ w.deb), edgePend := true }

/-- A digital input is evaluated for every switch that it feeds (R248). -/
def evalDi (src : Nat) (level : Bool) (edge : Option Int) (s : State) : State :=
  forAxes allAxes (fun a s => allSw.foldl (fun s k =>
    if swSource s a k = src then s.modSw a k (fun w => w.eval level (edge.map (fun e => 4 * e)) (4 * s.ft)) else s) s) s

/-- sigma of R253. -/
def homeSigma (s : State) (a : AxisId) : Int := if s.pa pAxHomeDir a = 1 then -1 else 1

/-- The limit in a direction. -/
def limitOf (d : Int) : SwitchSel := if 0 < d then .pos else .neg

/-- Target input of SEARCH and BACK (R254). -/
def homeTarget (s : State) (a : AxisId) : SwitchSel :=
  if s.pa pAxHomeMethod a = 0 then limitOf (homeSigma s a) else .home

/-- A limit becomes active during homing (R255): `d` is the direction that it guards. -/
def homeLimit (a : AxisId) (d : Int) (s : State) : State :=
  let h := (s.ax a).home
  let sg := homeSigma s a
  let m := s.pa pAxHomeMethod a
  let abort := s.raise fHomeLimit a.val
  if h.phase = 0 then s
  else if m = 0 then (if d = sg then s else abort)
  else if h.phase = 1 then
    if h.reversed then abort
    else if d = sg then
      homeStop a 1 (s.modAxis a (fun x => { x with home := { x.home with reversed := true, dir := -x.home.dir } }))
    else s
  else if h.phase = 2 then (if d = sg then s else abort)
  else if h.phase ≤ 5 then abort
  else s

/-- The reference edge of a phase is the stamp of a switch's accepted change (R254, R257). Log 200 (DEDUCED). -/
def homeRef (a : AxisId) (k : SwitchSel) (s : State) : State :=
  s.modAxis a (fun x =>
    let w := x.sw k
    { x with home := { x.home with ref := if w.edgePend then none else some w.stampBase, refWait := w.edgePend } })

/-- Switch input on whose change a homing phase ends, and the level that it takes there (R254). -/
def homeInput (s : State) (a : AxisId) : Nat → Option (SwitchSel × Bool)
  | 1 => some (homeTarget s a, true)
  | 2 => some (homeTarget s a, false)
  | 3 => some (.home, true)
  | _ => none

/-- The change of this phase's input is the reference edge: BACK in method 0, APPROACH in method 1 (R254). -/
def homeIsRef (s : State) (a : AxisId) (phase : Nat) : Bool :=
  let m := s.pa pAxHomeMethod a
  (decide (m = 0) && phase == 2) || (decide (m = 1) && phase == 3)

/-- The debounced state of a switch changed while a homing phase runs: the phase ends on its input becoming so within it (R254).
Log 246 (DEDUCED). -/
def homeSees (a : AxisId) (k : SwitchSel) (active : Bool) (s : State) : State :=
  let h := (s.ax a).home
  if homeInput s a h.phase = some (k, active) ∧ ¬ h.met ∧ (h.next = none ∨ h.next = some h.phase) then
    let s1 := s.modAxis a (fun x => { x with home := { x.home with met := true } })
    if homeIsRef s a h.phase then homeRef a k s1 else s1
  else s

/-- What follows in homing where the debounced state of a switch may have changed: `was` is whether it read active before. -/
def swBecame (a : AxisId) (k : SwitchSel) (was : Bool) (s : State) : State :=
  let now := swActive s a k
  if now = was then s
  else
    let s1 := homeSees a k now s
    if ¬ now then s1
    else match k with
      | .pos => homeLimit a 1 s1
      | .neg => homeLimit a (-1) s1
      | .home => s1

/-- Accepted changes of the sliding window that ends with one at LT `now` (R251). Log 247 (DEDUCED). -/
def Switch.counted (w : Switch) (win now : Nat) : List Nat := w.changes.filter (fun x => decide (now < x + win)) ++ [now]

/-- So many accepted changes put the input into CHATTER (R251). -/
def chatters (s : State) (a : AxisId) (l : List Nat) : Bool :=
  let cnt := s.pa pAxLimChatterCount a
  decide (cnt ≠ 0 ∧ cnt < l.length)

/-- The raw level is taken as the debounced state, with the stamp of the last raw edge (R250, R251). -/
def Switch.take (w : Switch) (l : List Nat) (chat : Bool) : Switch :=
  { w with deb := w.raw, pend := false, stamp := w.tE, stampBase := w.edgeBase, changes := l, chatter := chat }

/-- The debounce time has passed at an evaluation that shows the raw level still (R250). -/
def Switch.due (w : Switch) (us : Int) : Bool :=
  w.pend && decide (w.raw ≠ w.deb ∧ w.tE + us * 4000 ≤ w.evalAt) && (decide (us ≠ 0) || w.again)

/-- LIMIT_DEBOUNCE: the raw level has been stable for the debounce time and is taken (R250, R251, R255). Log 199 (DEDUCED). -/
def execLimitDebounce (t : Nat) (ax : AxisId) (sw : SwitchSel) (s : State) : Host.Outcome State Fault Refusal :=
  let s := s.begin t
  let w := (s.ax ax).sw sw
  let now := s.time.lt
  if w.due (s.pa pAxLimDebounceUs ax) ∧ ¬ w.chatter ∧ swSource s ax sw ≠ 0xFF then
    let was := swActive s ax sw
    let l := w.counted (s.pn pAxLimChatterWindowMs ax.val * 1000000) now
    let chat := chatters s ax l
    let s1 := s.modSw ax sw (fun w => w.take l chat)
    done (swBecame ax sw was (if chat then s1.raise fLimChatter ax.val else s1))
  else done s

/-- The condition of LIM_CHATTER ends with the last switch input of the axis in CHATTER. -/
def endChatter (a : AxisId) (s : State) : State :=
  if allSw.any (fun k => ((s.ax a).sw k).chatter) then s else s.clearCond fLimChatter a.val

/-- CHATTER_END: no raw edge for `ax.lim.stable_ms`. Where the input then reads inactive, that is an accepted change and counts: too many
in the window put it into CHATTER again (R251). Log 247 (DEDUCED). -/
def execChatterEnd (t : Nat) (ax : AxisId) (sw : SwitchSel) (s : State) : Host.Outcome State Fault Refusal :=
  let s := s.begin t
  let w := (s.ax ax).sw sw
  if w.chatter ∧ max w.tE w.chatFrom + s.pa pAxLimStableMs ax * 4000000 ≤ 4 * s.ft then
    let was := swActive s ax sw
    let s1 := endChatter ax (s.modSw ax sw (fun w => w.take w.changes false))
    if swActive s1 ax sw then done s1
    else
      let l := w.counted (s.pn pAxLimChatterWindowMs ax.val * 1000000) s.time.lt
      if chatters s ax l then
        done ((s1.modSw ax sw (fun w => { w with changes := l, chatter := true, chatFrom := 4 * s.ft })).raise fLimChatter ax.val)
      else done (swBecame ax sw was (s1.modSw ax sw (fun w => { w with changes := l })))
  else done s

/-- Phase that follows one which a switch input or the index edge ends (R254). -/
def homeAfter (s : State) (a : AxisId) (phase : Nat) : Nat :=
  if phase = 4 ∨ homeIsRef s a phase then 6 else phase + 1

/-- HOME_PHASE_END: the condition on which the running phase ends holds (R254, R255). -/
def execHomePhaseEnd (t : Nat) (ax : AxisId) (s : State) : Host.Outcome State Fault Refusal :=
  let s := s.begin t
  let h := (s.ax ax).home
  if h.next.isSome then done s
  else match homeInput s ax h.phase with
    | some (k, _) =>
      if ¬ h.met then done s
      else if ((s.ax ax).sw k).chatter then done (s.raise fHomeChatter ax.val)
      else done (homeStop ax (homeAfter s ax h.phase) s)
    | none => if h.phase = 4 ∧ h.ref.isSome then done (homeStop ax 6 s) else done s

/-- SET: the reference position becomes `ax.home.offset` (R257, R259). The request stays until HOME completes. -/
def homeApply (a : AxisId) (s : State) : State :=
  let x := s.ax a
  let base := match x.home.ref with
    | some r => r
    | none => x.fb.pFb - x.fb.pRef
  let d := s.pa pAxHomeOffset a - (base + x.fb.pRef)
  shiftGroup a d (s.modAxis a (fun x =>
    let y := shiftPos d x
    { y with home := { y.home with phase := 0, referenced := true, ref := none, refWait := false, next := none, pressSince := none } }))

/-- A HOME whose SET has taken place completes with OK (R257). -/
def homeDone (a : AxisId) (s : State) : State :=
  let h := (s.ax a).home
  if h.phase = 0 ∧ h.req.isSome then
    (s.finish? h.req (okRsp [])).modAxis a (fun x => { x with home := { x.home with req := none } })
  else s

/-- SET outside the pass: the reference is applied and HOME completes. -/
def homeSet (a : AxisId) (s : State) : State := homeDone a (homeApply a s)

/-- A plan at rest where the set-point is. -/
def restPlan (p : Int) : Plan := { p0 := p, pEnd := p }

/-- HOME_PRESSED: ILIM and standstill have held for `ax.home.press_ms` (R256, R257). -/
def execHomePressed (t : Nat) (ax : AxisId) (s : State) : Host.Outcome State Fault Refusal :=
  let s := s.begin t
  let x := s.ax ax
  match x.home.pressSince with
  | some since =>
    if x.home.phase = 5 ∧ x.home.next.isNone ∧ since + s.pn pAxHomePressMs ax.val * 1000000 ≤ s.time.lt then
      let p := x.fb.pFb
      done (homeSet ax (s.modAxis ax (fun x =>
        { x with
          home := { x.home with phase := 6, ref := some (p - x.fb.pRef) }
          vel := velClear x.vel, pSet := p, vSet := 0, aSet := 0
          spEven := { x.spEven with p := p, v := 0, a := 0 }, spOdd := { x.spOdd with p := p, v := 0, a := 0 }
          prof := { x.prof with kind := .stop, plan := restPlan p, vt := 0, sp := ⟨p, 0, 0, true⟩ } })))
    else done s
  | none => done s

/-- The axis is at rest on its own: no motion of its own or of its group, and no stop asked for. -/
def atRest (s : State) (a : AxisId) : Bool :=
  let p := (s.ax a).prof
  let grp := match s.groupOf a with | some g => (s.grps.get g).moving | none => false
  !grp && decide (p.stopReq = 0 ∧ p.sp.v = 0 ∧ p.sp.a = 0) &&
    (match p.kind with | .move | .ramp | .dwell | .jog | .stop | .qstop => p.plan.ended | .vel => p.act.isNone | _ => true)

/-- The first phase of a method (R254). Log 198 (DEDUCED). -/
def homeFirst (s : State) (a : AxisId) : Nat :=
  let m := s.pa pAxHomeMethod a
  if m ≤ 2 then (if swActive s a (homeTarget s a) then 2 else 1)
  else if m = 3 then 4 else if m = 4 then 5 else 6

/-- Acceptance of HOME (R253). -/
def homeStart (a : AxisId) (q : ReqRef) (s : State) : State :=
  let first := homeFirst s a
  let on := (s.ax a).enabled
  s.modAxis a (fun x =>
    { x with
      home := { phase := first, req := some q, dir := homeSigma s a, next := if first = 6 then none else some first,
                last := x.fb.pFb, since := s.ft }
      prof := if on then
          { x.prof with kind := if first = 6 then .stop else .home, plan := restPlan x.prof.sp.p, act := none, vt := 0,
                        jog := none }
        else x.prof })

/-- HOME (R253, R438). -/
def execHome (t : Nat) (h : Hdr) (axis : Nat) (s : State) : Host.Outcome State Fault Refusal :=
  done (runOp 0x0220 1 false false h (toLE 1 axis) (s.begin t)
    (fun s => match axisOf? axis with
      | none => [(true, stBadId, 0)]
      | some a =>
        let x := s.ax a
        let ready := x.enabled && decide (x.mode = 2) && atRest s a && x.prof.queue.isEmpty && x.prof.repl.isNone
        let five := !x.enabled && decide (s.pa pAxHomeMethod a = 5)
        [(x.home.req.isSome, stBusy, 0), (s.scrap, stLifecycle, 0), (!ready && !five, stState, 0)])
    (fun q s => match axisOf? axis with
      | some a => ({ status := stPending }, homeStart a q s)
      | none => ({ status := stBadId }, s)))

/-- Configuration word of a latch channel (R260). -/
def latchCfg (s : State) (a : AxisId) (ch : Nat) : Nat := s.pn (pAxFbLatch0Cfg + ch) a.val

def Axis.latch (x : Axis) (ch : Nat) : Latch := if ch = 0 then x.latch0 else x.latch1

def Axis.setLatch (x : Axis) (ch : Nat) (l : Latch) : Axis := if ch = 0 then { x with latch0 := l } else { x with latch1 := l }

/-- The LATCH events of the captures of an axis (R264, R430). -/
def latchEvents (a : AxisId) (s : State) : State :=
  [0, 1].foldl (fun s ch =>
    let l := (s.ax a).latch ch
    if l.ev then
      (s.postEvent 0x8004 0 a.val (toLE 1 ch ++ toLE 3 0 ++ toLE 32 l.result)).modAxis a (fun x => x.setLatch ch { x.latch ch with ev := false })
    else s) s

/-- Sample instant of the cycle after the one whose downstream frame is the first one built from now on (R261, R610). -/
def armFrom (s : State) : Int :=
  let (n, k) := s.nextCycle s.cyc.n s.cyc.k
  if s.cyc.opened ∨ s.inGap then let (n2, k2) := s.nextCycle n k; s.cycleStartFt n2 k2 else s.cycleStartFt n k

/-- Arm one channel (R261). -/
def latchArm1 (a : AxisId) (ch : Nat) (w0 w1 : Int) (s : State) : State :=
  s.modAxis a (fun x => x.setLatch ch
    { (x.latch ch) with armed := true, hold := s.inGap, winS := w0, winE := w1, from_ := armFrom s, count := 0 })

/-- The payload of LATCH_ARM (R438). -/
def latchBytes (l : LatchReq) : List Byte :=
  toLE 1 l.axis ++ toLE 1 l.mask ++ toLE 6 0 ++ toLE 8 l.win0Start ++ toLE 8 l.win0End ++
    toLE 8 l.win1Start ++ toLE 8 l.win1End

/-- LATCH_ARM (R261, R438). -/
def execLatchArm (t : Nat) (h : Hdr) (l : LatchReq) (s : State) : Host.Outcome State Fault Refusal :=
  done (runOp 0x0230 40 false false h (latchBytes l) (s.begin t)
    (fun s => match axisOf? l.axis with
      | none => [(true, stBadId, 0)]
      | some a =>
        let win := fun (ch : Nat) => decide (fieldOf (latchCfg s a ch) 11 2 ≠ 0) && bitOf l.mask ch
        [(decide (3 < l.mask), stBadId, 1), (s.scrap, stLifecycle, 0),
         (win 0 && decide (l.win0End ≤ l.win0Start), stRange, 8), (win 1 && decide (l.win1End ≤ l.win1Start), stRange, 24),
         (decide ((s.ax a).link.st ≠ .run), stState, 0)])
    (fun _ s => match axisOf? l.axis with
      | none => ({ status := stBadId }, s)
      | some a =>
        if l.mask = 0 then
          (okRsp [], s.modAxis a (fun x => { x with
            latch0 := { x.latch0 with armed := false }, latch1 := { x.latch1 with armed := false } }))
        else
          let s1 := if bitOf l.mask 0 then latchArm1 a 0 l.win0Start l.win0End s else s
          (okRsp [], if bitOf l.mask 1 then latchArm1 a 1 l.win1Start l.win1End s1 else s1)))

end Sys2Proof.Machine
end

