-- ==== Sys2Proof/Machine/SafeIO.lean ====
section
/-! DEFINITION. Machine safety: the two paths, their inputs, test pulses, SS1, resets, readbacks, safe messages and the
configuration block (17_safety.md). -/

namespace Sys2Proof.Machine

/-! ### The configuration block (R491) -/

/-- A field of the block in force; 0 when none is in force. -/
def State.cfgU (s : State) (o n : Nat) : Nat := getU (s.safe.config.getD []) o n

/-- CONFIG_CRC of a block, and `safe.config_crc` (0 for none). -/
def blockCrc (b : List Byte) : Nat := getU b 252 4
def State.configCrc (s : State) : Nat := match s.safe.config with | some b => blockCrc b | none => 0

def State.resetIn (s : State) : Nat := if s.safe.config.isSome then s.cfgU 2 1 else 0xFF
def State.safeSubs (s : State) : Nat := min 8 (s.cfgU 3 1)
def State.pairFn (s : State) (p : Nat) : Nat := s.cfgU (32 + 16 * p) 1
def State.pairRestart (s : State) (p : Nat) : Nat := s.cfgU (33 + 16 * p) 1
def State.pairCat (s : State) (p : Nat) : Nat := s.cfgU (34 + 16 * p) 1
def State.pairDisc (s : State) (p : Nat) : Nat := s.cfgU (36 + 16 * p) 2
def State.pairSs1 (s : State) (p : Nat) : Nat := s.cfgU (38 + 16 * p) 2

/-- TP_PERIOD_MS and MSG_WATCHDOG_MS in force, or their defaults (R463). -/
def State.safeTpMs (s : State) : Nat := if s.safe.config.isSome then s.cfgU 4 2 else 20
def State.safeWdMs (s : State) : Nat := if s.safe.config.isSome then s.cfgU 6 2 else 20

/-- The longest SS1_DELAY_MS in the block in force, of what uses one (R502). Log 268 (DEDUCED). -/
def State.longestSs1 (s : State) : Nat :=
  let ps := (List.range 4).map (fun p => if s.pairFn p ≠ 0 ∧ s.pairCat p = 1 then s.pairSs1 p else 0)
  let ss := (List.range s.safeSubs).map (fun i => if s.cfgU (98 + 16 * i) 1 = 1 then s.cfgU (108 + 16 * i) 2 else 0)
  (ps ++ ss).foldl max 0

/-! ### Paths -/

def State.spath (s : State) : SPath → SPathSt
  | .proc => s.safe.proc
  | .logic => s.safe.logic

def State.modPath (s : State) (p : SPath) (f : SPathSt → SPathSt) : State :=
  match p with
  | .proc => { s with safe := { s.safe with proc := f s.safe.proc } }
  | .logic => { s with safe := { s.safe with logic := f s.safe.logic } }

/-- Demand states of inputs a and b of a pair from the levels read (R495, R498). -/
def pairInputs (fn filt p : Nat) : Bool × Bool :=
  let a := bitOf filt (2 * p)
  let b := bitOf filt (2 * p + 1)
  (!a, if fn = 3 ∨ fn = 4 then b else !b)

/-- One pair from the levels read (R497). Log 153 (DEDUCED). -/
def pairStep (fn lt filt p : Nat) (x : SPair) : SPair :=
  let (da, db) := pairInputs fn filt p
  let d := x.discDone && !(da && db)
  { x with discSince := if da ≠ db then some (x.discSince.getD lt) else none
           discDone := d, demand := decide (fn ≠ 0) && (da || db || d) }

/-- The two pairs of a two-hand control: run only when both buttons are actuated within 500 ms after both were released
(R498). The state stands in the first pair. -/
def handStep (lt : Nat) (x y : SPair) : SPair × SPair :=
  let both := x.demand && y.demand
  let run := !x.demand && !y.demand
  let (h, at_) : Nat × Option Nat :=
    if both then (0, none)
    else if run then
      (if x.hand = 0 then (match x.handAt with | some f => if lt < f + 500000000 then 1 else 2 | none => 1) else x.hand, none)
    else if x.hand = 0 then (0, some (x.handAt.getD lt))
    else (2, none)
  ({ x with hand := h, handAt := at_, demand := decide (h ≠ 1) }, { y with demand := decide (h ≠ 1) })

/-- All pairs of a path. -/
def pathPairs (s : State) (q : SPathSt) : SPathSt :=
  let lt := s.time.lt
  let q1 := (List.finRange 4).foldl
    (fun (q : SPathSt) p => { q with pairs := q.pairs.set p.val (pairStep (s.pairFn p.val) lt q.filt p.val (q.pairs.get p)) p.isLt }) q
  [((0 : Fin 4), (1 : Fin 4)), ((2 : Fin 4), (3 : Fin 4))].foldl
    (fun (q : SPathSt) pr =>
      if s.pairFn pr.1.val = 4 then
        let (x, y) := handStep lt (q.pairs.get pr.1) (q.pairs.get pr.2)
        { q with pairs := (q.pairs.set pr.1.val x pr.1.isLt).set pr.2.val y pr.2.isLt }
      else q) q1

/-- Subscriptions that demand on a path, as a mask (R508, R27). -/
def State.subMask (s : State) : SPath → Nat
  | .proc => natSum ((List.finRange 8).map (fun i => if i.val < s.safeSubs ∧ (s.safe.subs.get i).demand then 2 ^ i.val else 0))
  | .logic => s.safe.logicSubs % 2 ^ s.safeSubs

/-- The demands of a path: whether each stands, its stop category, its SS1 delay and RESTART; pairs first. Two-hand pairs
restart automatically (R498). -/
def demands (s : State) (q : SPathSt) (subs : Nat) : List (Bool × Nat × Nat × Bool × Bool) :=
  (List.finRange 4).map (fun p => ((q.pairs.get p).demand, s.pairCat p.val, s.pairSs1 p.val,
      decide (s.pairRestart p.val = 1 ∧ s.pairFn p.val ≠ 4), true)) ++
  (List.range s.safeSubs).map (fun i => (bitOf subs i, s.cfgU (98 + 16 * i) 1, s.cfgU (108 + 16 * i) 2,
      decide (s.cfgU (97 + 16 * i) 1 = 1), false))

/-- A level 5 reaction as both paths see it (R501, R503). -/
def State.level5Seen (s : State) : Bool := s.safe.level5 || s.fld.l5Held

/-- What holds a path open whatever its inputs: no block, self-test not passed, a block being written, CONFIG_BAD, SCRAP,
and for the logic path another path's CRC or the silence of the field link (R27, R490, R493, R494, R503, R562). -/
def pathHold (s : State) (p : SPath) (q : SPathSt) : Bool :=
  s.safe.config.isNone || !q.tested || s.safe.writing.isSome || s.safe.badConfig || s.scrap || s.level5Seen ||
    (match p with
     | .proc => !s.domOn .safe
     | .logic => s.safe.crcHold || s.fld.silentHeld || !s.domOn .field)

/-- One path decides (R489, R490, R499, R501). `old` are its demands before the inputs changed. -/
def pathDecide (s : State) (p : SPath) (old : List (Bool × Nat × Nat × Bool × Bool)) (q0 : SPathSt) : SPathSt :=
  let now := demands s q0 (s.subMask p)
  let hold := pathHold s p q0
  let stands := now.filter (fun d => d.1)
  let fresh := ((now.zip (old ++ List.replicate now.length (false, 0, 0, false, false))).filter (fun e => e.1.1 && !e.2.1)).map (·.1)
  let manual := stands.any (fun d => d.2.2.2.1)
  let l5 := s.level5Seen
  let q := { q0 with
    resetMade := q0.resetMade && !manual && !l5
    waitLocal := q0.waitLocal || l5 || stands.any (fun d => d.2.2.2.1 && d.2.2.2.2)
    seen := if hold ∨ !stands.isEmpty then s.time.lt else q0.seen }
  if hold ∨ stands.any (fun d => decide (d.2.1 = 0)) then { q with closed := false, ss1 := none }
  else if q.closed then
    let ends := (q.ss1.toList ++ (fresh.map (fun d => (s.time.lt, d.2.2.1))))
    { q with ss1 := ends.foldl (fun acc e => match acc with
        | none => some e
        | some f => if e.1 + e.2 * 1000000 < f.1 + f.2 * 1000000 then some e else some f) none }
  else if stands.isEmpty ∧ (s.resetIn = 0xFF ∨ q.resetMade) ∧ ¬ s.safe.crcHold then { q with closed := true, ss1 := none }
  else { q with ss1 := none }

/-- QUICKSTOP on every axis and group of the module (R500). -/
def quickstopAll (reason : Nat) (s : State) : State :=
  let s1 := (List.finRange 8).foldl
    (fun s g => if (s.grps.get g).moving then stopGroup g 2 reason none s else dropGrpQueue g reason s) s
  forAxes allAxes (fun a s => stopAxis a 2 reason none s) s1

/-- The outputs follow the paths, SOA only while its enable channel toggles (R27), and the supervisory processor reacts to SS1 and to an opening (R500). -/
def safeFollow (old : SafeState) (s : State) : State :=
  let a := s.safe.proc.closed && !s.safe.stuck
  let b := s.safe.logic.closed
  let rd := fun (changed : Bool) (i : Nat) (l : List (Option Nat)) => if changed then none else l.getD i none
  let ca := decide (old.proc.closed ≠ s.safe.proc.closed)
  let cb := decide (old.logic.closed ≠ b)
  let l := s.safe.readDiff
  let s1 := { s with safe := { s.safe with
    soa := a, sob := b, toggling := a, readDiff := [rd ca 0 l, rd ca 1 l, rd cb 2 l, rd cb 3 l] } }
  let s2 := if old.proc.ss1.isNone ∧ s.safe.proc.ss1.isSome then quickstopAll 0 s1 else s1
  if (old.soa && !a) || (old.sob && !b) then forAxes allAxes (fun x s => axisOff x 3 s) s2 else s2

/-- Both paths evaluate their inputs and decide. -/
def safeEval (s : State) : State :=
  let old := s.safe
  let step1 := fun (p : SPath) (s : State) =>
    s.modPath p (fun q => pathDecide s p (demands s q (s.subMask p)) (pathPairs s q))
  safeFollow old (step1 .logic (step1 .proc s))

/-- The same when subscriptions or their relay changed: `before` is the state whose demands were in force. -/
def safeEvalFrom (before s : State) : State :=
  let step1 := fun (p : SPath) (s : State) =>
    s.modPath p (fun q => pathDecide s p (demands before (before.spath p) (before.subMask p)) (pathPairs s q))
  safeFollow before.safe (step1 .logic (step1 .proc s))

/-! ### Inputs and resets -/

/-- Levels that arrive at a path; a broken wire reads low (R495). -/
def pathRaw (p : SPath) (levels : Nat) (s : State) : State :=
  let lt := s.time.lt
  s.modPath p (fun q =>
    { q with raw := levels % 256
             rawSince := (List.range 8).map (fun i =>
               if bitOf levels i = bitOf q.raw i then q.rawSince.getD i 0 else lt) })

/-- No pair in demand, no subscription demands, and no level 5 holds (R501). Log 154 (DEDUCED). -/
def resetConds (s : State) (p : SPath) : Bool :=
  let q := s.spath p
  (List.finRange 4).all (fun i => !(q.pairs.get i).demand) && decide (s.subMask p = 0) && !s.level5Seen

/-- The level that an input reads as in its demand state (R495, R498): the reset input's is low. -/
def demandLevel (s : State) (i : Nat) : Bool :=
  let fn := s.pairFn (i / 2)
  decide (i % 2 = 1 ∧ (fn = 3 ∨ fn = 4))

/-- SAFE_INPUT_FILTER: a level has been held past 1.0 ms (R495); more than 1.0 ms for the demand state of a pair's input. A press
of the reset input begins with its high level (R501). -/
def execSafeInputFilter (t : Nat) (path : SPath) (input : Fin 8) (level : Bool) (s : State) :
    Host.Outcome State Fault Refusal :=
  let s := s.begin t
  let q := s.spath path
  let i := input.val
  let since := q.rawSince.getD i 0
  let isReset := decide (s.resetIn = i)
  let long := if level = demandLevel s i ∧ ¬ isReset then decide (since + 1000000 < s.time.lt)
    else decide (since + 1000000 ≤ s.time.lt)
  if bitOf q.raw i = level ∧ bitOf q.filt i ≠ level ∧ long then
    let s1 := s.modPath path (fun q => { q with filt := Nat.xor q.filt (2 ^ i) })
    let s2 := if isReset ∧ level then
        s1.modPath path (fun q => { q with resetSince := some since, resetValid := resetConds s path })
      else s1
    done (safeEval s2)
  else done s

/-- RESET_RELEASE: after 1.0 ms of low level a press of 50 ms to 5 s makes the path's reset (R501, R511). -/
def execResetRelease (t : Nat) (path : SPath) (s : State) : Host.Outcome State Fault Refusal :=
  let s := s.begin t
  let q := s.spath path
  let i := s.resetIn
  match q.resetSince with
  | none => done s
  | some x =>
    let low := q.rawSince.getD i 0
    if i < 8 ∧ ¬ bitOf q.raw i ∧ low + 1000000 ≤ s.time.lt then
      let s1 := s.modPath path (fun q =>
        { q with filt := if bitOf q.filt i then q.filt - 2 ^ i else q.filt, resetSince := none, resetValid := false })
      let s2 := safeEval s1
      let ok := q.resetValid && decide (x + 50000000 ≤ low ∧ low ≤ x + 5000000000) && resetConds s2 path
      if ok then done (safeEval (s2.modPath path (fun q => { q with resetMade := true, waitLocal := false }))) else done s2
    else done s

/-- DISCREPANCY: the other input has not followed within the discrepancy time (R497). -/
def execDiscrepancy (t : Nat) (path : SPath) (pair : Fin 4) (s : State) : Host.Outcome State Fault Refusal :=
  let s := s.begin t
  let x := (s.spath path).pairs.get pair
  match x.discSince with
  | some since =>
    if s.safe.config.isSome ∧ s.pairFn pair.val ≠ 0 ∧ ¬ x.discDone ∧ since + s.pairDisc pair.val * 1000000 ≤ s.time.lt then
      done (safeEval ((s.raise fDiscrepancy (0xB0 + pair.val)).modPath path
        (fun q => { q with pairs := q.pairs.set pair.val { x with discDone := true } pair.isLt })))
    else done s
  | none => done s

/-- SS1_TIMER_END: no earlier than 0.95 of the delay the path opens its output (R499). -/
def execSs1TimerEnd (t : Nat) (path : SPath) (s : State) : Host.Outcome State Fault Refusal :=
  let s := s.begin t
  match (s.spath path).ss1 with
  | some (start, ms) =>
    if start + ms * 950000 ≤ s.time.lt then
      let old := s.safe
      done (safeFollow old (s.modPath path (fun q => { q with closed := false, ss1 := none, seen := s.time.lt })))
    else done s
  | none => done s

/-! ### Test pulses (R496, R510) -/

/-- The check of one pair in a pulse: `none` where the path checks nothing. Log 155 (DEDUCED). -/
def pulseCheck (fn filt p tp readings : Nat) : Option Bool :=
  let a := bitOf filt (2 * p)
  let b := bitOf filt (2 * p + 1)
  let ra := bitOf readings (2 * p)
  let rb := bitOf readings (2 * p + 1)
  if fn = 3 then (if a then some (decide (ra = decide (tp = 1))) else none)
  else if fn = 1 ∨ fn = 2 ∨ fn = 4 then
    (if a ∧ b then some (decide (ra = decide (tp = 1)) && decide (rb = decide (tp = 0))) else none)
  else none

/-- A pair's failing periods: a period begins with the pulse of TP0; a failure in two in a row is a cross-short. -/
def pulsePair (tp : Nat) (c : Option Bool) (x : SPair) : SPair × Bool :=
  let bad := decide (c = some false)
  let prev := if tp = 0 then (if x.failNow then x.fails + 1 else 0) else x.fails
  let was := if tp = 0 then false else x.failNow
  ({ x with fails := prev, failNow := was || bad }, bad && !was && decide (prev = 1))

/-- Acknowledgement of CROSS_SHORT by two test periods with the contacts closed: `periods` counts pulses from TP0 on (R510). -/
def ackPulse (tp : Nat) (readings : Nat) (s : State) (k : SafeAck) : State :=
  let r := s.frec k.slot
  let p := r.unit - 0xB0
  if r.code ≠ fCrossShort ∨ k.periods % 2 ≠ tp then s
  else
    let ok := fun (q : SPathSt) => decide (pulseCheck (s.pairFn p) q.filt p tp readings = some true)
    let drop := fun (s : State) => { s with safe := { s.safe with acks := s.safe.acks.filter (fun e => decide (e.slot ≠ k.slot)) } }
    if ok s.safe.proc && ok s.safe.logic then
      if k.periods = 3 then
        let s1 := (drop s).modRec k.slot (fun r => { r with acting := false })
        (closeRec k.slot (latchRec k.slot s1.recTime.1 s1)).finish k.req { status := stOk }
      else { s with safe := { s.safe with acks := s.safe.acks.map (fun e => if e.slot = k.slot then { e with periods := e.periods + 1 } else e) } }
    else ((drop s).modRec k.slot (fun r => { r with acting := false })).finish k.req { status := stState }

/-- A fall of a test output is due: TP0 begins the period, and TP1 falls half a period after it (R496), by a clock that carries
5 % (R21). -/
def State.pulseDue (s : State) (tp : Fin 2) : Bool :=
  match s.safe.tpLast with
  | none => decide (tp = 0)
  | some (k, x) => decide (k ≠ tp.val ∧ x + s.fld.die.tpMs * 475000 ≤ s.time.lt)

/-- TEST_PULSE: a test output falls in its turn, with the levels that the inputs read in the pulse, or rises again (R496). -/
def execTestPulse (t : Nat) (tp : Fin 2) (low : Bool) (readings : Byte) (s : State) : Host.Outcome State Fault Refusal :=
  let s := s.begin t
  if low ∧ ¬ s.pulseDue tp then done s
  else
  let s := { s with safe := { s.safe with tp := s.safe.tp.set tp.val low tp.isLt
                                          tpLast := if low then some (tp.val, s.time.lt) else s.safe.tpLast } }
  if ¬ low ∨ s.safe.config.isNone then done s
  else
    let one := fun (s : State) (e : SPath × Fin 4) =>
      let q := s.spath e.1
      let (x, bad) := pulsePair tp.val (pulseCheck (s.pairFn e.2.val) q.filt e.2.val tp.val readings.toNat) (q.pairs.get e.2)
      let s1 := s.modPath e.1 (fun q => { q with pairs := q.pairs.set e.2.val x e.2.isLt })
      if bad then s1.raise fCrossShort (0xB0 + e.2.val) else s1
    let all := (List.finRange 4).map (fun p => (SPath.proc, p)) ++ (List.finRange 4).map (fun p => (SPath.logic, p))
    let s1 := all.foldl one s
    done (s.safe.acks.foldl (ackPulse tp.val readings.toNat) s1)

/-! ### Safety exchange and readbacks -/

/-- Level of an input as the die reads it: a broken wire reads low (R517). -/
def Di.level (d : Di) : Bool := d.raw && !d.wb

/-- Levels of DI0-DI7 at the input cells, as a mask. -/
def State.cellLevels (s : State) : Nat :=
  natSum ((List.finRange 8).map (fun i => if (s.fld.di.get ⟨i.val, by omega⟩).level then 2 ^ i.val else 0))

/-- A comparison that has begun or gone on, or ended. -/
def diffStep (lt : Nat) (bad : Bool) (o : Option Nat) : Option Nat := if bad then some (o.getD lt) else none

/-- The readbacks as both paths take them, and since when they differ (R502). Log 152 (DEDUCED). -/
def takeReadback (soa sob : Bool) (s : State) : State :=
  let a := s.safe.proc.closed
  let b := s.safe.logic.closed
  let bad := [soa != a, sob != a, soa != b, sob != b]
  let upd := (List.range 4).map (fun i => diffStep s.time.lt (bad.getD i false) (s.safe.readDiff.getD i none))
  { s with safe := { s.safe with
      readSoa := soa, readSob := sob, readDiff := upd,
      readRep := (List.range 4).map (fun i => s.safe.readRep.getD i false && bad.getD i false) } }

/-- Acknowledgement of SO_READBACK: both outputs commanded open read back open for 20 ms (R510). -/
def ackReadback (s : State) (k : SafeAck) : State :=
  if (s.frec k.slot).code ≠ fSoReadback then s
  else
    let drop := { s with safe := { s.safe with acks := s.safe.acks.filter (fun e => decide (e.slot ≠ k.slot)) } }
    let open_ := !s.safe.proc.closed && !s.safe.logic.closed && !s.safe.readSoa && !s.safe.readSob
    if ¬ open_ then (drop.modRec k.slot (fun r => { r with acting := false })).finish k.req { status := stState }
    else if k.start + 20000000 ≤ s.time.lt then
      let s1 := drop.modRec k.slot (fun r => { r with acting := false })
      (closeRec k.slot (latchRec k.slot s1.recTime.1 s1)).finish k.req { status := stOk }
    else s

/-- The configuration CRCs of the two paths meet in a frame (R490, R494). -/
def compareCrc (logicCrc : Nat) (s : State) : State :=
  if s.safe.writing.isSome ∨ s.safe.config.isNone then s
  else if logicCrc = s.configCrc then { s with safe := { s.safe with crcDiff := 0, crcHold := false } }
  else
    let n := s.safe.crcDiff + 1
    let s1 := { s with safe := { s.safe with crcDiff := min n 2, crcHold := true, badConfig := s.safe.badConfig || decide (2 ≤ n) } }
    if n = 2 ∧ ¬ s.safe.badConfig then s1.raise fConfigBad 0xFF else s1

/-- SAFETY_EXCHANGE_FRAME: one frame every 250 us between the paths, with the levels at the input cells; a stuck enable channel opens
SOA (R26, R27, R494, R508). -/
def execSafetyExchangeFrame (t : Nat) (f : SafetyFrame) (s : State) : Host.Outcome State Fault Refusal :=
  let s0 := s.begin t
  let s := { s0 with safe := { s0.safe with stuck := f.stuck && s0.safe.proc.closed } }
  if ¬ f.crcOk then done (safeEvalFrom s0 { s with safe := { s.safe with logicSubs := 0xFF } })
  else
    let s1 := pathRaw .proc s.cellLevels s
    let s2 := { s1 with safe := { s1.safe with logicSubs := s1.subMask .proc, sobSeen := s.safe.logic.closed, lastFrame := s.time.lt } }
    let s3 := takeReadback f.readSoa f.readSob (compareCrc f.logicCrc s2)
    let s4 := safeEvalFrom s0 s3
    done (s4.safe.acks.foldl ackReadback s4)

/-- SAFETY_EXCHANGE_ABSENCE: no valid frame for 2 frame periods of 250 us; the logic counts it as a demand on every subscription
(R26, R27). -/
def execSafetyExchangeAbsence (t : Nat) (s : State) : Host.Outcome State Fault Refusal :=
  let s := s.begin t
  if s.safe.lastFrame + 500000 ≤ s.time.lt then done (safeEvalFrom s { s with safe := { s.safe with logicSubs := 0xFF } }) else done s

/-- SO_READBACK: a readback has differed past its time (R502). -/
def execSoReadback (t : Nat) (path : SPath) (out : SOut) (s : State) : Host.Outcome State Fault Refusal :=
  let s := s.begin t
  let own := match path, out with | .proc, .soa => true | .logic, .sob => true | _, _ => false
  let i := (match path with | .proc => 0 | .logic => 2) + (match out with | .soa => 0 | .sob => 1)
  let q := s.spath path
  let cross := 20000000 + s.longestSs1 * 100000
  match s.safe.readDiff.getD i none with
  | none => done s
  | some since =>
    let lim := if own then 2000000 else cross
    let excused := !own && q.closed && decide (s.time.lt ≤ q.seen + cross)
    let past := if !own && q.closed then decide (since + lim ≤ s.time.lt) else decide (since + lim < s.time.lt)
    if past ∧ ¬ excused ∧ ¬ s.safe.readRep.getD i false then
      let s1 := s.raise fSoReadback (match out with | .soa => 0xA8 | .sob => 0xA9)
      done { s1 with safe := { s1.safe with readRep := s1.safe.readRep.set i true } }
    else done s

/-! ### Safe messages -/

/-- A reset is awaited by the processor path (R501, R512). -/
def State.resetAwaited (s : State) : Bool := s.safe.config.isSome && decide (s.resetIn ≠ 0xFF) && !s.safe.proc.resetMade

/-- Pairs in demand on the processor path, as a mask. -/
def State.pairMask (s : State) : Nat :=
  natSum ((List.finRange 4).map (fun p => if s.pairFn p.val ≠ 0 ∧ (s.safe.proc.pairs.get p).demand then 2 ^ p.val else 0))

/-- LOCAL_HOLD (R505): a subscription never sets it. -/
def State.localHold (s : State) : Bool :=
  decide (s.pairMask ≠ 0) || s.level5Seen || (s.resetAwaited && s.safe.proc.waitLocal)

/-- DATA of a safe message (R505). -/
def State.safeData (s : State) : Nat := s.pairMask + 16 * b2n s.localHold + 32 * b2n s.safe.proc.ss1.isSome

/-- The 32 bytes of a safe message (R505). Log 157 (DEDUCED). -/
def safeMessage (s : State) (seq data : Nat) : List Byte :=
  let b := toLE 1 1 ++ toLE 1 s.fab.addr ++ toLE 2 seq ++ toLE 4 0 ++ toLE 8 s.ft ++ toLE 4 data ++
    toLE 4 s.configCrc ++ toLE 4 0
  b ++ toLE 4 (crc32c b)

/-- SAFE_MESSAGE_SEND: on a change of DATA or after MSG_PERIOD_MS a message is built and sent twice (R506). -/
def execSafeMessageSend (t : Nat) (s : State) : Host.Outcome State Fault Refusal :=
  let s := s.begin t
  let data := s.safeData
  let due := decide (s.safe.txData ≠ some data) || decide (s.safe.txAt + s.cfgU 8 2 * 1000000 ≤ s.time.lt)
  if s.safe.config.isSome ∧ bitOf (s.cfgU 1 1) 0 ∧ s.domOn .safe ∧ s.domOn .sup ∧ due then
    let m := safeMessage s s.safe.txSeq data
    let c := s.can.get 1
    let f : CanFrame := { id := 0x600 + s.fab.addr, ide := false, remote := false, fdf := true, brs := decide (s.p1 pCanRateData 1 ≠ 0), dlc := 13,
                          data := m, sof := 8 * s.time.lt }
    let can := if c.st = 2 ∨ c.st = 3 then [(1, f)] else []
    done { s with
      safe := { s.safe with txSeq := (s.safe.txSeq + 1) % 2 ^ 16, txData := some data, txAt := s.time.lt,
                            txQueue := s.safe.txQueue ++ [m] }
      out := { s.out with can := s.out.can ++ can } }
  else done s

/-- TS of a copy lies `safe.msg_watchdog_ms` or more before the fabric time (R507). -/
def State.copyOld (s : State) (body : List Byte) : Bool := decide ((s.safeWdMs : Int) * 1000000 ≤ s.ft - getS body 8 8)

/-- A copy on a network for one subscription (R507-R509). A pair of copies does not end a demand while a later copy demands.
Log 151 (DEDUCED). Log 267 (DEDUCED). -/
def subCopy (net : SNet) (body : List Byte) (i : Fin 8) (s : State) : State :=
  let k := match net with | .causeway => 0 | .can1 => 1
  let x := s.safe.subs.get i
  let seq := getU body 2 2
  let newer : Bool := match x.last.getD k none with
    | none => true
    | some (q, _) => serialLater 16 q seq
  if i.val < s.safeSubs ∧ s.cfgU (96 + 16 * i.val) 1 = getU body 1 1 ∧ newer ∧ ¬ s.copyOld body then
    let asks := fun (b : List Byte) => decide (Nat.land (getU b 16 4) (s.cfgU (100 + 16 * i.val) 4) ≠ 0)
    let second := (x.unpaired.find? (fun e => decide (e.1 = 1 - k ∧ e.2.1 = seq))).map (·.2.2)
    let ahead := x.unpaired.filter (fun e => !s.copyOld e.2.2 && (decide (e.1 = k) || serialLater 16 seq e.2.1))
    let mayCome : Bool := match x.last.getD (1 - k) none with
      | none => true
      | some (q, _) => serialLater 16 q seq
    let equal := decide (second = some body)
    let differ := second.isSome && !equal
    let x1 : SSub := { x with
      last := x.last.set k (some (seq, body)), since := x.since.set k s.time.lt, wd := x.wd.set k false
      unpaired := if second.isNone && mayCome then ahead ++ [(k, seq, body)] else ahead
      demand := if second.isNone then x.demand || asks body
        else if equal ∧ ¬ asks body ∧ ¬ ahead.any (fun e => asks e.2.2) then false else x.demand
      equalRun := if equal then (if seq = (x.lastEq + 1) % 2 ^ 16 then min (x.equalRun + 1) 3 else 1) else if differ then 0 else x.equalRun
      lastEq := if equal then seq else x.lastEq }
    let s1 := { s with safe := { s.safe with subs := s.safe.subs.set i.val x1 i.isLt } }
    if differ ∨ getU body 20 4 ≠ s.cfgU (104 + 16 * i.val) 4 then s1.raise fMsgMismatch 0xFF else s1
  else s

/-- A copy of a safe message is checked and may set or release a demand (R507, R508). -/
def safeCopy (net : SNet) (body : List Byte) (s : State) : State :=
  if s.safe.config.isSome ∧ s.domOn .safe ∧ body.length = 32 ∧ getU body 28 4 = crc32c (body.take 28) ∧ getU body 0 1 = 1 then
    safeEvalFrom s ((List.finRange 8).foldl (fun s i => subCopy net body i s) s)
  else s

/-- SAFE_MESSAGE_RX (R507, R508). -/
def execSafeMessageRx (t : Nat) (net : SNet) (body : List Byte) (s : State) : Host.Outcome State Fault Refusal :=
  done (safeCopy net body (s.begin t))

/-- MSG_WATCHDOG: a subscription without an accepted copy from a network for `safe.msg_watchdog_ms` (R509). -/
def execMsgWatchdog (t : Nat) (sub : Fin 8) (net : SNet) (s : State) : Host.Outcome State Fault Refusal :=
  let s := s.begin t
  let k := match net with | .causeway => 0 | .can1 => 1
  let x := s.safe.subs.get sub
  if s.safe.config.isSome ∧ sub.val < s.safeSubs ∧ ¬ x.wd.getD k false ∧
      x.since.getD k 0 + s.safeWdMs * 1000000 ≤ s.time.lt then
    done (({ s with safe := { s.safe with subs := s.safe.subs.set sub.val { x with wd := x.wd.set k true, equalRun := 0 } sub.isLt } }).raise
      fMsgWatchdog 0xFF)
  else done s

/-! ### SAFETY_CONFIG (R492, R493) -/

/-- First offset of a list of checks that fails. -/
def blockFirst (l : List (Bool × Nat)) : Option Nat := (l.find? (fun e => !e.1)).map (·.2)

/-- The fields of a block in ascending offset (R491): those of pairs with FUNCTION 0, of subscriptions beyond SUBS, and
SS1_DELAY_MS without SS1 are not in use and are not checked (log 60). -/
def blockRange (uid : Nat) (b : List Byte) : Option Nat :=
  let u := fun (o n : Nat) => getU b o n
  let in_ := fun (o n lo hi : Nat) => decide (lo ≤ u o n ∧ u o n ≤ hi)
  let pair := fun (p : Nat) =>
    let o := 32 + 16 * p
    let unused := decide (u o 1 = 0)
    [(decide (u o 1 ≤ 5), o), (unused || decide (u (o + 1) 1 ≤ 1), o + 1), (unused || decide (u (o + 2) 1 ≤ 1), o + 2),
     (decide (u (o + 3) 1 = 0), o + 3), (unused || in_ (o + 4) 2 10 1000, o + 4),
     (unused || decide (u (o + 2) 1 ≠ 1) || in_ (o + 6) 2 10 30000, o + 6), (decide (u (o + 8) 8 = 0), o + 8)]
  let sub := fun (i : Nat) =>
    let o := 96 + 16 * i
    [(decide (u o 1 ≤ 254), o), (decide (u (o + 1) 1 ≤ 1), o + 1), (decide (u (o + 2) 1 ≤ 1), o + 2),
     (decide (u (o + 3) 1 = 0), o + 3), (decide (u (o + 4) 4 < 64), o + 4),
     (decide (u (o + 2) 1 ≠ 1) || in_ (o + 12) 2 10 30000, o + 12), (decide (u (o + 14) 2 = 0), o + 14)]
  blockFirst ([(decide (u 0 1 = 1), 0), (decide (u 1 1 ≤ 1), 1), (decide (u 2 1 ≤ 7 ∨ u 2 1 = 0xFF), 2), (decide (u 3 1 ≤ 8), 3),
     (in_ 4 2 5 100, 4), (in_ 6 2 5 1000, 6), (in_ 8 2 1 100, 8), (decide (u 10 2 = 0), 10), (decide (u 16 8 = uid), 16),
     (decide (u 24 8 = 0), 24)] ++ ((List.range 4).map pair).flatten ++ ((List.range (min 8 (u 3 1))).map sub).flatten ++
     [(decide (u 224 28 = 0), 224), (decide (blockCrc b = crc32c (b.take 252)), 252)])

/-- The conditions of R492 with consistency rules 31 and 32 against the topcoat: the offset of the pair or subscription at
fault; of MSG_WATCHDOG_MS and of FLAGS where none is (log 60). -/
def blockConds (s : State) (b : List Byte) : Option Nat :=
  let u := fun (o n : Nat) => getU b o n
  let fn := fun (p : Nat) => u (32 + 16 * p) 1
  let rin := u 2 1
  let pulsed := fun (i : Nat) => decide (s.p1 pFldDiMode i = 1)
  let pair := fun (p : Nat) =>
    let o := 32 + 16 * p
    let q := if p % 2 = 0 then p + 1 else p - 1
    let bad1 := decide (fn p = 1 ∧ (u (o + 1) 1 ≠ 1 ∨ rin = 0xFF))
    let bad4 := decide (fn p = 4 ∧ (fn q ≠ 4 ∨ u (34 + 16 * q) 1 ≠ u (o + 2) 1))
    let badRst := decide (u (o + 1) 1 = 1 ∧ rin = 0xFF)
    let badIn := decide (rin ≠ 0xFF ∧ rin / 2 = p) && (decide (fn p ≠ 0) || pulsed rin)
    let bad31 := decide (fn p ≠ 0) && (pulsed (2 * p) || pulsed (2 * p + 1))
    (!(bad1 || bad4 || badRst || badIn || bad31), o)
  let sub := fun (i : Nat) => (!decide (u (97 + 16 * i) 1 = 1 ∧ rin = 0xFF), 96 + 16 * i)
  let uses := decide (u 1 1 % 2 = 1 ∨ u 3 1 ≠ 0)
  let mode1 := s.p1 pCanMode 1
  blockFirst ((List.range 4).map pair ++ (List.range (min 8 (u 3 1))).map sub ++
    [(!(uses && decide (u 6 2 < 3 * u 8 2)), 6), (!(decide (u 1 1 % 2 = 1) && decide (mode1 ≠ 2)), 1),
     (!(decide (u 3 1 ≠ 0) && decide (mode1 ≠ 2 ∧ mode1 ≠ 3)), 96)])

/-- SAFETY_CONFIG: checks a block, opens both outputs and starts writing it (R492, R493). -/
def execSafetyConfig (t : Nat) (h : Hdr) (body : List Byte) (s : State) : Host.Outcome State Fault Refusal :=
  done (runOp 0x0901 1 true true h body (s.begin t)
    (fun s =>
      let rng := blockRange s.host.ident.uid body
      let cnd := blockConds s body
      [(decide (h.length ≠ 256), stBadLength, 0),
       (s.scrap || (decide (s.life.lc = 2) && !s.life.service), stLifecycle, 0),
       (allAxes.any (fun a => (s.ax a).enabled) || s.safe.proc.ss1.isSome || s.safe.logic.ss1.isSome, stState, 0),
       (decide (getU body 12 4 ≠ s.configCrc), stState, 0),
       (rng.isSome, stRange, rng.getD 0),
       (cnd.isSome, stCheckFailed, cnd.getD 0),
       (s.safe.writing.isSome, stBusy, 0)])
    (fun q s =>
      let s1 := { s with safe := { s.safe with writing := some (body, q, s.time.lt) } }
      let s2 := safeEvalFrom s s1
      let bad := s2.openSlots.filter (fun i => decide ((s2.frec i).code = fConfigBad ∧ (s2.frec i).state = 1))
      ({ status := stPending }, bad.foldl (fun s i => latchRec i s.recTime.1 s) s2)))

/-- A block comes into force: every pair and subscription starts in demand, and a reset is awaited (R490, R493). -/
def safeInstall (b : List Byte) (s : State) : State :=
  let fresh := fun (q : SPathSt) =>
    { q with pairs := Vector.replicate 4 {}, resetMade := false, resetSince := none, resetValid := false, waitLocal := false
             closed := false, ss1 := none }
  { s with safe := { s.safe with
      config := some b, writing := none, proc := fresh s.safe.proc, logic := fresh s.safe.logic
      subs := Vector.replicate 8 { since := [s.time.lt, s.time.lt] }, logicSubs := 0xFF, txData := none
      crcDiff := 0, badConfig := false } }

/-- SAFETY_CONFIG_DONE: both paths report the new CRC, or 500 ms have passed (R493). -/
def execSafetyConfigDone (t : Nat) (procCrc logicCrc : Nat) (s : State) : Host.Outcome State Fault Refusal :=
  let s := s.begin t
  match s.safe.writing with
  | none => done s
  | some (b, q, since) =>
    if procCrc = logicCrc ∧ procCrc = blockCrc b ∧ s.time.lt ≤ since + 500000000 then
      let s1 := safeInstall b s
      let s2 := { s1 with safe := { s1.safe with storedConfig := some b, crcHold := false } }
      done ((safeEval s2).finish q (okRsp (toLE 4 (blockCrc b))))
    else if since + 500000000 ≤ s.time.lt then
      let wait := fun (x : SPathSt) => { x with resetMade := false }
      let s1 := { s with safe := { s.safe with writing := none, proc := wait s.safe.proc, logic := wait s.safe.logic } }
      done ((safeEval s1).finish q { status := stTimeout })
    else done s

/-! ### Trace nodes (R512) -/

/-- Node 0x1030 `safe.state`. -/
def State.safeStateNode (s : State) : Nat :=
  packBits [(4, s.pairMask), (1, b2n s.localHold), (1, b2n s.safe.proc.ss1.isSome), (1, b2n s.resetAwaited),
    (8, s.subMask .proc), (1, b2n s.safe.proc.closed), (1, b2n s.safe.logic.closed)]

/-- Node 0x1031 `safe.inputs`. -/
def State.safeInputsNode (s : State) : Nat := s.safe.proc.filt % 256 + 256 * (s.safe.logic.filt % 256)

/-- Node 0x1032 `safe.readback`. -/
def State.safeReadbackNode (s : State) : Nat :=
  let b := b2n s.safe.readSoa + 2 * b2n s.safe.readSob
  b + 4 * b

/-- Node 0x1033 `safe.ss1_ms`: whole ms left, a part counting as one. Log 156 (DEDUCED). -/
def State.safeSs1Node (s : State) : Nat :=
  match s.safe.proc.ss1 with
  | some (start, ms) => (start + ms * 1000000 - s.time.lt + 999999) / 1000000
  | none => 0

end Sys2Proof.Machine
end

