-- ==== Sys2Proof/Machine/Field.lean ====
section
/-! DEFINITION. The 24 V field channels: inputs, outputs, VFLD and the two field links (18_field_io_can.md, R514-R525). -/

namespace Sys2Proof.Machine

/-! ### Inputs (R515-R518) -/

/-- One bit of a mask set to a level. -/
def setBit (m i : Nat) (b : Bool) : Nat := if bitOf m i = b then m else if b then m + 2 ^ i else m - 2 ^ i

/-- The field configuration that the next field-link-down frame carries (R26). -/
def State.dieCfg (s : State) : DieCfg :=
  { filterUs := (List.range 8).map (fun i => s.pn pFldDiFilterUs i)
    pulsed := natSum ((List.range 16).map (fun i => if s.p1 pFldDiMode i = 1 then 2 ^ i else 0))
    wireBreak := natSum ((List.range 16).map (fun i => if s.p1 pFldDiWireBreak i = 1 then 2 ^ i else 0))
    dqSafe := (List.range 8).map (fun o => s.p1 pFldDqSafeState o)
    silenceMs := s.pn pFldSilenceTimeoutMs 0
    tpMs := s.safeTpMs
    restoreAuto := decide (s.p1 pFldRestoreAuto 0 = 1) }

/-- Time in ns for which a raw level must hold (R516): in pulsed mode the samples that must agree, 1 ms apart. DI0-DI7 are filtered
on the field die by the configuration that it holds, DI8-DI15 in their fast input cells. -/
def diHold (s : State) (i : Fin 16) : Nat :=
  let us := if i.val < 8 then s.fld.die.filterUs.getD i.val 0 else s.pn pFldDiFilterUs i.val
  if bitOf s.fld.die.pulsed i.val then (max 1 ((us + 999) / 1000) - 1) * 1000000 else us * 1000

/-- The filtered level of an input changes. DI8-DI15 show in FLD_IN at once, stamped with the instant at which the filter expired less
the filter time (R248, R516, R525). Log 158 (DEDUCED). -/
def setFilt (i : Fin 16) (level : Bool) (s : State) : State :=
  let hold := diHold s i
  let at_ := if 8 ≤ i.val then s.ftOf (min s.time.lt ((s.fld.di.get i).edgeLt + hold)) - (s.pn pFldDiFilterUs i.val * 1000 : Nat) else s.ft
  let s1 := s.modDi i (fun d => { d with filt := level, filtAt := at_, first := some (d.first.getD at_) })
  if 8 ≤ i.val then { s1 with fld := { s1.fld with fldIn := setBit s1.fld.fldIn i.val level } } else s1

/-- The safety logic reads DI0-DI7 at the cells (R488). -/
def cellsToLogic (s : State) : State := safeEval (pathRaw .logic s.cellLevels s)

/-- DI_EDGE: a raw level changes and its filter starts; without a filter time the filtered level follows (R516). -/
def execDiEdge (t : Nat) (input : Fin 16) (level : Bool) (s : State) : Host.Outcome State Fault Refusal :=
  let s := s.begin t
  let d := s.fld.di.get input
  if d.raw = level ∨ ¬ s.domOn .field then done s
  else
    let s1 := s.modDi input (fun d => { d with raw := level, edgeAt := s.ft, edgeLt := s.time.lt })
    let s2 := if diHold s input = 0 ∧ ¬ d.wb ∧ d.filt ≠ level then setFilt input level s1 else s1
    done (if input.val < 8 then cellsToLogic s2 else s2)

/-- DI_FILTER_EXPIRY: the raw level has held for the filter time; that of DI0-DI7 carries 5 % (R516). -/
def execDiFilterExpiry (t : Nat) (input : Fin 16) (s : State) : Host.Outcome State Fault Refusal :=
  let s := s.begin t
  let d := s.fld.di.get input
  let hold := diHold s input
  let need := if input.val < 8 then hold * 95 / 100 else hold
  if d.filt ≠ d.level ∧ d.edgeLt + need ≤ s.time.lt ∧ s.domOn .field then done (setFilt input d.level s) else done s

/-- WIRE_BREAK: the current has stayed below its threshold for 50 ms, or at or above it (R517). -/
def execWireBreak (t : Nat) (input : Fin 16) (broken : Bool) (s : State) : Host.Outcome State Fault Refusal :=
  let s := s.begin t
  let d := s.fld.di.get input
  if ¬ bitOf s.fld.die.wireBreak input.val ∨ s.fld.vfld < 1800 ∨ d.wb = broken then done s
  else
    let s1 := s.modDi input (fun d => { d with wb := broken, edgeAt := s.ft, edgeLt := s.time.lt })
    let s2 := if broken then
        (let s2 := s1.raise fWireBreak (0x90 + input.val); if d.filt then setFilt input false s2 else s2)
      else
        (let s2 := s1.clearCond fWireBreak (0x90 + input.val)
         if diHold s input = 0 ∧ d.filt ≠ d.raw then setFilt input d.raw s2 else s2)
    done (if input.val < 8 then cellsToLogic s2 else s2)

/-! ### Outputs (R519-R522) -/

/-- Row 3 of R520 applies. -/
def State.row3 (s : State) : Bool := s.fld.l5Held || s.fld.silentHeld

/-- The states that row 3 keeps, fixed when its first condition begins: `fld.dq[o].safe_state`, where hold keeps what is
applied (R520). -/
def row3States (s : State) : Nat :=
  natSum ((List.range 8).map (fun o =>
    let k := s.fld.die.dqSafe.getD o 0
    if k = 1 ∨ (k = 2 ∧ bitOf s.fld.out o) then 2 ^ o else 0))

/-- The result of R520 for every output; in SCRAP and without firmware all are off (R562, R572). -/
def outStates (s : State) : Nat :=
  if s.scrap ∨ s.host.hostState = 3 ∨ ¬ s.domOn .field ∨ ¬ s.fld.vfldValid ∨ s.fld.sag then 0
  else
    natSum ((List.range 8).map (fun o =>
      if s.unitMasked (0xA0 + o) then 0
      else if bitOf (match s.fld.held with | some h => h | none => s.fld.dieCmd) o then 2 ^ o else 0))

/-- An output that R520 switched: off ends OVERLOAD and OPEN_LOAD, on ends EXTERNAL (R521, R522). Log 159 (DEDUCED). -/
def outChanged (o : Fin 8) (s : State) : State :=
  let d := s.fld.dq.get o
  if bitOf s.fld.out o.val then
    (if d.external then s.clearCond fDqExternal (0xA0 + o.val) else s).modDq o (fun d => { d with external := false })
  else
    (if d.overload then s.clearCond fDqOverload (0xA0 + o.val) else s).modDq o
      (fun d => { d with overload := false, openLoad := false })

/-- The field die applies R520. -/
def applyOut (s : State) : State :=
  let s1 := { s with fld := { s.fld with held := if s.row3 then some (s.fld.held.getD (row3States s)) else none } }
  let out := outStates s1
  let s2 := { s1 with fld := { s1.fld with out := out } }
  (List.finRange 8).foldl (fun s2 o => if bitOf s.fld.out o.val = bitOf out o.val then s2 else outChanged o s2) s2

/-- DQ_OVERLOAD: a protection has acted for 5 ms on an output that is on (R521). -/
def execDqOverload (t : Nat) (o : Fin 8) (s : State) : Host.Outcome State Fault Refusal :=
  let s := s.begin t
  if bitOf s.fld.out o.val ∧ ¬ (s.fld.dq.get o).overload then
    done ((s.raise fDqOverload (0xA0 + o.val)).modDq o (fun d => { d with overload := true }))
  else done s

/-- DQ_OVERLOAD_CLEARED: on for 100 ms with no protection acting (R521). -/
def execDqOverloadCleared (t : Nat) (o : Fin 8) (s : State) : Host.Outcome State Fault Refusal :=
  let s := s.begin t
  if (s.fld.dq.get o).overload then
    done ((s.clearCond fDqOverload (0xA0 + o.val)).modDq o (fun d => { d with overload := false }))
  else done s

/-- DQ_EXTERNAL: a pad above 8 V for 10 ms while its driver is off (R522). -/
def execDqExternal (t : Nat) (o : Fin 8) (s : State) : Host.Outcome State Fault Refusal :=
  let s := s.begin t
  if ¬ bitOf s.fld.out o.val ∧ ¬ (s.fld.dq.get o).external then
    done ((s.raise fDqExternal (0xA0 + o.val)).modDq o (fun d => { d with external := true }))
  else done s

/-- DQ_EXTERNAL_CLEARED: below 8 V for 10 ms (R522). -/
def execDqExternalCleared (t : Nat) (o : Fin 8) (s : State) : Host.Outcome State Fault Refusal :=
  let s := s.begin t
  if (s.fld.dq.get o).external then
    done ((s.clearCond fDqExternal (0xA0 + o.val)).modDq o (fun d => { d with external := false }))
  else done s

/-- OPEN_LOAD: a load current below 5 mA for 100 ms while the output is on; it raises no record (R522). -/
def execOpenLoad (t : Nat) (o : Fin 8) (s : State) : Host.Outcome State Fault Refusal :=
  let s := s.begin t
  if bitOf s.fld.out o.val then done (s.modDq o (fun d => { d with openLoad := true })) else done s

/-! ### VFLD (R523) -/

/-- VFLD_SAG: below 16 V for more than 1 ms once VFLD has been valid. -/
def execVfldSag (t : Nat) (s : State) : Host.Outcome State Fault Refusal :=
  let s := s.begin t
  let f := s.fld
  if f.vfldValid ∧ (¬ f.sag ∨ f.restored) then
    done (applyOut (({ s with fld := { f with sag := true, restored := false, releaseDue := false, sags := incSat 16 f.sags } }).raise
      fVfldSag 0xFF))
  else done s

/-- Records of VFLD_SAG that are ACTIVE. -/
def State.sagRecs (s : State) : List Nat :=
  s.openSlots.filter (fun i => decide ((s.frec i).code = fVfldSag ∧ (s.frec i).state = 1))

/-- VFLD_RESTORE: at or above 18 V for 10 ms. -/
def execVfldRestore (t : Nat) (s : State) : Host.Outcome State Fault Refusal :=
  let s := s.begin t
  let f := s.fld
  if ¬ f.vfldValid then done (applyOut { s with fld := { f with vfldValid := true } })
  else if ¬ f.sag then done s
  else if f.die.restoreAuto then
    let s1 := applyOut { s with fld := { f with sag := false, restored := false } }
    done (s1.sagRecs.foldl (fun s i => latchRec i s.recTime.1 s) s1)
  else done { s with fld := { f with restored := true } }

/-! ### The two links (R518, R519, R524, R525) -/

/-- The die ends the break of an input for which its configuration asks no detection any more (R517). -/
def endBreak (i : Fin 16) (s : State) : State :=
  if (s.fld.di.get i).wb ∧ ¬ bitOf s.fld.die.wireBreak i.val then
    let s1 := (s.modDi i (fun d => { d with wb := false, edgeAt := s.ft, edgeLt := s.time.lt })).clearCond fWireBreak (0x90 + i.val)
    if diHold s1 i = 0 ∧ (s1.fld.di.get i).filt ≠ (s1.fld.di.get i).raw then setFilt i (s1.fld.di.get i).raw s1 else s1
  else s

def endBreaks (s : State) : State := (List.finRange 16).foldl (fun s i => endBreak i s) s

/-- FIELD_LINK_DOWN_FRAME: the die takes the command, its configuration and the hold; a silence ends, and outputs released by FAULT_ACK
restore (R503, R519, R523, R524). -/
def execFieldLinkDownFrame (t : Nat) (s : State) : Host.Outcome State Fault Refusal :=
  let s := s.begin t
  if ¬ s.domOn .sup ∨ ¬ s.domOn .field then done s
  else
    let f := s.fld
    let l5 := s.safe.level5
    let s1 := { s with
      fld := { f with lastDown := s.time.lt, dieCmd := f.cmd % 256, die := s.dieCfg, l5Held := l5, silentHeld := false
                      sag := f.sag && !f.releaseDue, restored := f.restored && !f.releaseDue, releaseDue := false }
      out := { s.out with field := s.out.field ++ [⟨f.cmd % 256, l5, s.dieCfg⟩] } }
    done (safeEval (applyOut (endBreaks s1)))

/-- FLD_DIAG [36:0] as the die reports it; OVERLOAD shows the outputs whose protection acts now (R521). -/
def State.fldDiag (s : State) (acting : Nat) : Nat :=
  let f := s.fld
  let mask := fun (g : Dq → Bool) => natSum ((List.finRange 8).map (fun o => if g (f.dq.get o) then 2 ^ o.val else 0))
  packBits [(8, f.out), (8, Nat.land acting f.out), (8, mask Dq.external), (8, mask Dq.openLoad), (1, b2n (f.vfldValid && !f.sag)),
    (1, b2n f.sag), (1, b2n f.silentHeld), (1, b2n f.l5Held)]

/-- Filtered levels of DI0-DI7 and the wire breaks as the die has them (R516, R517). -/
def State.dieLevels (s : State) : Nat :=
  natSum ((List.finRange 8).map (fun i => if (s.fld.di.get ⟨i.val, by omega⟩).filt then 2 ^ i.val else 0))
def State.dieBreaks (s : State) : Nat := natSum ((List.finRange 16).map (fun i => if (s.fld.di.get i).wb then 2 ^ i.val else 0))

/-- FIELD_LINK_UP_FRAME: the field registers take the frame, and the switches on DI0-DI7 are evaluated (R248, R525). -/
def execFieldLinkUpFrame (t : Nat) (f : FieldUp) (s : State) : Host.Outcome State Fault Refusal :=
  let s := s.begin t
  if ¬ s.domOn .sup ∨ ¬ s.domOn .field then done s
  else
    let g := s.fld
    let s1 := if g.stale then s.clearCond fFieldSilent 0xFF else s
    let s2 := { s1 with fld := { g with
      lastUp := s.time.lt, stale := false, fldIn := s.dieLevels + (g.fldIn / 256) * 256, wbReg := s.dieBreaks
      vfld := f.vfld % 65536, diag := s.fldDiag f.acting, restored := g.restored && decide (1800 ≤ f.vfld) } }
    done ((List.range 8).foldl (fun s i => evalDi i (bitOf s2.fld.fldIn i) none s) s2)

/-- What follows where a source's switches may have become active without an edge (R255). -/
def forcedSwitches (before : State) (s : State) : State :=
  forAxes allAxes (fun a s => allSw.foldl (fun s k => swBecame a k (swActive before a k) s) s) s

/-- FIELD_SILENT: no valid frame up for `fld.silence_timeout_ms` (R28, R518). -/
def execFieldSilent (t : Nat) (s : State) : Host.Outcome State Fault Refusal :=
  let s := s.begin t
  if s.domOn .sup ∧ ¬ s.fld.stale ∧ s.fld.lastUp + s.pn pFldSilenceTimeoutMs 0 * 1000000 ≤ s.time.lt then
    let s1 := { s with fld := { s.fld with stale := true } }
    done ((forcedSwitches s s1).raise fFieldSilent 0xFF)
  else done s

/-- FIELD_DOWN_SILENCE: the die has taken no valid frame for the same time (R524, R503). -/
def execFieldDownSilence (t : Nat) (s : State) : Host.Outcome State Fault Refusal :=
  let s := s.begin t
  if s.domOn .field ∧ ¬ s.fld.silentHeld ∧ s.fld.lastDown + s.fld.die.silenceMs * 1000000 ≤ s.time.lt then
    done (safeEval (applyOut { s with fld := { s.fld with silentHeld := true, silences := incSat 16 s.fld.silences } }))
  else done s

/-! ### Registers and trace nodes (R525, R536) -/

/-- FLD_DIAG: the frame's fields, STALE and VFLD. -/
def State.fldDiagReg (s : State) : Nat := s.fld.diag % 2 ^ 36 + 2 ^ 36 * b2n s.fld.stale + 2 ^ 48 * (s.fld.vfld % 65536)

/-- FLD_IN. -/
def State.fldInReg (s : State) : Nat := s.fld.fldIn % 65536 + 65536 * (s.fld.wbReg % 65536)

/-- FLD_CNT. -/
def State.fldCntReg (s : State) : Nat := s.fld.sags % 65536 + 65536 * (s.fld.silences % 65536)

end Sys2Proof.Machine
end

