-- ==== Sys2Proof/Machine/Ack.lean ====
section
/-! DEFINITION. FAULT_ACK and the clearing actions of the records of kind A (16_faults.md, R481; 04_pwm_edges.md, R126;
17_safety.md, R510; 18_field_io_can.md, R523). -/

namespace Sys2Proof.Machine

/-- Both paths see both inputs of a pair in the demand state (R510). -/
def State.pairOpen (s : State) (p : Nat) : Bool :=
  let both := fun (q : SPathSt) => let (a, b) := pairInputs (s.pairFn p) q.filt p; a && b
  both s.safe.proc && both s.safe.logic

/-- Every subscription in use has accepted equal pairs of copies for 3 consecutive SEQ values (R510). -/
def State.pairsEqual (s : State) : Bool :=
  (List.finRange 8).all (fun i => decide (s.safeSubs ≤ i.val) || decide (3 ≤ (s.safe.subs.get i).equalRun))

/-- A clearing action starts and the request waits for it (R481). -/
def ackStarts (i : Nat) (s : State) : State := s.modRec i (fun r => { r with acting := true })

/-- An ACTIVE record of kind A closes at once, with CLEARED_AT stamped. -/
def ackCloses (i : Nat) (s : State) : Rsp × State := (okRsp [], closeRec i (latchRec i s.recTime.1 s))

/-- FAULT_ACK of an ACTIVE TRIP record of which no earlier FAULT_ACK waits (R126). -/
def ackTrip (i : Nat) (q : ReqRef) (a : AxisId) (s : State) : Rsp × State :=
  let l := (s.ax a).link
  let inNow : Bool := match l.up with | some u => u.tripIn | none => false
  if l.st ≠ .run ∨ inNow then ({ status := stState }, s)
  else ({ status := stPending }, (ackStarts i s).modLink a (fun l =>
    { l with tripClear := l.tripClear ++ [{ req := q, slot := i, framesSent := 0, hold := s.inGap }] }))

/-- FAULT_ACK of an ACTIVE record (R481): kind E and C are refused, kind A starts the action that its rule names. -/
def ackActive (i : Nat) (q : ReqRef) (s : State) : Rsp × State :=
  let r := s.frec i
  let no : Rsp × State := ({ status := stState }, s)
  if clearsOf r.code ≠ .action then no
  else if r.acting then ({ status := stBusy }, s)
  else if r.code = fTrip ∨ r.code = fTripDead then
    match axisOf? r.unit with
    | some a => ackTrip i q a s
    | none => no
  else if r.code = fVfldSag then
    if s.fld.sag ∧ ¬ s.fld.restored then no
    else ackCloses i { s with fld := { s.fld with releaseDue := s.fld.sag } }
  else if r.code = fDiscrepancy then (if s.pairOpen (r.unit - 0xB0) then ackCloses i s else no)
  else if r.code = fCrossShort ∨ r.code = fSoReadback then
    let s1 := ackStarts i s
    ({ status := stPending }, { s1 with safe := { s1.safe with acks := s1.safe.acks ++ [⟨i, q, s.time.lt, 0⟩] } })
  else if r.code = fMsgMismatch ∨ r.code = fMsgWatchdog then (if s.pairsEqual then ackCloses i s else no)
  else no

/-- FAULT_ACK 0xFFFF: every LATCHED record closes; DETAIL is their number (R481). -/
def ackAll (s : State) : Rsp × State :=
  let l := s.openSlots.filter (fun i => decide ((s.frec i).state = 2))
  ({ status := stOk, detail := l.length }, l.foldl (fun s i => closeRec i s) s)

/-- FAULT_ACK (R481). -/
def execFaultAck (t : Nat) (h : Hdr) (record : Nat) (s : State) : Host.Outcome State Fault Refusal :=
  done (runOp 0x0402 2 false false h (toLE 2 record) (s.begin t)
    (fun s => [(decide (record ≠ 0xFFFF ∧ (255 < record ∨ ¬ (s.frec record).isOpen)), stBadId, 0), (s.scrap, stLifecycle, 0)])
    (fun q s =>
      if record = 0xFFFF then ackAll s
      else if (s.frec record).state = 2 then (okRsp [], closeRec record s)
      else ackActive record q s))

end Sys2Proof.Machine
end

