-- ==== Sys2Proof/Machine/TileVm.lean ====
section
/-! DEFINITION. The tile's instruction set as custom blocks use it: formats, operations, latencies and the loader's checks
(11_loop_tiles.md, R302-R319). A word is a natural number below 2^64. -/

namespace Sys2Proof.Machine

/-- Signed value of a 64-bit word. -/
def s64 (w : Nat) : Int := wrapS 64 w

/-- Signed lanes of a word: re in the low half, im in the high half (R302). -/
def laneLo (w : Nat) : Int := wrapS 32 (w % 2 ^ 32 : Nat)
def laneHi (w : Nat) : Int := wrapS 32 (w / 2 ^ 32 : Nat)

/-- A word from a signed value, and from two lanes. -/
def w64 (x : Int) : Nat := (wrapU 64 x).toNat
def wLanes (lo hi : Int) : Nat := (wrapU 32 lo).toNat + 2 ^ 32 * (wrapU 32 hi).toNat

/-- Saturation with its flag (R303). -/
def satF (n : Nat) (x : Int) : Int × Bool := (satS n x, decide (satS n x ≠ x))

/-- Where a result lands. -/
inductive VmDst where
  | v (i : Nat)
  | p (i : Nat)
  | mem (a : Nat)
  deriving DecidableEq, Repr

/-- A result under way: first clock that sees it, where it lands, its value. -/
structure VmPend where
  due : Nat
  dst : VmDst
  val : Nat
  deriving DecidableEq, Repr

/-- A hook call under way. -/
structure Vm where
  regs : TileRegs := {}
  pend : List VmPend := []
  /-- Accumulators after each of the last instructions, newest first, for RDA (R314). -/
  accs : List ((Int × Int) × (Int × Int)) := []
  scratch : List (Nat × Nat) := []
  /-- Axis-area words written: hook outputs and private words. -/
  hook : List (Nat × Nat) := []
  priv : List (Nat × Nat) := []
  pc : Nat := 0
  clock : Nat := 0
  /-- Running repeats, innermost first: first address, last address, runs left (R311). -/
  reps : List (Nat × Nat × Nat) := []
  viol : Bool := false
  ended : Bool := false
  deriving DecidableEq, Repr

/-- What a block may touch: its hook's output words and its private area (R307, R319). -/
structure VmRights where
  outs : List Nat
  privFrom : Nat
  privLen : Nat
  /-- Words of the axis area and of data memory as they read in this pass. -/
  axis : Nat
  time : Nat
  deriving DecidableEq, Repr

def Vm.reg (m : Vm) (i : Nat) : Nat := m.regs.v.getD i 0

/-- Pointer update next(P, s) (R312). -/
def ptrNext (p b l : Nat) (st : Int) : Nat :=
  if l = 0 then (((p : Int) + st) % 2 ^ 20).toNat else (((b : Int) + ((p : Int) - b + st) % l) % 2 ^ 20).toNat

/-- The low k bits of x in reversed order. -/
def bitRev : Nat → Nat → Nat
  | 0, _ => 0
  | k + 1, x => x % 2 * 2 ^ k + bitRev k (x / 2)

/-- Address and new pointer of a memory field (R312). The add of mode 5 changes the low k bits of P - B, k the position of the highest bit
of L. Log 252 (DEDUCED). -/
def memAddr (r : TileRegs) (pi mode : Nat) : Nat × Option Nat :=
  let p := r.p.getD pi 0
  let b := r.b.getD pi 0
  let l := r.l.getD pi 0
  let m := r.m.getD pi 0
  match mode with
  | 0 => (p, none)
  | 1 => (p, some (ptrNext p b l 1))
  | 2 => (p, some (ptrNext p b l (-1)))
  | 3 => (p, some (ptrNext p b l m))
  | 4 => ((((p : Int) + m) % 2 ^ 20).toNat, none)
  | 5 =>
    let k := l.log2
    let d := (p : Int) - b
    let o := (d % 2 ^ k).toNat
    let st := ((m % 2 ^ k)).toNat
    let o2 := bitRev k ((bitRev k o + bitRev k st) % 2 ^ k)
    (p, some ((((b : Int) + (d - o) + o2) % 2 ^ 20).toNat))
  | _ => (p, none)

/-- A load by a custom block: the value and whether the access is within its rights (R305-R307). `area` reads the axis area
and data memory. -/
def vmLoad (rd : Nat → Nat) (m : Vm) (a : Nat) : Nat × Bool :=
  if a < 0x6000 then (rd a, true)
  else if a < 0x8000 then (alGet 0 a m.scratch, true)
  else if 0x10000 ≤ a ∧ a < 0x12000 then
    let o := a - 0x10000
    if 0x1800 ≤ o then (alGet 0 o m.priv, true)
    else if 0x40 ≤ o ∧ o < 0x60 then (alGet 0 o m.hook, true)
    else (rd a, true)
  else (0, false)

/-- A store by a custom block is within its rights (R307). -/
def vmMayStore (r : VmRights) (a : Nat) : Bool :=
  if 0x6000 ≤ a ∧ a < 0x8000 then true
  else if 0x10000 ≤ a ∧ a < 0x12000 then
    let o := a - 0x10000
    r.outs.contains o || decide (r.privFrom ≤ o ∧ o < r.privFrom + r.privLen)
  else false

/-- A store lands. -/
def vmStore (m : Vm) (a v : Nat) : Vm :=
  if a < 0x8000 then { m with scratch := alSet 0 a v m.scratch }
  else
    let o := a - 0x10000
    if 0x1800 ≤ o then { m with priv := alSet 0 o v m.priv } else { m with hook := alSet 0 o v m.hook }

/-- One result lands. -/
def vmLand (m : Vm) (x : VmPend) : Vm :=
  match x.dst with
  | .v i => { m with regs := { m.regs with v := m.regs.v.set i x.val } }
  | .p i => { m with regs := { m.regs with p := m.regs.p.set i x.val } }
  | .mem a => vmStore m a x.val

/-- Results that this clock sees land, oldest first (R314). -/
def vmArrive (m : Vm) : Vm :=
  let now := m.pend.filter (fun x => decide (x.due ≤ m.clock))
  now.foldl vmLand { m with pend := m.pend.filter (fun x => decide (m.clock < x.due)) }

/-- A memory field of an instruction: `space` 0 any, 1 data memory and scratch only, 2 the axis area only (R308). -/
def vmMem (rd : Nat → Nat) (r : VmRights) (space f : Nat) (m : Vm) : Vm :=
  let kind := fieldOf f 10 2
  let vr := fieldOf f 6 4
  let pi := fieldOf f 3 3
  let (a, upd) := memAddr m.regs pi (fieldOf f 0 3)
  let m1 := match upd with
    | some p => if kind = 0 then m else { m with pend := m.pend ++ [⟨m.clock + 1, .p pi, p⟩] }
    | none => m
  let isAxis := decide (0x10000 ≤ a)
  let spaceOk := decide (space = 0) || (decide (space = 1) && !isAxis) || (decide (space = 2) && isAxis)
  let lat := if isAxis then 4 else 2
  if kind = 1 then
    let (v, ok) := vmLoad rd m a
    let ok := ok && spaceOk
    { m1 with pend := m1.pend ++ [⟨m.clock + lat, .v vr, if ok then v else 0⟩], viol := m1.viol || !ok }
  else if kind = 2 then
    if spaceOk ∧ vmMayStore r a then { m1 with pend := m1.pend ++ [⟨m.clock + lat, .mem a, m.reg vr⟩] }
    else { m1 with viol := true }
  else m1

/-- A MAC operation (R309): the accumulator after it and whether it saturated. Log 133 (DEDUCED). -/
def macOp (op x y : Nat) (acc : Int × Int) : (Int × Int) × Bool :=
  let xr := laneLo x; let xi := laneHi x; let yr := laneLo y; let yi := laneHi y
  let cr := xr * yr - xi * yi
  let ci := xr * yi + xi * yr
  let res : Int × Int := match op with
    | 1 => (cr, ci)
    | 2 => (acc.1 + cr, acc.2 + ci)
    | 3 => (acc.1 - cr, acc.2 - ci)
    | 4 => (acc.1 + (xr * yr + xi * yi), acc.2 + (xi * yr - xr * yi))
    | 5 => (xr * yr, xi * yi)
    | 6 => (acc.1 + xr * yr, acc.2 + xi * yi)
    | 7 => (acc.1 - xr * yr, acc.2 - xi * yi)
    | _ => acc
  let (a, f1) := satF 80 res.1
  let (b, f2) := satF 80 res.2
  ((a, b), f1 || f2)

/-- An arithmetic G operation on scalars, or on both lanes (R310): result and saturation. -/
def lanes2 (ln : Bool) (f : Int → Int → Int) (a b : Nat) : Nat × Bool :=
  if ln then
    let (lo, f1) := satF 32 (f (laneLo a) (laneLo b))
    let (hi, f2) := satF 32 (f (laneHi a) (laneHi b))
    (wLanes lo hi, f1 || f2)
  else
    let (x, f1) := satF 64 (f (s64 a) (s64 b))
    (w64 x, f1)

/-- Condition of SEL on F (R310). -/
def selCond (f c : Nat) : Bool :=
  let lt := bitOf f 0; let eq := bitOf f 1; let gt := bitOf f 2
  match c with
  | 0 => lt | 1 => eq | 2 => gt | 3 => lt || eq | 4 => gt || eq | 5 => !eq | 6 => bitOf f 3 | _ => true

/-- Latency of a G operation that writes a register (R310). Log 132 (DEDUCED). -/
def gLatency (op : Nat) : Nat :=
  if op = 0x14 ∨ op = 0x18 then 4 else if op = 0x15 ∨ op = 0x16 then 8 else if op = 0x17 then 36 else 1

/-- Value of a G operation that writes V: result and saturation (R310). -/
def gValue (op : Nat) (ln : Bool) (a b imm f : Nat) (acc : Int × Int) : Nat × Bool :=
  match op with
  | 0x01 => (a, false)
  | 0x02 => lanes2 ln (fun x y => x + y) a b
  | 0x03 => lanes2 ln (fun x y => x - y) a b
  | 0x04 => lanes2 ln (fun x _ => -x) a b
  | 0x05 => lanes2 ln (fun x _ => absI x) a b
  | 0x06 => lanes2 ln (fun x y => min x y) a b
  | 0x07 => lanes2 ln (fun x y => max x y) a b
  | 0x08 => lanes2 ln (fun x y => clamp (-absI y) (absI y) x) a b
  | 0x09 => lanes2 ln (fun x _ => x * 2 ^ imm) a b
  | 0x0A => lanes2 ln (fun x _ => shrHalfUp x imm) a b
  | 0x0B => (a &&& b, false)
  | 0x0C => (a ||| b, false)
  | 0x0D => (a ^^^ b, false)
  | 0x0F => (if selCond f (imm % 8) then a else b, false)
  | 0x10 => (a / 2 ^ 32 + 2 ^ 32 * (a % 2 ^ 32), false)
  | 0x11 =>
    let (hi, fl) := satF 32 (-laneHi a)
    (wLanes (laneLo a) hi, fl)
  | 0x12 =>
    let re := shrHalfUp acc.1 (imm % 128)
    let im := shrHalfUp acc.2 (imm % 128)
    if ln then
      let (lo, f1) := satF 32 re
      let (hi, f2) := satF 32 im
      (wLanes lo hi, f1 || f2)
    else
      let (x, f1) := satF 64 re
      (w64 x, f1)
  | 0x14 =>
    let (c, sn) := rot (a % 2 ^ 32 : Nat)
    (wLanes c sn, false)
  | 0x15 => ((atan2Turns 33 (laneHi a) (laneLo a) + 1) / 2 % 2 ^ 32, false)
  | 0x16 => (if s64 a < 0 then 0 else sqrtHalfUp (s64 a).toNat, false)
  | 0x17 =>
    if s64 b = 0 then
      if s64 a = 0 then (Config.divZero imm % 2 ^ 64, false)
      else (w64 (if s64 a < 0 then -(2 ^ 63) else 2 ^ 63 - 1), true)
    else
      let (x, fl) := satF 64 (divHalfUp (s64 a) (s64 b))
      (w64 x, fl)
  | 0x18 =>
    let (x, fl) := satF 64 (shrHalfUp (s64 a * s64 b) imm)
    (w64 x, fl)
  | _ => (0, false)

/-- A G operation writes a V register. -/
def gWrites (op : Nat) : Bool := decide (op ≠ 0 ∧ op ≠ 0x0E ∧ op ≠ 0x13 ∧ op ≤ 0x18)

def setSat (fl : Bool) (m : Vm) : Vm :=
  if fl then { m with regs := { m.regs with f := m.regs.f % 8 + 8 } } else m

/-- One instruction but for its control flow. -/
def vmExec (rd : Nat → Nat) (r : VmRights) (w : Nat) (m : Vm) : Vm :=
  match fieldOf w 62 2 with
  | 3 =>
    let (a0, f0) := macOp (fieldOf w 59 3) (m.reg (fieldOf w 55 4)) (m.reg (fieldOf w 51 4)) m.regs.a0
    let (a1, f1) := macOp (fieldOf w 48 3) (m.reg (fieldOf w 44 4)) (m.reg (fieldOf w 40 4)) m.regs.a1
    let m1 := vmMem rd r 2 (fieldOf w 16 12) (vmMem rd r 1 (fieldOf w 28 12) m)
    setSat (f0 || f1) { m1 with regs := { m1.regs with a0 := a0, a1 := a1 } }
  | 0 =>
    let op := fieldOf w 56 6
    let ln := bitOf w 55
    let vd := fieldOf w 51 4
    let a := m.reg (fieldOf w 47 4)
    let b := m.reg (fieldOf w 43 4)
    let imm := fieldOf w 35 8
    let seen := m.accs.getD 2 ((0, 0), (0, 0))
    let acc := if bitOf imm 7 then seen.2 else seen.1
    let (v, fl) := gValue op ln a b imm m.regs.f acc
    let m1 := vmMem rd r 0 (fieldOf w 20 12) m
    let m2 := if gWrites op then { m1 with pend := m1.pend ++ [⟨m.clock + gLatency op, .v vd, v⟩] } else m1
    if op = 0x0E then
      let x := if ln then laneLo a else s64 a
      let y := if ln then laneLo b else s64 b
      let f := b2n (decide (x < y)) + 2 * b2n (decide (x = y)) + 4 * b2n (decide (y < x)) + 8 * (m.regs.f / 8)
      { m2 with regs := { m2.regs with f := f } }
    else if op = 0x13 then
      let sh := imm % 128
      let (re, f1) := satF 80 ((if ln then laneLo a else s64 a) * 2 ^ sh)
      let (im, f2) := satF 80 (if ln then laneHi a * 2 ^ sh else 0)
      setSat (f1 || f2) { m2 with regs := if bitOf imm 7 then { m2.regs with a1 := (re, im) } else { m2.regs with a0 := (re, im) } }
    else setSat (gWrites op && fl) m2
  | 1 =>
    let d := fieldOf w 52 4
    let imm := fieldOf w 0 32
    let pi := d % 8
    match fieldOf w 56 6 with
    | 0 => { m with pend := m.pend ++ [⟨m.clock + 1, .v d, w64 (wrapS 32 imm)⟩] }
    | 1 => { m with pend := m.pend ++ [⟨m.clock + 1, .v d, m.reg d % 2 ^ 32 + 2 ^ 32 * imm⟩] }
    | 2 => { m with pend := m.pend ++ [⟨m.clock + 1, .p pi, imm % 2 ^ 20⟩] }
    | 3 => { m with regs := { m.regs with b := m.regs.b.set pi (imm % 2 ^ 20) } }
    | 4 => { m with regs := { m.regs with l := m.regs.l.set pi (imm % 2 ^ 16) } }
    | 5 => { m with regs := { m.regs with m := m.regs.m.set pi (wrapS 16 imm) } }
    | 6 => { m with pend := m.pend ++ [⟨m.clock + 1, .p pi, m.reg (fieldOf w 48 4) % 2 ^ 20⟩] }
    | _ => m
  | _ => m

/-- Address after an instruction, and the repeats that go on (R311, R313). -/
def vmNext (pc : Nat) : List (Nat × Nat × Nat) → Nat × List (Nat × Nat × Nat)
  | [] => (pc + 1, [])
  | (st, e, n) :: r => if pc = e then (if 1 < n then (st, (st, e, n - 1) :: r) else vmNext pc r) else (pc + 1, (st, e, n) :: r)

/-- One clock: results land, the instruction is issued, control moves on. -/
def vmStep (code : Nat → Nat) (rd : Nat → Nat) (r : VmRights) (m0 : Vm) : Vm :=
  let m := vmArrive m0
  let w := code m.pc
  let m1 := vmExec rd r w m
  let m2 := { m1 with clock := m.clock + 1, accs := ((m1.regs.a0, m1.regs.a1) :: m.accs).take 4 }
  if fieldOf w 62 2 = 2 then
    if fieldOf w 56 6 = 1 then { m2 with ended := true }
    else { m2 with pc := m.pc + 1, reps := (m.pc + 1, fieldOf w 0 14, fieldOf w 40 16) :: m.reps }
  else
    let (pc, reps) := vmNext m.pc m.reps
    { m2 with pc := pc, reps := reps }

/-- Run to END; the fuel covers every block that CHECK accepts (R317, R318). -/
def vmRun (code : Nat → Nat) (rd : Nat → Nat) (r : VmRights) : Nat → Vm → Vm
  | 0, m => m
  | n + 1, m => if m.ended then m else vmRun code rd r n (vmStep code rd r m)

/-- Everything under way lands after END. -/
def vmFlush (m : Vm) : Vm := (sortBy (fun x => x.due) m.pend).foldl vmLand { m with pend := [] }

/-! ### The image and the loader's checks (R315, R318-R320) -/

/-- A block of an image (R319). -/
structure CbBlock where
  entry : Nat
  hook : Nat
  slots : Nat
  writes : Nat
  stOfs : Nat
  stWords : Nat
  initOfs : Nat
  deriving DecidableEq, Repr

/-- Header fields: block count, code words, bytes of initial data (log 23). -/
def cbHeader (img : List Byte) : Nat × Nat × Nat := (getU img 0 4, getU img 4 4, getU img 8 4)

/-- Block entries (R319, log 23). -/
def cbBlock (img : List Byte) (i : Nat) : CbBlock :=
  let o := 64 + 16 * i
  ⟨getU img o 2, getU img (o + 2) 2, getU img (o + 4) 2, getU img (o + 6) 2, getU img (o + 8) 2, getU img (o + 10) 2,
   getU img (o + 12) 2⟩

/-- Word of program memory that holds the custom blocks: words 0x2000-0x3EFF (R316). -/
def cbCode (img : List Byte) (addr : Nat) : Nat :=
  let (n, len, _) := cbHeader img
  if 0x2000 ≤ addr ∧ addr < 0x2000 + len then getU img (64 + 16 * n + 8 * (addr - 0x2000)) 8 else 0

/-- Initial data words of a block. -/
def cbInit (img : List Byte) (b : CbBlock) : List Nat :=
  let (n, len, _) := cbHeader img
  let base := 64 + 16 * n + 8 * len
  if b.initOfs = 0xFFFF then [] else (List.range b.stWords).map (fun j => getU img (base + b.initOfs + 8 * j) 8)

/-- Budget of a hook in slots (R317). -/
def hookBudget (h : Nat) : Nat := [256, 256, 512, 384].getD h 0

/-- A memory field without reserved codes. -/
def memFieldOk (f : Nat) : Bool := decide (fieldOf f 10 2 ≠ 3) && (decide (fieldOf f 10 2 = 0) || decide (fieldOf f 0 3 ≤ 5))

/-- A memory field updates its pointer. -/
def memUpdates (f : Nat) : Option Nat :=
  let mode := fieldOf f 0 3
  if fieldOf f 10 2 ≠ 0 ∧ (mode = 1 ∨ mode = 2 ∨ mode = 3 ∨ mode = 5) then some (fieldOf f 3 3) else none

/-- An instruction has no reserved format or code and updates no pointer twice (R308-R312, R315). -/
def wordOk (w : Nat) : Bool :=
  match fieldOf w 62 2 with
  | 3 => memFieldOk (fieldOf w 28 12) && memFieldOk (fieldOf w 16 12) &&
      (match memUpdates (fieldOf w 28 12), memUpdates (fieldOf w 16 12) with
       | some a, some b => decide (a ≠ b)
       | _, _ => true)
  | 0 => decide (fieldOf w 56 6 ≤ 0x18) && memFieldOk (fieldOf w 20 12)
  | 1 => decide (fieldOf w 56 6 ≤ 6)
  | _ => decide (fieldOf w 56 6 = 1) || (decide (fieldOf w 56 6 = 0) && decide (fieldOf w 40 16 ≠ 0))

/-- Pointers as the loader follows them from the entry on, and those that MOVP has set from a V register, whose addresses it does not
know (R304, R311, R312). -/
structure PtrWalk where
  regs : TileRegs := {}
  unknown : List Nat := []
  deriving DecidableEq, Repr

/-- Latencies that a format G memory field may have: 2 in data memory and scratch, 4 in the axis area (R314). -/
def PtrWalk.lats (k : PtrWalk) (f : Nat) : List Nat :=
  if k.unknown.contains (fieldOf f 3 3) then [2, 4]
  else if 0x10000 ≤ (memAddr k.regs (fieldOf f 3 3) (fieldOf f 0 3)).1 then [4] else [2]

/-- A memory field moves its pointer. -/
def PtrWalk.field (k : PtrWalk) (f : Nat) : PtrWalk :=
  match memUpdates f with
  | some pi => match (memAddr k.regs pi (fieldOf f 0 3)).2 with
    | some p => { k with regs := { k.regs with p := k.regs.p.set pi p } }
    | none => k
  | none => k

/-- The pointers after an instruction. -/
def PtrWalk.after (k : PtrWalk) (w : Nat) : PtrWalk :=
  let d := fieldOf w 52 4 % 8
  let imm := fieldOf w 0 32
  match fieldOf w 62 2 with
  | 3 => (k.field (fieldOf w 28 12)).field (fieldOf w 16 12)
  | 0 => k.field (fieldOf w 20 12)
  | 1 => match fieldOf w 56 6 with
    | 2 => { regs := { k.regs with p := k.regs.p.set d (imm % 2 ^ 20) }, unknown := k.unknown.filter (fun i => decide (i ≠ d)) }
    | 3 => { k with regs := { k.regs with b := k.regs.b.set d (imm % 2 ^ 20) } }
    | 4 => { k with regs := { k.regs with l := k.regs.l.set d (imm % 2 ^ 16) } }
    | 5 => { k with regs := { k.regs with m := k.regs.m.set d (wrapS 16 imm) } }
    | 6 => { k with unknown := d :: k.unknown }
    | _ => k
  | _ => k

/-- V registers an instruction writes, with the latency of each write; a load through a pointer that the loader does not know may have
either latency. -/
def wordWrites (k : PtrWalk) (w : Nat) : List (Nat × Nat) :=
  let ld := fun (f : Nat) (lats : List Nat) => if fieldOf f 10 2 = 1 then lats.map (fun l => (fieldOf f 6 4, l)) else []
  match fieldOf w 62 2 with
  | 3 => ld (fieldOf w 28 12) [2] ++ ld (fieldOf w 16 12) [4]
  | 0 => (if gWrites (fieldOf w 56 6) then [(fieldOf w 51 4, gLatency (fieldOf w 56 6))] else []) ++
      ld (fieldOf w 20 12) (k.lats (fieldOf w 20 12))
  | 1 => if fieldOf w 56 6 ≤ 1 then [(fieldOf w 52 4, 1)] else []
  | _ => []

/-- Two results of one instruction may land in one register in the same clock (R315). -/
def wordClash (k : PtrWalk) (w : Nat) : Bool :=
  let f := fieldOf w 20 12
  decide (fieldOf w 62 2 = 0) && gWrites (fieldOf w 56 6) && decide (fieldOf f 10 2 = 1 ∧ fieldOf f 6 4 = fieldOf w 51 4) &&
    (k.lats f).contains (gLatency (fieldOf w 56 6))

/-- Stores of an instruction that go, or may go, to the axis area (R319). -/
def wordStores (k : PtrWalk) (w : Nat) : Nat :=
  match fieldOf w 62 2 with
  | 3 => b2n (decide (fieldOf (fieldOf w 16 12) 10 2 = 2))
  | 0 => b2n (decide (fieldOf (fieldOf w 20 12) 10 2 = 2) && (k.lats (fieldOf w 20 12)).contains 4)
  | _ => 0

/-- Structure of an image: block count, code length and the bytes that they ask for (R319). -/
def cbShapeOk (img : List Byte) : Bool :=
  let (n, len, ini) := cbHeader img
  decide (1 ≤ n ∧ n ≤ 16 ∧ len ≤ 7936 ∧ img.length = 64 + 16 * n + 8 * len + ini + 64)

end Sys2Proof.Machine
end

