-- ==== Sys2Proof/Machine/AxisPass.lean ====
section
/-! DEFINITION. The tile's pass over one axis: set-point, feedback, position, velocity, current, modulation, the hooks of custom
blocks, homing, latches and the frame that is built (02_control_cycle.md, R37; 11_loop_tiles.md, R304-R317). -/

namespace Sys2Proof.Machine

/-- A pass under way: the axis, what it has reported, and the registers and scratch of its custom blocks (R304, R305). -/
structure Pass where
  x : Axis
  regs : TileRegs := {}
  occs : List Occ := []
  scratch : List (Nat × Nat) := []
  viol : Bool := false
  /-- Clocks that its custom blocks took to END. -/
  clocks : Nat := 0
  deriving DecidableEq, Repr

def Pass.add (p : Pass) (x : Axis) (o : List Occ) : Pass := { p with x := x, occs := p.occs ++ o }

/-! ### Custom blocks -/

/-- The block selected at a hook of an axis, if the applied image holds it (R317, R321). -/
def cbSelected (s : State) (a : AxisId) (h : Nat) : Option CbBlock :=
  let i := ((s.par pCycCbSel a.val).getD h 0xFF).toNat
  let img := s.tiles.image
  if i = 0xFF ∨ s.tiles.absent ∨ img.isEmpty then none
  else if i < (cbHeader img).1 then some (cbBlock img i) else none

/-- Contents of the data memory of the tile that holds an axis (R302). -/
def State.tileData (s : State) (a : AxisId) : Nat :=
  match (List.finRange 5).find? (fun i => (s.tileRow i).contains a.val) with
  | some i => (s.tiles.tiles.get i).data
  | none => 0

/-- A word of data memory or of the axis area outside the private and hook words, as a block reads it (R305, R306): the upstream
payload, the downstream payload that the last frame left, and the trace outputs; the layout of the others, and the contents of data memory,
are not given (log 19). -/
def areaRead (s : State) (a : AxisId) (x : Axis) (addr : Nat) : Nat :=
  if addr < 0x10000 then Config.areaWord (s.tileData a) addr % 2 ^ 64
  else
    let o := addr - 0x10000
    if o < 0x0A then getU x.link.upRaw (8 * o) 8
    else if 0x10 ≤ o ∧ o < 0x16 then getU x.link.dnRaw (8 * (o - 0x10)) 8
    else if 0x60 ≤ o ∧ o < 0xC0 then w64 (axisNode s a x (o - 0x60))
    else Config.areaWord (64 * s.time.lt + a.val + 1) o % 2 ^ 64

/-- A word of program memory: the custom blocks; the standard program and the self-test slice hold words that the manual does not give
(R316, log 19). -/
def progWord (s : State) (addr : Nat) : Nat :=
  if 0x2000 ≤ addr ∧ addr < 0x3F00 then s.tiles.prog.getD (addr - 0x2000) 0 else Config.areaWord 1 addr % 2 ^ 64

/-- Words that a hook's block may write (R307, R317). -/
def hookOuts (h : Nat) : List Nat := [[0x40, 0x41, 0x42], [0x48], [0x51], [0x58]].getD h []

/-- Call of the block at a hook, if one is selected: the registers are clear, the scratch is that of the pass (R304, R305,
R317). The second result says whether a block ran. Log 201 (DEDUCED). -/
def callHook (s : State) (a : AxisId) (h : Nat) (ins : List (Nat × Nat)) (p : Pass) : Pass × Bool :=
  match cbSelected s a h with
  | none => (p, false)
  | some b =>
    let hook := ins.foldl (fun l e => alSet 0 e.1 e.2 l) p.x.hook
    let m0 : Vm := { scratch := p.scratch, hook := hook, priv := p.x.priv, pc := b.entry }
    let r : VmRights := ⟨hookOuts h, b.stOfs, b.stWords, a.val, s.time.lt⟩
    let m := vmFlush (vmRun (progWord s) (areaRead s a p.x) r 600 m0)
    ({ p with x := { p.x with hook := m.hook, priv := m.priv }, regs := m.regs, scratch := m.scratch, viol := p.viol || m.viol, clocks := p.clocks + m.clock }, true)

/-- A hook word after the call. -/
def Pass.word (p : Pass) (o : Nat) : Nat := alGet 0 o p.x.hook

/-! ### Stages -/

/-- The set-point of a position cycle from the buffer of its parity; one that is not ready extends the one before
(R40, R41). -/
def takeSetPoint (s : State) (a : AxisId) (x : Axis) : Axis × List Occ :=
  let even := decide (s.cyc.posNo % 2 = 0)
  let b := if even then x.spEven else x.spOdd
  if b.ready then
    let x1 := { x with pSet := b.p, vSet := b.v, aSet := b.a, lateRun := 0 }
    (if even then { x1 with spEven := { b with ready := false } } else { x1 with spOdd := { b with ready := false } },
     if 0 < x.lateRun then [occEnd fSetpointLate a.val] else [])
  else
    ({ x with pSet := satS 64 (x.pSet + divHalfUp (x.vSet * s.posNs) (10 ^ 9)), aSet := 0, lateRun := min (x.lateRun + 1) 2 },
     if x.lateRun = 0 then [occAt fSetpointLate a.val 1] else if x.lateRun = 1 then [occAt fSetpointLate a.val 2] else [])

/-- The set-point of a cycle that is not computed is discarded (R89). Log 187 (DEDUCED). -/
def dropSetPoint (s : State) (x : Axis) : Axis :=
  if ¬ s.cyc.posCyc then x
  else if s.cyc.posNo % 2 = 0 then { x with spEven := { x.spEven with ready := false } }
  else { x with spOdd := { x.spOdd with ready := false } }

/-- Feedback with H0, the measured currents with their supervision, and the observer (R128 steps 1-3, R140, R168-R172,
R188-R205). -/
def passFeedback (s : State) (a : AxisId) (u : UpFrame) (on : Bool) (t : Int) (p : Pass) : Pass :=
  let (x1, o1) := feedbackStage s a u on t p.x
  let (p2, ran) := callHook s a 0 [(0x40, w64 x1.fb.pFb), (0x41, w64 x1.fb.vFb), (0x42, (wrapU 32 x1.fb.thetaE).toNat)]
    (p.add x1 o1)
  let x2 := if ran then
      { p2.x with fb := { p2.x.fb with pFb := s64 (p2.word 0x40), vFb := s64 (p2.word 0x41),
                                       thetaE := (p2.word 0x42 % 2 ^ 32 : Nat) } }
    else p2.x
  let (d, q, i0) := measured (s.pa pAxMotKind a) u x2.fb.thetaE
  let (c, o3) := supervise s a x2 d q i0
  let x3 := { x2 with cur := { c with raw := [u.iU, u.iV, u.iW, u.vBus] }, vel := { x2.vel with switch := (match x2.pendSw with | some w => w.made | none => false) } }
  let (x4, o4) := observer s a on x3
  p2.add { x4 with cur := { x4.cur with refQPrev := x4.cur.refQ } } (o3 ++ o4)

/-- Position stage of a closed position loop with H1 (R162, R163). -/
def passPosition (s : State) (a : AxisId) (p : Pass) : Pass :=
  let x1 := { p.x with vel := { p.x.vel with eP := posError p.x } }
  let (p2, ran) := callHook s a 1 [(0x48, w64 x1.vel.eP)] { p with x := x1 }
  let x2 := if ran then { p2.x with vel := { p2.x.vel with eP := s64 (p2.word 0x48) } } else p2.x
  let (x3, o) := posStage s a x2
  p2.add x3 o

/-- Velocity stage with H2 in place of the biquads (R164, R165). -/
def passVelocity (s : State) (a : AxisId) (p : Pass) : Pass :=
  let v1 := velFront s a p.x
  let (p2, ran) := callHook s a 2 [(0x50, w64 v1.u), (0x51, w64 v1.u)] { p with x := { p.x with vel := v1 } }
  let v2 := if ran then { p2.x.vel with uF := satS 32 (s64 (p2.word 0x51)) } else biquads s a p2.x.vel
  { p2 with x := { p2.x with vel := velBack v2 } }

/-- The stages between feedback and current by the control mode (R158, R159, R167). -/
def passMotion (s : State) (a : AxisId) (on : Bool) (p : Pass) : Pass :=
  let m := p.x.mode
  if ¬ on ∨ 5 ≤ m then
    { p with x := { p.x with vel := { p.x.vel.noBlend with velLim := false, ferrHi := false, ferrRun := 0, awHold := false, incV := none } } }
  else if m = 0 then
    let v := { p.x.vel with velLim := false, ferrHi := false, ferrRun := 0 }
    { p with x := { p.x with vel := if s.cyc.velCyc then torqueStage s a v else v } }
  else
    let p1 := if s.cyc.posCyc then (if m = 1 then { p with x := velRefs p.x } else passPosition s a p) else p
    if s.cyc.velCyc then passVelocity s a p1 else p1

/-- H3 after step 4, and R134 again on its outputs (R317). -/
def passRefs (s : State) (a : AxisId) (idr iqr : Int) (p : Pass) : Pass × Int × Int × Bool :=
  let (p1, ran) := callHook s a 3 [(0x58, wLanes idr iqr)] p
  if ran then
    let w := p1.word 0x58
    let (d, q, l) := limitAgain s a p1.x (laneLo w) (laneHi w)
    (p1, d, q, l)
  else (p1, idr, iqr, false)

/-- The electrical speed, for brushed DC the mechanical one (R133, R139). -/
def elSpeed (s : State) (a : AxisId) (x : Axis) : Int := x.vel.vHat * s.polePairs a

/-- Steps 4 to 9 and the modulation stage of an axis with torque and three or two half-bridges. -/
def passDrive (s : State) (a : AxisId) (u : UpFrame) (p : Pass) : Pass × Carrier :=
  let (idr, iqr, l1, inj) := currentRefs s a p.x p.x.vel.iQRef
  let (p1, d, q, l2) := passRefs s a idr iqr p
  let x := p1.x
  let w := elSpeed s a x
  let x1 := { x with cur := currentLoop s a x u w d q (l1 || l2) inj }
  let m := modulate s a x1 u
  let c := x1.cur
  let c1 := { c with intD := commitInt m.vlim c.intD c.incD c.vDRaw, intQ := commitInt m.vlim c.intQ c.incQ c.vQRaw }
  let x2 := { x1 with cur := c1, vel := commitVel s a x1 c.iLimHit m.vlim,
                      mod := { x1.mod with vlim := m.vlim, pulseClamp := m.clampHit, pulseDrop := m.drop } }
  let x3 := { x2 with cur := { c1 with id := identify s a x2 true (m.clampHit || m.drop) w } }
  ({ p1 with x := x3 }, m.car)

/-- The same for a stepper with torque (R142-R147). -/
def passStepper (s : State) (a : AxisId) (u : UpFrame) (p : Pass) : Pass × Carrier :=
  let (p1, q, l) : Pass × Int × Bool :=
    if p.x.mode = 5 then (p, 0, false)
    else
      let lim := iLim s a p.x
      let q0 := clamp (-lim) lim p.x.vel.iQRef
      let (p1, d, q, _) := passRefs s a 0 q0 p
      let (_, q2, l2) := limitRefs lim d q
      (p1, q2, decide (q0 ≠ p.x.vel.iQRef) || l2)
  let x := p1.x
  let (c, chop, o) := stepperStage s a x u true q
  let x1 := { x with cur := { c with iLimHit := c.iLimHit || l }, mod := { x.mod with vlim := false, pulseClamp := false, pulseDrop := false } }
  let x2 := { x1 with vel := if x.mode = 5 then x1.vel else commitVel s a x1 x1.cur.iLimHit false }
  let stalled := o.any (fun e => decide (e.code = fStall))
  let x3 := { x2 with cur := { x2.cur with id := identify s a x2 true false (elSpeed s a x2) },
                      home := if stalled then { x2.home with referenced := false } else x2.home }
  (p1.add x3 o, chopperCarrier s a chop)

/-- What the current stage leaves without torque and in the test mode (R123, R129). -/
def passIdle (s : State) (a : AxisId) (u : UpFrame) (p : Pass) : Pass :=
  let x := p.x
  let c0 := if s.pa pAxMotKind a = 2 then (stepperStage s a x u false 0).1 else x.cur
  let x1 := { x with cur := currentIdle c0, mod := { x.mod with vlim := false, pulseClamp := false, pulseDrop := false } }
  { p with x := { x1 with cur := { x1.cur with id := identify s a x1 false false (elSpeed s a x1) } } }

/-- The current and modulation stages: the pass and the carrier of the frame. -/
def passCurrent (s : State) (a : AxisId) (u : UpFrame) (on : Bool) (p : Pass) : Pass × Carrier :=
  if ¬ on then (passIdle s a u p, offCarrier s a p.x)
  else if p.x.mode = 6 then
    let p1 := passIdle s a u p
    let m := pairOut s a p1.x.mod
    ({ p1 with x := { p1.x with mod := { p1.x.mod with pulseClamp := m.clampHit, pulseDrop := m.drop } } }, m.car)
  else if s.pa pAxMotKind a = 2 then passStepper s a u p
  else passDrive s a u p

/-! ### Switches, homing and limits in the pass -/

/-- Raw level and edge instant in quarter ns of a register input (R79, R248). -/
def regEdge (u : UpFrame) (t : Int) (src : Nat) : Bool × Option Int :=
  let ts := if src = 0x10 then u.reg0Ts else u.reg1Ts
  (bitOf u.hallIo (if src = 0x10 then 3 else 4), if ts = noStamp then none else some (4 * t + ts))

/-- The position less p_ref at an instant, in quarter ns, of the window from the last computed cycle at `t` (R201, R257). -/
def baseAt (f : Fb) (t ti4 : Int) : Int :=
  match f.prevT with
  | some l => interp f.prevBase (4 * l) (f.pFb - f.pRef) (4 * t) ti4
  | none => f.pFb - f.pRef

/-- Evaluation of the register inputs and interpolation of the latest raw edges (R250, R257). -/
def passSwitch (s : State) (a : AxisId) (u : UpFrame) (t : Int) (k : SwitchSel) (x : Axis) : Axis :=
  let src := swSource s a k
  let w := x.sw k
  let w1 := if src = 0x10 ∨ src = 0x11 then (let (l, e) := regEdge u t src; w.eval l e (4 * t)) else w
  if w1.edgePend then
    let b := baseAt x.fb t w1.tE
    x.setSw k { w1 with edgeBase := b, edgePend := false,
                        stampBase := if w1.stamp = w1.tE then b else w1.stampBase }
  else x.setSw k w1

/-- The axis moves in the direction `d` (R252). -/
def movesToward (x : Axis) (d : Int) : Bool := decide (signOf (if x.mode = 0 then x.vel.vHat else x.vSet) = d)

/-- HW_LIMIT outside homing (R252). -/
def passLimits (s : State) (a : AxisId) (x : Axis) : Axis × List Occ :=
  let hit := fun (k : SwitchSel) (d : Int) => decide (x.home.phase = 0) && swActive (s.modAxis a (fun _ => x)) a k && movesToward x d
  let p := hit .pos 1
  let n := hit .neg (-1)
  ({ x with swPos := { x.swPos with hwLimit := p }, swNeg := { x.swNeg with hwLimit := n } },
   condStep fHwLimit a.val (x.swPos.hwLimit || x.swNeg.hwLimit) (p || n))

/-- Travel, the awaited reference edge, the index edge and PRESS of a running HOME (R254-R258). -/
def passHome (s : State) (a : AxisId) (u : UpFrame) (t : Int) (x : Axis) : Axis × List Occ :=
  let h := x.home
  if h.phase = 0 then (x, [])
  else
    let travel := h.travel + (absI (x.fb.pFb - h.last)).toNat
    let mx := s.pn pAxHomeMaxTravel a.val
    let ref1 := if h.refWait then some (baseAt x.fb t (x.sw (homeTarget s a)).stamp) else h.ref
    let idx := decide (h.phase = 4 ∧ h.next = none ∧ h.ref = none) && x.fb.indexSeen &&
      decide (4 * h.since ≤ 4 * t + u.indexTs)
    let press := decide (h.phase = 5 ∧ h.next = none) && x.cur.iLimHit && decide (absI x.vel.vHat ≤ s.pa pAxProfStillV a)
    let since := if press then some (h.pressSince.getD s.time.lt) else none
    ({ x with home := { h with travel := travel, last := x.fb.pFb, ref := if idx then some x.fb.pI else ref1, refWait := false,
                               pressSince := since } },
     if mx ≠ 0 ∧ mx < travel ∧ ¬ (h.travel > mx) then [occOf fHomeTravel a.val] else [])

/-- A reported ID_BOUND ends with its condition (R153, R175). -/
def passBound (s : State) (a : AxisId) (x : Axis) : Axis × List Occ :=
  if x.cur.id.boundRep ∧ ¬ idHeld s a x then
    ({ x with cur := { x.cur with id := { x.cur.id with boundRep := false } } }, [occEnd fIdBound a.val])
  else (x, [])

/-! ### The pass as a whole -/

/-- LATCH_ARM0 and LATCH_ARM1 of a frame: a channel on REG0 or REG1 is armed (R262). -/
def armFrame (s : State) (a : AxisId) (x : Axis) (dn : DnFrame) : DnFrame :=
  let armed := fun (src ch : Nat) => (x.latch ch).armed && !(x.latch ch).hold && decide (fieldOf (latchCfg s a ch) 0 8 = src)
  { dn with arm0 := [0, 1].any (armed 0x10), arm1 := [0, 1].any (armed 0x11) }

/-- The whole pass of a computed axis: `t` is the sample instant in FT ns. The frame is built with it. -/
def axisPass (s : State) (a : AxisId) (u : UpFrame) (t : Int) : Pass :=
  let x0 := s.ax a
  let on := x0.enabled || x0.offLate
  let (x0, o1) := if s.cyc.posCyc then takeSetPoint s a x0 else (x0, [])
  let x1 := if x0.vSet = 0 then x0
    else { x0 with cur := { x0.cur with stp := { x0.cur.stp with lastDir := signOf x0.vSet } } }
  let p1 := passFeedback s a u on t { x := x1, occs := o1 }
  let p2 := passMotion s a on p1
  let (p3, car) := passCurrent s a u on p2
  let v := if s.cyc.velCyc then inertiaStage s a on p3.x else inertiaBetween on p3.x
  let c4 := { p3.x.cur with stp := { p3.x.cur.stp with chop := car.chop } }
  let x4 := allSw.foldl (fun x k => passSwitch s a u t k x) { p3.x with vel := v, cur := c4 }
  let (x5, o5) := passHome s a u t x4
  let (x6, o6) := passLimits s a x5
  let (x6, o7) := passBound s a x6
  let dn : DnFrame := { x6.dn with
    type := 0x11, enable := on, rep := false, built := true, car := car, tripClear := x6.link.clearsTrip }
  p3.add { x6 with dn := armFrame s a x6 dn } (o5 ++ o6 ++ o7)

/-- The frame of an axis that is not computed: REPEAT with the carrier before, or with no half-bridge (R89). -/
def repeatFrame (s : State) (a : AxisId) (x : Axis) : DnFrame :=
  let on := (x.enabled || x.offLate) && x.dn.enable
  armFrame s a x { x.dn with
    type := 0x11, enable := on, rep := true, built := true, car := if on then x.dn.car else offCarrier s a x
    tripClear := x.link.clearsTrip }

/-- An axis that the tiles do not compute in this cycle (R89, R42, R263). -/
def skipAxis (a : AxisId) (s : State) : State :=
  s.modAxis a (fun x0 =>
    let x := dropSetPoint s x0
    { x with
      cur := { x.cur with id := identifySkip x.cur.id, stp := { x.cur.stp with prevSent := false } }
      vel := { x.vel with jWhole := false }
      fb := { x.fb with adaptOk := false }
      latch0 := { x.latch0 with prevValid := false }
      latch1 := { x.latch1 with prevValid := false }
      dn := repeatFrame s a x })

/-! ### Latches -/

/-- Level of a latch source, and its first edge in the window in quarter ns of FT (R260, R262). -/
def latchSource (s : State) (u : UpFrame) (t : Int) (src : Nat) : Bool × Option Int :=
  let st := fun (ts : Int) => if ts = noStamp then none else some (4 * t + ts)
  if src = 0x10 then (bitOf u.hallIo 3, st u.reg0Ts)
  else if src = 0x11 then (bitOf u.hallIo 4, st u.reg1Ts)
  else if src = 0x12 then (false, st u.indexTs)
  else if h : 8 ≤ src ∧ src < 16 then
    let d := s.fld.di.get ⟨src, by omega⟩
    (d.lvl, d.win.map (fun x => 4 * x))
  else (false, none)

/-- The source level before the window (R263): of an index edge it is low, so that the edge rises. Log 202 (DEDUCED). -/
def latchBefore (s : State) (l : Latch) (src : Nat) : Option Bool :=
  if src = 0x12 then some false
  else if h : 8 ≤ src ∧ src < 16 then some (s.fld.di.get ⟨src, by omega⟩).lvlPrev
  else if l.prevValid then some l.prevLevel else none

/-- A captured edge is stored; its LATCH event follows at the close of the tile window (R264). -/
def latchStore (a : AxisId) (ch : Nat) (time pos tide : Int) (rising cont : Bool) (s : State) : State :=
  s.modAxis a (fun x =>
    let l := x.latch ch
    x.setLatch ch { l with time := time, pos := pos, tidePos := tide, count := (l.count + 1) % 2 ^ 16, valid := true,
                           rising := rising, armed := cont, ev := true })

/-- One latch channel in a computed cycle (R263, R264, R467). -/
def latchStage (a : AxisId) (u : UpFrame) (t : Int) (s : State) (ch : Nat) : State :=
  let x := s.ax a
  let l := x.latch ch
  let cfg := latchCfg s a ch
  let src := fieldOf cfg 0 8
  let (level, edge) := latchSource s u t src
  let keep := fun (s : State) => s.modAxis a (fun x => x.setLatch ch { (x.latch ch) with prevLevel := level, prevValid := true })
  if src < 16 ∧ s.unitMasked (0x90 + src) then
    s.modAxis a (fun x => x.setLatch ch { (x.latch ch) with armed := false })
  else match edge, latchBefore s l src with
    | some ti4, some before =>
      let low := allSw.any (fun k => decide (swSource s a k = src) && swLow s a k)
      let rising := !before != low
      let e := fieldOf cfg 8 2
      let time := divHalfUp ti4 4
      let pos := baseAt x.fb t ti4 + x.fb.pRef
      let win := fieldOf cfg 11 2
      let ok := l.armed && (decide (e = 2) || decide (e = 0) == rising) && decide (4 * l.from_ ≤ ti4) &&
        (if win = 1 then decide (l.winS ≤ pos ∧ pos < l.winE) else if win = 2 then decide (4 * l.winS ≤ ti4 ∧ ti4 < 4 * l.winE) else true)
      if ok then
        let tide := if bitOf cfg 13 then (s.tideAt ⟨fieldOf cfg 14 2 % 4, by omega⟩ time).1 else 0
        keep (latchStore a ch time pos tide rising (bitOf cfg 10) s)
      else keep s
    | _, _ => keep s

/-- What a tile has stored for an axis: the frame that it built, hook words and private words by offset, and its clocks (R306, R327). -/
def passStores (a : AxisId) (clocks : Nat) (s : State) : CheckPass :=
  let x := s.ax a
  let body := dnBytes x.dn 0 0 0 0
  ⟨a.val, (List.range 6).map (fun j => (0x10 + j, getU body (8 * j) 8)) ++ x.hook ++ x.priv, clocks⟩

/-- T4 re-computes an axis of the checked tile into its check buffer, and the checked tile's own stores stand beside (R327). -/
def checkPass (tile : Fin 5) (a : AxisId) (clocks : Nat) (s : State) : State :=
  if s.tiles.checked = tile.val then
    let c := passStores a clocks s
    { s with tiles := { s.tiles with checkBuf := s.tiles.checkBuf ++ [c], checkOwn := s.tiles.checkOwn ++ [c] } }
  else s

/-- A tile computes an axis: its pass, what it reports, group coordinates, SET and latches; a channel that disarms clears its bit of the
frame of this cycle (R257, R264, R304). -/
def computeAxis (tile : Fin 5) (a : AxisId) (u : UpFrame) (s0 : State) : State :=
  let s := s0.modTile tile (fun x => { x with data := 64 * s0.time.lt + a.val + 2 })
  let t := s.cyc.start
  let ref := (s.ax a).fb.pRef
  let p := axisPass s a u t
  let s1 := (s.modAxis a (fun _ => p.x)).modTile tile (fun x => { x with regs := p.regs, scratch := p.scratch })
  let s2 := p.occs.foldl State.raiseOcc s1
  let s3 := if p.viol then s2.raise fCbAccess a.val else s2
  let s4 := if p.x.fb.pRef = ref then s3 else shiftGroup a (p.x.fb.pRef - ref) s3
  let s5 := if p.x.home.phase = 6 then homeApply a s4 else s4
  let s6 := [0, 1].foldl (fun s ch => latchStage a u t s ch) s5
  checkPass tile a p.clocks (s6.modAxis a (fun x => { x with dn := armFrame s6 a x x.dn }))

end Sys2Proof.Machine
end

