-- ==== Sys2Proof/Machine/Can.lean ====
section
/-! DEFINITION. The two CAN FD controllers: bit timing, message objects, sending, receiving and error states
(18_field_io_can.md, R526-R536). -/

namespace Sys2Proof.Machine

/-! ### Bit timing (R527) -/

/-- The smallest prescaler and its whole number of time quanta in a range, from a CAN clock of 80 MHz. -/
def bitTiming (rate lo hi : Nat) : Option (Nat × Nat) :=
  if rate = 0 then none
  else ((List.range 256).map (fun i => (i + 1, 80000 / ((i + 1) * rate)))).find?
    (fun e => decide (80000 % (e.1 * rate) = 0 ∧ lo ≤ e.2 ∧ e.2 ≤ hi))

/-- The sample point in time quanta. -/
def samplePoint (n sp : Nat) : Int := divHalfUp ((n * sp : Nat) : Int) 1000

/-- RATE_BAD: a phase that the mode uses has no whole N; a data rate of 0 means that no frame switches rate. -/
def canRateBad (s : State) (c : Nat) : Bool :=
  let mode := s.p1 pCanMode c
  let nom := (bitTiming (s.pn pCanRateNominal c) 8 80).isNone
  let dr := s.pn pCanRateData c
  decide (mode ≠ 0) && (nom || (decide (2 ≤ mode ∧ dr ≠ 0) && (bitTiming dr 5 40).isNone))

/-- A channel takes its configuration: it integrates, or stays off the bus (R527, R530). Its objects start empty (log 62). -/
def canConfigure (c : Fin 2) (s : State) : State :=
  let bad := canRateBad s c.val
  (canOff c s).modCan c (fun x => { x with
    st := if s.p1 pCanMode c.val = 0 ∨ bad ∨ ¬ s.domOn .host ∨ s.unitMasked (0xAC + c.val) then 0 else 1, rateBad := bad, tec := 0, rec_ := 0, objs := [] })

/-! ### Objects (R528, R530, R535) -/

/-- A field of an object's entry in `can[c].objects`. -/
def State.objU (s : State) (c o ofs n : Nat) : Nat :=
  ofLE (((s.par pCanObjects c).drop (16 * o + ofs)).take n |>.map (BitVec.ofInt 8))

def State.objKind (s : State) (c o : Nat) : Nat := s.objU c o 8 1

/-- The configuration in force uses CAN1 for safe messages (R535). -/
def State.canSafe (s : State) : Bool := s.safe.config.isSome && (bitOf (s.cfgU 1 1) 0 || decide (0 < s.safeSubs))

/-- Objects 112-127 of CAN1 are reserved (R535). -/
def State.objReserved (s : State) (c o : Nat) : Bool := s.canSafe && decide (c = 1 ∧ 112 ≤ o)

/-- CONFLICT: reserved, or a send object of CAN1 with an identifier of the safe messages (R535). -/
def State.objConflict (s : State) (c o : Nat) : Bool :=
  s.objReserved c o ||
    (s.canSafe && decide (c = 1 ∧ s.objKind c o = 2) && !bitOf (s.objU c o 0 4) 29 &&
      decide (0x600 ≤ s.objU c o 0 4 % 2048 ∧ s.objU c o 0 4 % 2048 ≤ 0x6FE))

def State.canObj (s : State) (c : Fin 2) (o : Nat) : CanObj := alGet {} o (s.can.get c).objs

def State.modObj (s : State) (c : Fin 2) (o : Nat) (f : CanObj → CanObj) : State :=
  s.modCan c (fun x => { x with objs := alSet {} o (f (alGet {} o x.objs)) x.objs })

/-- An entry of `can[c].objects` keeps to R528: codes, ranges and reserved bits. -/
def canEntryOk (e : List Byte) : Bool :=
  let u := fun (o n : Nat) => ofLE ((e.drop o).take n)
  decide (u 0 4 < 2 ^ 30 ∧ u 4 4 < 2 ^ 30 ∧ u 8 1 ≤ 2 ∧ u 9 1 < 8 ∧ u 11 1 = 0 ∧ u 14 2 = 0) &&
    (decide (u 8 1 ≠ 2) || decide (u 10 1 ≤ (if bitOf (u 9 1) 0 then 15 else 8) ∧ u 12 2 ≤ 10000))

/-- The 128 entries of `can[c].objects`. -/
def canObjectsOk (l : List Byte) : Bool := (List.range 128).all (fun o => canEntryOk ((l.drop (16 * o)).take 16))

/-- Data bytes that a DLC stands for (ISO 11898-1). -/
def dlcLen (dlc : Nat) : Nat := if dlc ≤ 8 then dlc else [12, 16, 20, 24, 32, 48, 64].getD (dlc - 9) 64

/-- The shadow data of a send object, or the data of a receive object (R530, R532). -/
def State.objData (s : State) (c : Fin 2) (o : Nat) : List Byte :=
  if s.objKind c.val o = 2 ∧ ¬ s.objReserved c.val o then memReadN (s.can.get c).shadow (64 * o) 64
  else padTo 64 (s.canObj c o).data

/-- OBJ_STAT (R530). -/
def State.objStat (s : State) (c : Fin 2) (o : Nat) : Nat :=
  let x := s.canObj c o
  packBits [(1, b2n x.new), (1, b2n x.ovr), (1, 0), (1, b2n x.txPend), (1, b2n x.txDone), (1, b2n x.txFail),
    (1, b2n (s.objConflict c.val o)), (1, 0), (4, x.dlc), (1, b2n x.fdf), (1, b2n x.brs)]

/-- CAN_STAT (R530). -/
def State.canStat (s : State) (c : Fin 2) : Nat :=
  let x := s.can.get c
  packBits [(3, x.st), (1, b2n x.rateBad), (4, 0), (8, min 255 x.tec), (8, min 255 x.rec_), (8, 0), (16, x.unmatched), (16, x.busOffs)]

/-! ### Error states (R533) -/

/-- Error passive and bus-off follow the counters. -/
def canLimits (c : Fin 2) (s : State) : State :=
  let x := s.can.get c
  let u := 0xAC + c.val
  if x.st ≠ 2 ∧ x.st ≠ 3 then s
  else if 255 < x.tec then
    let s1 := (if x.st = 3 then s.clearCond fErrorPassive u else s).raise fBusOff u
    s1.modCan c (fun x => { x with st := 4, tec := 255, busOffs := incSat 16 x.busOffs })
  else
    let passive := decide (127 < x.tec ∨ 127 < x.rec_)
    if passive ∧ x.st = 2 then (s.raise fErrorPassive u).modCan c (fun x => { x with st := 3 })
    else if ¬ passive ∧ x.st = 3 then (s.clearCond fErrorPassive u).modCan c (fun x => { x with st := 2 })
    else s

/-- CAN_BUS_ERROR: an error changes TEC or REC as ISO 11898-1 gives it. -/
def execCanBusError (t : Nat) (ch : Fin 2) (e : CanError) (s : State) : Host.Outcome State Fault Refusal :=
  let s := s.begin t
  let x := s.can.get ch
  if x.st = 2 ∨ x.st = 3 then
    done (canLimits ch (s.modCan ch (fun x => { x with
      tec := ((x.tec : Int) + e.tecDelta).toNat, rec_ := min 255 ((x.rec_ : Int) + e.recDelta).toNat })))
  else done s

/-- BUS_OFF_RECOVERY: after 128 occurrences of 11 recessive bits the channel is error active. Log 160 (DEDUCED). -/
def execBusOffRecovery (t : Nat) (ch : Fin 2) (s : State) : Host.Outcome State Fault Refusal :=
  let s := s.begin t
  let x := s.can.get ch
  if x.st = 4 ∨ x.st = 5 then
    done ((s.clearCond fBusOff (0xAC + ch.val)).modCan ch (fun x => { x with st := 2, tec := 0, rec_ := 0 }))
  else done s

/-- CAN_BUS_INTEGRATION: an integrating channel finds the bus idle and becomes error active (R530). -/
def execCanBusIntegration (t : Nat) (ch : Fin 2) (s : State) : Host.Outcome State Fault Refusal :=
  let s := s.begin t
  if (s.can.get ch).st = 1 then done (s.modCan ch (fun x => { x with st := 2 })) else done s

/-- A successful transmission takes 1 from TEC; a successful reception takes 1 from REC, or sets it between 119 and 127 when
it exceeds 127 (ISO 11898-1; PRESUMED, log 63). -/
def canSuccess (c : Fin 2) (sent : Bool) (s : State) : State :=
  if sent then canLimits c (s.modCan c (fun x => { x with tec := x.tec - 1 }))
  else
    let (f, s1) := s.fresh
    let s0 := if 127 < (s.can.get c).rec_ then s1 else s
    canLimits c (s0.modCan c (fun x =>
      { x with rec_ := if 127 < x.rec_ then 119 + (Config.freeByte f).toNat % 9 else x.rec_ - 1 }))

/-! ### Receiving (R529, R534, R535) -/

/-- The object takes a frame. -/
def objMatches (s : State) (c : Nat) (f : CanFrame) (o : Nat) : Bool :=
  let id := s.objU c o 0 4
  let mask := s.objU c o 4 4
  decide (s.objKind c o = 1) && !s.objConflict c o &&
    decide (Nat.land (Nat.xor (f.id % 2 ^ 29) (id % 2 ^ 29)) (mask % 2 ^ 29) = 0) && (!bitOf mask 29 || bitOf id 29 == f.ide)

/-- The frame is stored in an object: OVR and RX_OVERRUN when NEW is still set (R529). The supervisory processor takes a safe message from
a reserved object at once, so none is overwritten there (R535; log 62). -/
def storeFrame (c : Fin 2) (o : Nat) (f : CanFrame) (s : State) : State :=
  let was := (s.canObj c o).new && !s.objReserved c.val o
  let ts := shrHalfUp (s.ftFine8 f.sof) 16
  let s1 := s.modObj c o (fun x => { x with
    new := true, ovr := x.ovr || was, dlc := f.dlc % 16, fdf := f.fdf, brs := f.brs, id := f.id % 2 ^ 29 + 2 ^ 29 * b2n f.ide,
    ts := ts, data := f.data.take 64 })
  if was then s1.raise fRxOverrun (0xAC + c.val) else s1

/-- CAN_FRAME_RX: the lowest-numbered receive object that matches stores the frame; safe messages go to the reserved objects,
by the low four bits of their identifier (log 62). Remote frames are never stored, and a classical controller takes no FD frame (R526). -/
def execCanFrameRx (t : Nat) (ch : Fin 2) (f : CanFrame) (s : State) : Host.Outcome State Fault Refusal :=
  let s := s.begin t
  let x := s.can.get ch
  if (x.st ≠ 2 ∧ x.st ≠ 3) ∨ (f.fdf ∧ s.p1 pCanMode ch.val = 1) then done s
  else
    let s1 := canSuccess ch false s
    if f.remote then done s1
    else if s1.canSafe ∧ ch.val = 1 ∧ ¬ f.ide ∧ 0x600 ≤ f.id ∧ f.id ≤ 0x6FE then done (storeFrame ch (112 + f.id % 16) f s1)
    else match (List.range 128).find? (objMatches s1 ch.val f) with
      | some o => done (storeFrame ch o f s1)
      | none => done (s1.modCan ch (fun x => { x with unmatched := incSat 16 x.unmatched }))

/-! ### Sending (R532, R533) -/

/-- A send object's frames are CAN FD frames: its flag asks for them and the mode has them (R526, R528). Log 269 (DEDUCED). -/
def State.sendsFd (s : State) (c o : Nat) : Bool := bitOf (s.objU c o 9 1) 0 && decide (2 ≤ s.p1 pCanMode c)

/-- TX_REQ of an object: the shadow and the DLC are committed in one step, and one frame is requested of an object without
period. Restricted operation sends nothing (R532, R533). -/
def canTxReq (c : Fin 2) (o : Nat) (s : State) : State :=
  if s.objKind c.val o ≠ 2 ∨ s.objConflict c.val o then s
  else
    let dlc := s.objU c.val o 10 1
    let data := (s.objData c o).take (if s.sendsFd c.val o then dlcLen dlc else min 8 dlc)
    let per := s.objU c.val o 12 2
    let idx := (s.ft / ((max 1 per : Nat) * 1000000 : Int)).toNat
    s.modObj c o (fun x => { x with
      buf := some (dlc, data), bufAt := s.time.lt, old := x.buf, txFail := x.txFail || decide (s.p1 pCanMode c.val = 3),
      txPend := x.txPend || decide (per = 0 ∧ s.p1 pCanMode c.val ≠ 3)
      pendAt := if x.txPend then x.pendAt else s.time.lt, askAt := if per = 0 then s.time.lt else x.askAt
      served := if per ≠ 0 ∧ x.buf.isNone then idx + 1 else x.served })

/-- Order in which ISO 11898-1 arbitration decides, lowest first: base identifier, standard before extended, extension. -/
def arbKey (id : Nat) : Nat :=
  if bitOf id 29 then id % 2 ^ 29 / 2 ^ 18 * 2 ^ 19 + 2 ^ 18 + id % 2 ^ 18 else id % 2 ^ 11 * 2 ^ 19

/-- A transmission of an object that sends is pending since before an SOF (R532, R535). -/
def State.pendingAt (s : State) (c : Fin 2) (o sof : Nat) : Bool := (s.canObj c o).txPend && !s.objConflict c.val o && decide (8 * (s.canObj c o).pendAt ≤ sof)

/-- The object whose frame enters arbitration at an SOF; equal identifiers go by object number (R532). Log 270 (DEDUCED). -/
def State.arbFirst (s : State) (c : Fin 2) (o sof : Nat) : Bool :=
  let key := fun p => arbKey (s.objU c.val p 0 4)
  s.pendingAt c o sof && (List.range 128).all (fun p =>
    !s.pendingAt c p sof || decide (key o < key p ∨ (key o = key p ∧ o ≤ p)))

/-- The frame that an object sends from an SOF: of the last commit before it (R532). -/
def State.sendFrame (s : State) (c : Fin 2) (o sof : Nat) : Option CanFrame :=
  let x := s.canObj c o
  let id := s.objU c.val o 0 4 % 2 ^ 30
  let fd := s.sendsFd c.val o
  (if 8 * x.bufAt ≤ sof then x.buf else x.old).map (fun b =>
    { id := id % 2 ^ 29, ide := bitOf id 29, remote := false, fdf := fd, brs := fd && bitOf (s.objU c.val o 9 1) 1 && decide (s.p1 pCanRateData c.val ≠ 0),
      dlc := b.1, data := b.2, sof := sof })

/-- An object whose frame from an SOF is done with; a request that came after the SOF stays pending (R532). -/
def pendDone (sof : Nat) (x : CanObj) : CanObj := { x with txPend := decide (sof < 8 * x.askAt), pendAt := x.askAt }

/-- CAN_TX_DONE: the pending frame that was first in arbitration has been sent, or a one-shot frame has failed (R532). -/
def execCanTxDone (t : Nat) (ch : Fin 2) (obj : Fin 128) (ok : Bool) (sof : Nat) (s : State) :
    Host.Outcome State Fault Refusal :=
  let s := s.begin t
  let st := (s.can.get ch).st
  match s.sendFrame ch obj.val sof with
  | none => done s
  | some f =>
    if ¬ s.arbFirst ch obj.val sof ∨ (st ≠ 2 ∧ st ≠ 3) then done s
    else if ok then
      let s1 := s.modObj ch obj.val (fun x => { pendDone sof x with
        txDone := true, dlc := f.dlc, fdf := f.fdf, brs := f.brs, id := s.objU ch.val obj.val 0 4 % 2 ^ 30, ts := shrHalfUp (s.ftFine8 sof) 16 })
      let s2 := canSuccess ch true s1
      done { s2 with out := { s2.out with can := s2.out.can ++ [(ch.val, f)] } }
    else if bitOf (s.objU ch.val obj.val 9 1) 2 then done (s.modObj ch obj.val (fun x => { pendDone sof x with txFail := true }))
    else done s

/-- CAN_PERIODIC_DUE: fabric time has reached a whole multiple of the period of a committed object; off the bus the send is
skipped (R532, R533). -/
def execCanPeriodicDue (t : Nat) (ch : Fin 2) (obj : Fin 128) (s : State) : Host.Outcome State Fault Refusal :=
  let s := s.begin t
  let x := s.canObj ch obj.val
  let st := (s.can.get ch).st
  let per := s.objU ch.val obj.val 12 2
  let idx := (s.ft / ((max 1 per : Nat) * 1000000 : Int)).toNat
  if s.objKind ch.val obj.val = 2 ∧ per ≠ 0 ∧ x.buf.isSome ∧ ¬ s.objConflict ch.val obj.val ∧ s.p1 pCanMode ch.val ≠ 3 ∧
      x.served < idx + 1 then
    done (s.modObj ch obj.val (fun x =>
      if st = 2 ∨ st = 3 then { x with served := idx + 1, txPend := true, pendAt := if x.txPend then x.pendAt else s.time.lt, askAt := s.time.lt }
      else { x with served := idx + 1 }))
  else done s

/-- Node 0x1037 `can.state` (R536). -/
def State.canNode (s : State) : Nat := packBits [(3, (s.can.get 0).st), (3, (s.can.get 1).st)]

end Sys2Proof.Machine
end

