-- ==== Sys2Proof/Machine/Acquisition.lean ====
section
/-! DEFINITION. Trace nodes of the module, acquisition channels, triggers and records (19_acquisition_replay.md, R537-R550). -/

namespace Sys2Proof.Machine

/-- The two's complement value of a 64-bit pattern (R539). -/
def asI64 (x : Int) : Int := wrapS 64 x

/-- A module node n (R538). -/
def moduleNode (s : State) (n : Nat) : Int :=
  if n = 0x00 then s.cyc.start
  else if n = 0x01 then (s.cyc.n % 2 ^ 32 + 2 ^ 32 * (s.cyc.k % 2 ^ 16) : Nat)
  else if n = 0x02 then s.prm.applyGen
  else if n = 0x03 then fltLevels s
  else if n = 0x04 then s.vcoreNow
  else if n = 0x05 then s.power.temp
  else if n = 0x06 then (tileStatus s % 2 ^ 32 : Nat)
  else if n = 0x10 then s.emu.value
  else if h : 0x11 ≤ n ∧ n < 0x19 then satS 64 (ratHalfUp (s.grps.get ⟨n - 0x11, by omega⟩).prof.s)
  else if h : 0x20 ≤ n ∧ n < 0x24 then (s.tideAt ⟨n - 0x20, by omega⟩ s.cyc.start).1
  else if h : 0x24 ≤ n ∧ n < 0x28 then satS 64 (ratHalfUp (s.tideAt ⟨n - 0x24, by omega⟩ s.cyc.start).2.1)
  else if n = 0x30 then s.safeStateNode
  else if n = 0x31 then s.safeInputsNode
  else if n = 0x32 then s.safeReadbackNode
  else if n = 0x33 then s.safeSs1Node
  else if n = 0x34 then (s.fld.fldIn % 65536 : Nat)
  else if n = 0x35 then (s.fld.diag % 256 : Nat)
  else if n = 0x36 then s.fld.vfld
  else if n = 0x37 then s.canNode
  else 0

/-- The sample of a source (R537, R539). -/
def traceValue (s : State) (src : Nat) : Int :=
  if h : src < 0x1000 then
    let a : AxisId := ⟨src / 128, by omega⟩
    asI64 (axisNode s a (s.ax a) (src % 128))
  else if src < 0x1040 then asI64 (moduleNode s (src - 0x1000))
  else 0

/-! ### Triggers (R545, R546) -/

/-- Memory of one polarity after a sample: pulse width, runt and slew rate, and which of them fires. `far` is the level that
a runt must not reach and a slew must reach; `near` the one at which both start. -/
def polStep (above atNear atFar : Bool) (m : TrigPol) : TrigPol :=
  { run := if above then m.run + 1 else 0
    runt := if atNear then 1 else if atFar then 0 else if m.runt = 1 then 2 else m.runt
    since := if atNear then some 0 else if atFar then none else m.since.map (· + 1) }

def pulseFires (above : Bool) (per T : Nat) (m : TrigPol) : Bool := !above && decide (0 < m.run ∧ m.run * per < T)

def runtFires (atNear : Bool) (m : TrigPol) : Bool := atNear && decide (m.runt = 2)

def slewFires (atFar : Bool) (per T : Nat) (m : TrigPol) : Bool :=
  atFar && (match m.since with | some n => decide ((n + 1) * per < T) | none => false)

/-- One unit in one sample: its new memory, and whether it fires. Log 273 (DEDUCED). -/
def trigStep (kind pol : Nat) (a b : Int) (T per : Nat) (first : Bool) (v : Int) (m : TrigMem) : TrigMem × Bool :=
  let prev := if first then v else m.prev
  let up := fun (x y : Bool) => if pol = 0 then x else if pol = 1 then y else x || y
  let level := if pol = 0 then decide (a < v) else if pol = 1 then decide (v < a) else decide (a < v ∨ v < b)
  let hi := decide (a ≤ v)
  let lo := decide (v ≤ a)
  let side := hi
  let sideRun := if first ∨ side ≠ m.side then 0 else m.sideRun + 1
  let fired := if first ∨ side ≠ m.side then false else m.fired
  let timeout := decide (T ≤ sideRun * per) && !fired && (if pol = 0 then side else if pol = 1 then !side else true)
  let fires := match kind with
    | 1 => level && (first || !m.level)
    | 2 => up (decide (prev < a ∧ a ≤ v)) (decide (a < prev ∧ v ≤ a))
    | 3 => up (pulseFires hi per T m.pos) (pulseFires lo per T m.neg)
    | 4 => decide (b < a) && up (runtFires (decide (v ≤ b)) m.pos) (runtFires (decide (a ≤ v)) m.neg)
    | 5 => timeout
    | 6 => decide (b < a) && up (slewFires (decide (a ≤ v)) per T m.pos) (slewFires (decide (v ≤ b)) per T m.neg)
    | _ => false
  ({ prev := v, level := level, side := side, sideRun := sideRun, fired := fired || timeout
     pos := polStep hi (decide (v ≤ b)) (decide (a ≤ v)) m.pos
     neg := polStep lo (decide (a ≤ v)) (decide (v ≤ b)) m.neg }, fires)

/-! ### Records (R542, R543) -/

/-- A record word. -/
def recWord (kind ch : Nat) (payload : Int) : Nat := kind * 2 ^ 60 + ch % 16 * 2 ^ 56 + (wrapU 56 payload).toNat

/-- FULL and FULL_HI of a value. -/
def fullWords (ch : Nat) (v : Int) : List Nat := [recWord 5 ch v, recWord 6 ch (wrapU 64 v / 2 ^ 56)]

/-- A channel's records in a sample and its new stored value (R541, R543). -/
def channelWords (key : Bool) (ch : Nat) (dead : Nat) (v last : Int) : List Nat × Int :=
  if key then (fullWords ch v, v)
  else
    let d := asI64 (v - last)
    if (dead : Int) < absI d then
      (if -(2 ^ 55) ≤ d ∧ d < 2 ^ 55 then [recWord 4 ch d] else fullWords ch v, v)
    else ([], last)

/-- Words of the acquisition area: 64 MiB (R13, R544). -/
def acqWords : Nat := 8388608

/-- A word is a KEY record. -/
def isKey (w : Nat) : Bool := decide (w / 2 ^ 60 = 1)

/-- The records kept at a trigger whose first record would be the next one: from the latest KEY at least P bytes before it, or
else from the oldest KEY left (R548). Log 161 (DEDUCED). -/
def keepFrom (pct : Nat) (l : List Nat) : List Nat :=
  let p := acqWords * 8 * pct / 100
  let n := l.length
  let keys := (l.zipIdx.filter (fun e => isKey e.1)).map (·.2)
  let start := match (keys.filter (fun i => decide (p ≤ (n - i) * 8))).getLast? with
    | some i => i
    | none => keys.headD 0
  l.drop start

/-- A recording ends: END, and TRACE_DONE (R549). -/
def acqEnd (cause : Nat) (s : State) : State :=
  let q := s.acq
  if q.armed then
    let kept := if q.triggered then q.recs else keepFrom (s.pn pAcqPretrigger 0) q.recs
    let recs := kept ++ [recWord 8 0 cause]
    ({ s with acq := { q with armed := false, recs := recs } }).postEvent 0x8030 0 0xFF (toLE 8 (recs.length * 8 : Nat))
  else s

/-- The units' new memories, and the units that fire, ascending. -/
def acqTriggers (s : State) (per : Nat) : Vector TrigMem 4 × List Nat :=
  let first := decide (s.acq.k = 0)
  (List.finRange 4).foldl (fun (acc : Vector TrigMem 4 × List Nat) i =>
    let t := i.val
    let kind := s.pn pAcqTrigKind t
    let (m, f) := trigStep kind (s.pn pAcqTrigPolarity t) (s.p1 pAcqTrigLevelA t) (s.p1 pAcqTrigLevelB t)
      (s.pn pAcqTrigTimeNs t) per first (traceValue s (s.pn pAcqTrigSource t)) (acc.1.get i)
    (acc.1.set t m i.isLt, if f then acc.2 ++ [t] else acc.2)) (s.acq.trig, [])

/-- One sample at the close of a tile window (R540-R548). -/
def acqSample (s : State) : State :=
  let q := s.acq
  if ¬ q.armed ∨ s.cyc.start ≤ q.armedAt then s
  else
    let per := s.pn pCycPeriodNs 0
    let key := decide (q.k % 1024 = 0)
    let chans : List (List Nat × Int) := (List.range 16).map (fun ch =>
      let src := s.pn pAcqChSource ch
      let last := q.last.getD ch 0
      if src = 0xFFFF then ([], last) else channelWords key ch (s.pn pAcqChDeadband ch) (traceValue s src) last)
    let (trig, fired) := acqTriggers s per
    let allOff := (List.range 4).all (fun t => decide (s.pn pAcqTrigKind t = 0))
    let now := !q.triggered && (decide (fired ≠ []) || allOff)
    let trigs := fired.map (fun t =>
      recWord 7 t ((s.pn pAcqTrigKind t + (if now ∧ fired.head? = some t then 16 else 0) : Nat) : Int))
    let body := (chans.map (·.1)).flatten ++ trigs
    let head := if key then [recWord 1 (fieldOf (wrapU 60 s.cyc.start).toNat 56 4) (wrapU 56 s.cyc.start), recWord 2 0 per]
      else if body.isEmpty then [] else [recWord 3 0 ((q.k - q.lastTick : Nat) : Int)]
    let new := head ++ body
    let pre := s.pn pAcqPretrigger 0
    let base := if now then (if key ∧ pre = 0 then [] else keepFrom pre q.recs) else q.recs
    let triggered := q.triggered || now
    let q1 := { q with k := q.k + 1, lastTick := if head.isEmpty then q.lastTick else q.k, last := chans.map Prod.snd
                       trig := trig, triggered := triggered }
    if triggered ∧ acqWords < base.length + new.length + 1 then acqEnd 0 { s with acq := { q1 with recs := base } }
    else
      let recs := base ++ new
      { s with acq := { q1 with recs := if triggered then recs else lastN acqWords recs } }

/-! ### Operations (R550) -/

/-- TRACE_ARM. -/
def execTraceArm (t : Nat) (h : Hdr) (action : Nat) (s : State) : Host.Outcome State Fault Refusal :=
  done (runOp 0x0502 1 false false h (toLE 1 action) (s.begin t)
    (fun s => [(s.scrap, stLifecycle, 0), (decide (1 < action), stRange, 0),
       (decide (action = 1) && !s.cyc.cycling, stState, 0), (decide (action = 1) && s.acq.armed, stBusy, 0)])
    (fun _ s =>
      if action = 1 then (okRsp [], { s with acq := { armed := true, armedAt := s.ft } })
      else (okRsp [], acqEnd 1 s)))

/-- TRACE_READ: whole records from an offset into the bulk region. -/
def execTraceRead (t : Nat) (h : Hdr) (ofs : Nat) (s : State) : Host.Outcome State Fault Refusal :=
  done (runOp 0x0503 1 true true h (toLE 8 ofs) (s.begin t)
    (fun s => [(s.scrap, stLifecycle, 0), (decide (ofs % 8 ≠ 0), stRange, 0),
       (s.acq.armed && !s.acq.triggered, stState, 0)])
    (fun _ s =>
      let ws := (s.acq.recs.drop (ofs / 8)).take (h.length / 8)
      let bytes := (ws.map (fun (w : Nat) => toLE 8 (w : Int))).flatten
      ({ status := stOk, body := toLE 4 (bytes.length : Nat) ++ toLE 8 (s.acq.recs.length * 8 : Nat), bulk := some bytes }, s)))

end Sys2Proof.Machine
end

