-- ==== Sys2Proof/Machine/Ageing.lean ====
section
/-! DEFINITION. Ageing monitors, the core voltage and the re-planning of margins (20_lifecycle_selftest_ageing.md, R578-R585).
Readings of monitors 0-27 are the lowest voltages at which they work, those of 28-47 their margins, in mV. -/

namespace Sys2Proof.Machine

def State.reserve (s : State) : Int := s.p1 pAgeReserveMv 0

/-- V_t before its clamp: the largest V_fail and the reserve, rounded up to a multiple of 5 mV (R580). -/
def wantedVt (reserve : Int) (vFail : List Int) : Int :=
  let m := (vFail.take 28).foldl max 0 + reserve
  (m + 4) / 5 * 5

/-- V_t is set; the rail moves from where it stands (R580). -/
def setTarget (v : Int) (s : State) : State :=
  let to_ := (clamp 720 880 v).toNat
  { s with age := { s.age with vFrom := s.vcoreNow, vSince := s.time.lt, target := to_ } }

/-- Margins of the 48 monitors from their readings (R578). -/
def marginsOf (vcore : Nat) (r : List Int) : List Int :=
  (List.range 48).map (fun i => if i < 28 then (vcore : Int) - r.getD i 0 else r.getD i 0)

/-- A measurement is taken: margins, V_fail and the day's minima. -/
def takeReadings (r : List Int) (s : State) : State :=
  let m := marginsOf s.vcoreNow r
  let day := if s.age.dayMin.isEmpty then m else (List.range 48).map (fun i => min (s.age.dayMin.getD i 0) (m.getD i 0))
  { s with age := { s.age with margin := m, vFail := r.take 28, dayMin := day } }

/-- AGEING_MEASURE: every 10 min; one that falls due while a BIST runs is skipped (R579, R580, R585). -/
def execAgeingMeasure (t : Nat) (readings : List Int) (s : State) : Host.Outcome State Fault Refusal :=
  let s := s.begin t
  let due := s.time.lt / 600000000000
  if ¬ s.domOn .sup ∨ due ≤ s.age.measured then done s
  else if s.life.bist.isSome then done { s with age := { s.age with measured := due } }
  else
    let s1 := takeReadings readings { s with age := { s.age with measured := due } }
    done (setTarget (wantedVt s.reserve s1.age.vFail) s1)

/-- Values of `age.min_period_ns` (R581). -/
def periodSteps : List Nat := [8000, 10000, 12000, 16000, 20000, 25000]

/-- Step 3: the first longer period at which V_t stays at or below 880 mV, with its readings. -/
def derateTo (reserve : Int) : List Nat → List (List Int) → Option (Nat × List Int)
  | p :: ps, r :: rs => if wantedVt reserve r ≤ 880 then some (p, r) else derateTo reserve ps rs
  | _, _ => none

/-- Re-planning from a period on (R581): `readings` hold the measurement at that period and at each longer one tried. Log 144 (DEDUCED). Log 145 (DEDUCED). -/
def replan (period : Nat) (readings : List (List Int)) (s : State) : State :=
  let res := s.reserve
  let s1 := takeReadings (readings.headD []) { s with age := { s.age with minPeriod := period, planAt := s.time.lt } }
  let v := wantedVt res s1.age.vFail
  let eyes := (List.range 12).any (fun i => decide (s1.age.margin.getD (28 + i) 0 < res))
  let s2 := setTarget v { s1 with age := { s1.age with lastStep := if eyes then 2 else 1 } }
  if v ≤ 880 then s2
  else
    let longer := periodSteps.filter (fun p => decide (period < p))
    match derateTo res longer readings.tail with
    | some (p, r) =>
      let s3 := setTarget (wantedVt res r) (takeReadings r s2)
      ({ s3 with age := { s3.age with minPeriod := p, lastStep := 3 } }).raise fAgeDerate 0xFF
    | none =>
      let last := if longer.isEmpty then readings.headD [] else (readings.tail.take longer.length).getLast?.getD (readings.headD [])
      let s3 := { s2 with age := { s2.age with minPeriod := 25000, lastStep := if longer.isEmpty then s2.age.lastStep else 3 } }
      let s4 := if longer.isEmpty then s3 else s3.raise fAgeDerate 0xFF
      ((List.range 48).filter (fun i => decide ((marginsOf 880 last).getD i 0 < res))).foldl (fun s i => s.raise fAgeWarn (0x100 + i)) s4

/-- The least-squares line of a monitor's daily minima, newest first, lies below the reserve now or in 365 days (R583). -/
def fallsShort (reserve : Int) (ys : List Int) : Bool :=
  let n : Int := ys.length
  let pts := (List.range ys.length).map (fun (i : Nat) => (-(i : Int), ys.getD i 0))
  let sum := fun (l : List Int) => l.foldl (· + ·) 0
  let sx := sum (pts.map (fun p => p.1))
  let sy := sum (pts.map (fun p => p.2))
  let sxx := sum (pts.map (fun p => p.1 * p.1))
  let sxy := sum (pts.map (fun p => p.1 * p.2))
  let d := n * sxx - sx * sx
  let b := n * sxy - sx * sy
  let below := fun (x : Int) => decide (sy * d + b * (n * x - sx) < reserve * n * d)
  decide (7 ≤ n) && (below 0 || below 365)

/-- The day's record is kept, up to 300, as it closes (R579). -/
def closeDay (s : State) : State :=
  { s with age := { s.age with
      daily := if s.age.dayMin.isEmpty then s.age.daily else (s.age.dayMin :: s.age.daily).take 300, dayMin := [] } }

/-- The projections of a re-plan (R583). -/
def projectMargins (s : State) : State :=
  let daily := s.age.daily
  let short := (List.range 48).map (fun i => fallsShort s.reserve (daily.map (fun r => r.getD i 0)))
  let old := s.age.short
  let s1 := { s with age := { s.age with short := short } }
  ((List.range 48).filter (fun i => short.getD i false && !old.getD i false)).foldl (fun s i => s.raise fAgeWarn (0x100 + i)) s1

/-- MARGIN_REPLAN: every 24 h of SUP operation, deferred while a BIST runs (R581-R583, R585). -/
def execMarginReplan (t : Nat) (readings : List (List Int)) (s : State) : Host.Outcome State Fault Refusal :=
  let s := s.begin t
  if ¬ s.domOn .sup ∨ s.life.bist.isSome ∨ s.time.lt < s.age.planAt + 86400000000000 then done s
  else done (projectMargins (closeDay (replan s.age.minPeriod readings s)))

end Sys2Proof.Machine
end

