-- ==== Sys2Proof/Machine/Recorder.lean ====
section
/-! DEFINITION. The send of the downstream frames, the replay recorder and REPLAY_RUN (02_control_cycle.md, R35;
19_acquisition_replay.md, R551-R559). -/

namespace Sys2Proof.Machine

/-! ### Instants of the tile window (R34) -/

/-- W. -/
def State.windowNs (s : State) : Nat :=
  let p := s.cyc.per
  if p < 16000 then 3000 else if p < 31250 then 3280 else 3560

/-- t_close and t_dn in FT ns. -/
def State.tClose (s : State) : Int := s.cyc.start + 2330 + s.windowNs
def State.tDn (s : State) : Int := s.tClose + 110

/-! ### Blocks (R551-R555) -/

/-- The bytes by which two payloads differ (R553). -/
def diffBytes (a b : List Byte) : List Byte := (a.zip b).map (fun e => e.1 ^^^ e.2)

/-- A base of an AXIS entry; before any payload it is all zeros. -/
def baseOf (l : List (Nat × List Byte)) (a n : Nat) : List Byte := padTo n (alGet [] a l)

/-- Bytes of the ring: 1,536 MiB (R13). -/
def ringBytes : Nat := 1610612736

/-- The replayable window begins at the oldest snapshot whose block is still in the ring (R554). -/
def State.oldestSnap (s : State) : Option (Nat × Nat × Nat) :=
  s.rcd.snaps.find? (fun e => s.rcd.blocks.any (fun b => decide (b.n = e.1 ∧ b.k = e.2.1)))

/-- First and last held fabric cycle of the replayable window (R556). -/
def State.window (s : State) : Nat × Nat :=
  ((match s.oldestSnap with | some e => e.1 | none => 0), (match s.rcd.blocks.getLast? with | some b => b.n | none => 0))

/-- Oldest blocks leave the ring until a new one fits. -/
def evict (need : Nat) : List RcdBlock → Nat → List RcdBlock × Nat
  | [], _ => ([], 0)
  | b :: r, used => if used + need ≤ ringBytes then (b :: r, used) else evict need r (used - b.bytes.length)

/-- The set-point buffer for the next position cycle has been written (R40, R553). -/
def spWritten (s : State) (x : Axis) : Bool :=
  s.cyc.posCyc && (if s.cyc.posNo % 2 = 0 then x.spOdd.ready else x.spEven.ready)

/-- An entry of a block: KIND, UNIT, LEN and the body (R553). -/
def rcdEntry (kind unit : Nat) (body : List Byte) : List Byte := toLE 1 kind ++ toLE 1 unit ++ toLE 2 (body.length : Nat) ++ body

/-- Entries of one kind in ascending UNIT, those of one UNIT in the order in which they came (R553). -/
def rcdEntries (kind : Nat) (l : List RcdEntry) : List Byte :=
  ((sortBy (fun e => e.unit) l).map (fun e => rcdEntry kind e.unit e.body)).flatten

/-- The downstream payload that left in this cycle, or none. -/
def sentDn (s : State) (a : AxisId) : List Byte :=
  if s.out.link.any (fun e => decide (e.1 = a.val)) then (s.ax a).link.dnRaw else []

/-- The requests of the cycle before, which took effect at the start of this one (R424, R551). -/
def cycleCmds (s : State) : List RcdEntry :=
  s.rcd.cmds.filter (fun e => decide (s.cyc.start - s.cyc.per ≤ e.at_ ∧ e.at_ < s.cyc.start))

/-- SUPW entry of an axis: words of the areas that R306 gives the supervisory processor. Log 275 (DESIGN CHOICE). -/
def supEntry (s : State) (a : AxisId) : List Byte :=
  let own := fun (o : Nat) => decide ((0x16 ≤ o ∧ o ≤ 0x1F) ∨ (0x100 ≤ o ∧ o ≤ 0x7FF))
  let ws := ((Config.supWords s.time.lt a.val).filter (fun e => own e.1)).take 6553
  if ws = [] then [] else rcdEntry 0x04 a.val ((ws.map (fun e => toLE 2 (e.1 : Nat) ++ toLE 8 (e.2 : Nat))).flatten)

/-- SP_CRC: over the 16 words of the set-point buffer of the next position cycle, whose layout the manual does not give (R553,
log 19). -/
def spCrc (s : State) (a : AxisId) : List Byte :=
  let base := if s.cyc.posNo % 2 = 0 then 0x10030 else 0x10020
  toLE 4 (crc32 (((List.range 16).map (fun i => toLE 8 (areaRead s a (s.ax a) (base + i) : Nat))).flatten) : Nat)

/-- AXIS entry: which of the 128 payload bytes differ from their bases, and by what. A lost upstream frame, or no frame sent, shows no
difference (R553). -/
def axisEntry (s : State) (a : AxisId) : List Byte :=
  let x := s.ax a
  let sent := sentDn s a
  let up := if x.link.fresh then diffBytes (padTo 80 x.link.upRaw) (baseOf s.rcd.upBase a.val 80) else List.replicate 80 0
  let dn := if sent = [] then List.replicate 48 0 else diffBytes (padTo 48 sent) (baseOf s.rcd.dnBase a.val 48)
  let d := up ++ dn
  let bits := natSum (d.zipIdx.map (fun e => if e.1 = 0 then 0 else 2 ^ e.2))
  rcdEntry 0x01 a.val (toLE 16 (bits : Nat) ++ (if spWritten s x then spCrc s a else []) ++ d.filter (fun v => decide (v ≠ 0)))

/-- An APPLY took effect since the block before. -/
def applySince (s : State) : Bool :=
  s.rcd.running && (match s.rcd.blocks.getLast? with | some b => decide (b.prm.applyGen ≠ s.prm.applyGen) | none => false)

/-- The bytes of a block: the header and the entries in the order CMD, SUPW, BERTH, AXIS, filled up to a multiple of 8 (R552, R553).
Log 163 (DEDUCED). -/
def blockBytes (s : State) (first snap : Bool) : List Byte :=
  let axes := allAxes.filter (fun a => mapped a s)
  let mask := fun (m : Nat) => natSum (axes.map (fun (a : AxisId) => if bitOf m a.val then 2 ^ a.val else 0))
  let body := rcdEntries 0x03 (cycleCmds s) ++ (axes.map (supEntry s)).flatten ++ rcdEntries 0x02 s.rcd.berths ++
    (axes.map (axisEntry s)).flatten
  let len := (24 + body.length + 7) / 8 * 8
  padTo len (toLE 1 0xC1 ++ toLE 1 (b2n s.cyc.posCyc + 2 * b2n snap + 4 * b2n (applySince s) + 8 * b2n first : Nat) ++ [0, 0] ++
    toLE 4 (len : Nat) ++ toLE 4 (s.cyc.n : Nat) ++ toLE 2 (s.cyc.k : Nat) ++ [0, 0] ++
    toLE 4 (mask s.cyc.lostMask : Nat) ++ toLE 4 (mask s.cyc.skipMask : Nat) ++ body)

/-- The recorder writes the block of a computed cycle, with the downstream payloads that left, and takes the snapshots (R551-R554). -/
def recordBlock (s : State) : State :=
  let r := s.rcd
  if r.frozen ∨ ¬ s.cyc.cycling ∨ s.cyc.inPriming ∨ ¬ s.cyc.opened then s
  else
    let axes := allAxes.filter (fun a => mapped a s)
    let one := fun (a : AxisId) =>
      let x := s.ax a
      let ra : RcdAxis := { axis := a.val, start := alGet x a.val s.tiles.journal, up := x.link.up.getD {}, dn := sentDn s a
                            lost := bitOf s.cyc.lostMask a.val, skip := bitOf s.cyc.skipMask a.val }
      ra
    let span := if r.running then r.spanLen else 0
    let snap := decide (span % 65536 = 0)
    let b : RcdBlock := { n := s.cyc.n, k := s.cyc.k, bytes := blockBytes s (decide (span = 0)) snap, first := decide (span = 0), snap := snap
                          cyc := s.cyc, prm := s.prm, axes := axes.map one }
    let (kept, used) := evict b.bytes.length r.blocks r.used
    { s with rcd := { r with
        running := true, spanLen := span + 1, blocks := kept ++ [b], used := used + b.bytes.length
        cmds := r.cmds.filter (fun e => decide (s.cyc.start ≤ e.at_)), berths := []
        snaps := if snap then lastN 64 (r.snaps ++ [(s.cyc.n, s.cyc.k, crc32 s.tiles.image)]) else r.snaps
        copying := if snap then some s.time.lt else r.copying
        upBase := axes.foldl (fun l a => if (s.ax a).link.fresh then alPut a.val (s.ax a).link.upRaw l else l) r.upBase
        dnBase := axes.foldl (fun l a => if sentDn s a = [] then l else alPut a.val (sentDn s a) l) r.dnBase } }

/-- DOWNSTREAM_SEND: at t_dn the send strobe releases each frame that was built, and the recorder's block of the cycle is whole (R35,
R56-R60, R73, R86, R551). -/
def execDownstreamSend (t : Nat) (stamps : List Nat) (s : State) : Host.Outcome State Fault Refusal :=
  let s := s.begin t
  if s.cyc.cycling ∧ s.cyc.closed ∧ s.tDn ≤ s.ft then
    done (recordBlock (enablesLeft (forAxes allAxes (fun a s => sendFrame a (stamps.getD a.val (8 * t)) s) s)))
  else done s

/-- SNAPSHOT_COPY_DONE: the background copy of a snapshot is complete (R554). -/
def execSnapshotCopyDone (t : Nat) (s : State) : Host.Outcome State Fault Refusal :=
  let s := s.begin t
  done { s with rcd := { s.rcd with copying := none } }

/-! ### Freeze and release (R556) -/

/-- The recorder freezes, and posts RECORD_FROZEN. -/
def freezeNow (fault : Bool) (s : State) : State :=
  let s1 := { s with rcd := { s.rcd with frozen := true, running := false, spanLen := 0, freezeDue := none, cmds := [], berths := [] } }
  s1.postEvent 0x8031 0 0xFF (toLE 1 (if fault then 0 else 1) ++ toLE 3 0 ++ toLE 4 s1.window.2)

/-- RECORDER_FREEZE: a freeze that is due. -/
def execRecorderFreeze (t : Nat) (s : State) : Host.Outcome State Fault Refusal :=
  let s := s.begin t
  match s.rcd.freezeDue with
  | some (0, f) => if s.rcd.frozen then done s else done (freezeNow f s)
  | _ => done s

/-- RECORD_FREEZE (R556, R559). -/
def execRecordFreeze (t : Nat) (h : Hdr) (action : Nat) (s : State) : Host.Outcome State Fault Refusal :=
  done (runOp 0x0510 1 false false h (toLE 1 action) (s.begin t)
    (fun s => [(s.scrap, stLifecycle, 0), (decide (1 < action), stRange, 0),
       (decide (action = 1) && s.rcd.replay.isSome, stBusy, 0)])
    (fun _ s =>
      if action = 1 then
        (okRsp (toLE 4 0 ++ toLE 4 0),
         if s.rcd.frozen then
           { s with rcd := { upBase := s.rcd.upBase, dnBase := s.rcd.dnBase } }
         else s)
      else
        let (a, b) := s.window
        let due := s.rcd.frozen || s.rcd.freezeDue.isSome
        (okRsp (toLE 4 a ++ toLE 4 b),
         if due then s else { s with rcd := { s.rcd with freezeDue := some (if s.cyc.cycling then 1 else 0, false) } })))

/-! ### Replay (R557-R559) -/

/-- The highest-numbered tile that is not masked and holds no axis (R557). Its domain stays as R15 has it. Log 272 (DEDUCED). -/
def State.replayTile (s : State) : Option (Fin 5) :=
  ((List.finRange 5).filter (fun i => !(s.tiles.tiles.get i).masked && (s.tileAxes i.val).isEmpty)).getLast?

/-- The latest snapshot at or before a fabric cycle, or the oldest for 0, among those whose block is held. -/
def State.snapFor (s : State) (first : Nat) : Option (Nat × Nat × Nat) :=
  let held := s.rcd.snaps.filter (fun e => s.rcd.blocks.any (fun b => decide (b.n = e.1 ∧ b.k = e.2.1)))
  if first = 0 then held.head?
  else match (held.filter (fun e => decide (e.1 ≤ first))).getLast? with
    | some e => some e
    | none => held.head?

/-- REPLAY_RUN (R557). -/
def execReplayRun (t : Nat) (h : Hdr) (first cycles mask : Nat) (s : State) : Host.Outcome State Fault Refusal :=
  done (runOp 0x0511 12 false false h (toLE 4 first ++ toLE 4 cycles ++ toLE 4 mask) (s.begin t)
    (fun s =>
      let (a, b) := s.window
      let n := (extendN s.fabN first).toNat
      let img : Bool := match s.snapFor (if first = 0 then 0 else n) with
        | some e => decide (e.2.2 ≠ crc32 s.tiles.image)
        | none => true
      [(decide (s.life.lc = 0 ∨ s.life.lc = 4), stLifecycle, 0),
       (decide (first ≠ 0 ∧ (n < a ∨ b < n)), stRange, 0),
       (decide (s.life.lc = 2) && allAxes.any (fun x => (s.ax x).enabled), stState, 0),
       (!s.rcd.frozen, stState, 0), (s.replayTile.isNone, stState, 0), (img, stState, 0),
       (s.rcd.replay.isSome, stBusy, 0)])
    (fun q s =>
      let tile := s.replayTile.getD 4
      let n := if first = 0 then 0 else (extendN s.fabN first).toNat
      let s1 := { s with rcd := { s.rcd with replay := some ⟨q, n, cycles, mask, tile⟩ } }
      ({ status := stPending }, if tile.val = 4 then { s1 with tiles := { s1.tiles with checked := 7 } } else s1)))

/-- Bytes that the PHY writes and that a replay does not compare (R558). -/
def phyByte (i : Nat) : Bool := decide ((2 ≤ i ∧ i ≤ 9) ∨ i = 46 ∨ i = 47)

/-- The frame of one axis recomputed from a block, with the side address that was sent (R558 step 2). -/
def replayFrame (s : State) (b : RcdBlock) (r : RcdAxis) (a : AxisId) : List Byte :=
  let s1 := { (s.modAxis a (fun _ => r.start)) with cyc := b.cyc, prm := b.prm }
  let f := if r.lost ∨ r.skip then repeatFrame s1 a r.start else (axisPass s1 a r.up b.cyc.start).x.dn
  dnBytes { f with sideAddr := getU r.dn 42 1 } 0 0 0 (4 * s1.pn pCycPeriodNs 0)

/-- First byte in which a recomputed frame differs from the recorded one. -/
def replayDiff (s : State) (b : RcdBlock) (mask : Nat) (r : RcdAxis) : Option (Nat × Nat) :=
  match axisOf? r.axis with
  | none => none
  | some a =>
    if r.dn = [] ∨ ¬ bitOf mask r.axis then none
    else
      let c := (replayFrame s b r a).zip r.dn
      match (c.zipIdx.filter (fun e => decide (e.1.1 ≠ e.1.2) && !phyByte e.2)).head? with
      | some e => some (r.axis, 0x0010 + e.2 / 8)
      | none => none

/-- The blocks from a snapshot to the end of its span (R558). -/
def replaySpan (s : State) (e : Nat × Nat × Nat) : List RcdBlock :=
  ((s.rcd.blocks.dropWhile (fun b => !decide (b.n = e.1 ∧ b.k = e.2.1))).drop 1).takeWhile (fun b => !b.first)

/-- The blocks that a replay runs over: after the snapshot, to the end of the span, as many as named from the first named
cycle on. -/
def replayBlocks (s : State) (p : Replay) (e : Nat × Nat × Nat) : List RcdBlock :=
  let l := (replaySpan s e).filter (fun b => decide (p.first ≤ b.n))
  if p.cycles = 0 then l else l.take p.cycles

/-- The first difference of a list of blocks, or the last block replayed. The profile engine's replay context forms the set-points that
it formed before. Log 271 (DEDUCED). -/
def replayRun (s : State) (mask : Nat) : List RcdBlock → Nat × Nat → Nat × (Nat × Nat) × Nat × Nat
  | [], last => (0, last, 0, 0)
  | b :: r, _ =>
    match b.axes.findSome? (replayDiff s b mask) with
    | some (a, w) => (1, (b.n, b.k), a, w)
    | none => replayRun s mask r (b.n, b.k)

/-- REPLAY_DONE: the replay ends at the first difference or at its end (R558). -/
def execReplayDone (t : Nat) (s : State) : Host.Outcome State Fault Refusal :=
  let s := s.begin t
  match s.rcd.replay with
  | none => done s
  | some p =>
    let e := (s.snapFor p.first).getD (0, 0, 0)
    let (d, (n, k), a, w) := replayRun s p.mask (replayBlocks s p e) (e.1, e.2.1)
    let s1 := { s with rcd := { s.rcd with replay := none } }
    done (s1.finish p.req { status := stOk, detail := d, body := toLE 4 n ++ toLE 2 k ++ toLE 1 a ++ toLE 1 0 ++ toLE 2 w })

/-- An uncorrectable error in the ring ends a replay that reads its block (R559). -/
def replayError (n k : Nat) (s : State) : State :=
  match s.rcd.replay with
  | none => s
  | some p =>
    let e := (s.snapFor p.first).getD (0, 0, 0)
    let read := (replaySpan s e).filter (fun b => decide (b.n < p.first)) ++ replayBlocks s p e
    if read.any (fun b => decide (b.n = n ∧ b.k = k)) then
      ({ s with rcd := { s.rcd with replay := none } }).finish p.req { status := stState, body := toLE 4 n ++ toLE 2 k ++ toLE 1 0 ++ toLE 1 0 ++ toLE 2 0 }
    else s

/-- A tile fails and needs the replay tile: the replay ends with TIMEOUT (R559). -/
def replayAbort (s : State) : State :=
  match s.rcd.replay with
  | none => s
  | some p => ({ s with rcd := { s.rcd with replay := none } }).finish p.req { status := stTimeout }

end Sys2Proof.Machine
end

