-- ==== Sys2Proof/Machine/Tiles.lean ====
section
/-! DEFINITION. Loop tiles as a set: power domains, the slot map, warm-check, failures and takeover (11_loop_tiles.md,
R322-R335; 01_construction.md, R15-R17). -/

namespace Sys2Proof.Machine

/-- A tile runs the self-test slice of a takeover (R328, R333). -/
def State.inSlice (s : State) (i : Fin 5) : Bool :=
  match s.tiles.takeover with
  | some k => decide (k.tile = i.val) || (decide (i.val = 4) && !k.alone)
  | none => false

/-- The tile is under a takeover sequence as Tx: its axes are not computed (R328). -/
def State.isTx (s : State) (i : Fin 5) : Bool :=
  match s.tiles.takeover with
  | some k => decide (k.tile = i.val)
  | none => false

/-- The tile that holds an axis. -/
def State.tileOf (s : State) (a : AxisId) : Option (Fin 5) :=
  (List.finRange 5).find? (fun i => (s.tileRow i).contains a.val)

/-- The axis belongs to the tile under takeover: some commands are refused with BUSY (R333). -/
def State.txAxis (s : State) (a : AxisId) : Bool :=
  match s.tileOf a with
  | some i => s.isTx i
  | none => false

/-- States of the tiles as R335 shows them. -/
def refreshTiles (s : State) : State :=
  let st := fun (i : Fin 5) =>
    if (s.tiles.tiles.get i).masked then 5
    else if ¬ s.domOn (tileDom i) then 0
    else if s.inSlice i then 4
    else if i.val < 4 ∨ ¬ s.rowEmpty i then 1
    else if s.tiles.checked = 7 then 2 else 3
  (List.finRange 5).foldl (fun s i => s.modTile i (fun x => { x with st := st i })) s

/-- The pending APPLY of this node, or a fabric-wide one that it has acknowledged, places axes on a tile, or gives T4 a role as
spare: the tile is to be in regulation when the APPLY takes effect (R17, R441). -/
def State.applyWants (s : State) (i : Fin 5) : Bool :=
  match s.prm.pend with
  | some p => (!p.fabric || p.ownAck) &&
      (((formMap s s.prm.undercoat).getD i.val []).any (fun x => decide (x ≠ 255)) ||
        (decide (i.val = 4) && decide ((bankGet s.prm.undercoat pCycSpareMode 0).headD 0 ≠ 0)))
  | none => false

/-- The domain of a tile is to be on (R15, R17). -/
def tileWanted (s : State) (i : Fin 5) : Bool :=
  !(s.tiles.tiles.get i).masked &&
    (!s.rowEmpty i || (decide (i.val = 4) && decide (s.spareMode ≠ 0)) || s.applyWants i)

/-- Every tile that the pending APPLY needs has completed its two cycles (R17). -/
def State.tilesPowered (s : State) : Bool :=
  (List.finRange 5).all (fun i => !s.applyWants i || (s.tiles.tiles.get i).masked || s.tileReady i)

/-- PROF goes on for a tile that is wanted or when cycling can start, and off while cycling is stopped, no axis is enabled and no tile
domain that requires it is on (R15, R16). Log 234 (DEDUCED). -/
def profDomain (s : State) : State :=
  let tiles := (List.finRange 5).any (fun i => s.domOn (tileDom i) || tileWanted s i)
  let need := tiles || s.cyc.cycling || s.cyc.priming.isSome || allAxes.any (fun a => (s.ax a).enabled) ||
    (s.prm.topcoatValid && s.fab.ftValid && decide (s.life.lc ≠ 4))
  if need then (if s.domOn .mem ∧ ¬ s.power.lost.contains 3 then s.setDom .prof true else s)
  else s.setDom .prof false

/-- Tile domains, and PROF with them, switch at a control-cycle boundary, tiles only while they hold no axis (R15-R17).
Log 131 (DEDUCED). -/
def tileDomains (s0 : State) : State :=
  let s := profDomain s0
  refreshTiles <| profDomain <| ((List.finRange 5).foldl (fun s i =>
    let on := s.domOn (tileDom i)
    if tileWanted s i ∧ ¬ on ∧ s.domOn .prof ∧ s.rowEmpty i then
      (s.setDom (tileDom i) true).modTile i (fun x =>
        { x with powerDue := some (s.time.lt + 2 * s.pn pCycPeriodNs 0), regs := {}, scratch := [] })
    else if ¬ tileWanted s i ∧ on ∧ s.rowEmpty i ∧ ¬ s.inSlice i then
      (s.setDom (tileDom i) false).modTile i (fun x => { x with powerDue := none, regs := {}, scratch := [] })
    else s) s)

/-- TILE_POWERED: a tile switched on becomes usable after two control cycles (R17). -/
def execTilePowered (t : Nat) (tile : Fin 5) (s : State) : Host.Outcome State Fault Refusal :=
  let s := s.begin t
  match (s.tiles.tiles.get tile).powerDue with
  | some d =>
    if d ≤ s.time.lt then done (refreshTiles (s.modTile tile (fun x => { x with powerDue := none }))) else done s
  | none => done s

/-! ### Failures -/

/-- A new incident (R478). -/
def State.newIncident (s : State) : Nat × State :=
  (s.flt.incidents + 1, { s with flt := { s.flt with incidents := s.flt.incidents + 1 } })

/-- A LOOP record against a tile. -/
def tileOcc (code tile : Nat) (level : Option Nat) (stamp : Option Int) (incident : Nat) : Occ :=
  ⟨code, 0x60 + tile, level, false, stamp, incident⟩

/-- The last event as `cyc.tile_status` shows it (R335): LAST_N, LAST_K, tile, outcome, repeats, axis and offset.
Log 128 (DEDUCED). -/
def lastEvent (tile outcome repeats axis ofs : Nat) (s : State) : State :=
  { s with tiles := { s.tiles with last := [s.cyc.n % 2 ^ 32, s.cyc.k, tile, outcome, repeats, axis, ofs] } }

/-- The outcome of a takeover shows with its own cycle, tile and mismatch, and the two frames that each axis repeated (R335). -/
def lastOutcome (k : Takeover) (outcome : Nat) (s : State) : State :=
  { s with tiles := { s.tiles with last := [k.n % 2 ^ 32, k.k, k.tile, outcome, 2, k.axis, k.ofs] } }

/-- A tile is masked without a spare: its axes lose torque and their frames carry ENABLE = 0 from the next cycle on (R331). -/
def failAlone (i : Fin 5) (incident : Nat) (stamp : Option Int) (s : State) : State :=
  dropRow i (settle ((maskTile i s).raiseOcc (tileOcc fTileFail i.val (some 3) stamp incident)))

/-- A replay that runs on a tile ends when the tile is needed (R559). -/
def needTile (i : Fin 5) (s : State) : State :=
  match s.rcd.replay with
  | some p => if p.tile = i then replayAbort s else s
  | none => s

/-- A tile fails without a self-test (R330, R331, R333). `late` adds TILE_LATE of R38. -/
def tileFails (i : Fin 5) (late : Bool) (s : State) : State :=
  if (s.tiles.tiles.get i).masked then s
  else if s.isTx i then
    { s with tiles := { s.tiles with takeover := s.tiles.takeover.map (fun k => { k with failTx := true }) } }
  else
    let (inc, s) := (needTile i s).newIncident
    let lateOcc := fun (s : State) => if late then s.raiseOcc (tileOcc fTileLate i.val none none inc) else s
    if i.val = 4 ∧ s.rowEmpty 4 then
      if s.inSlice 4 then
        { s with tiles := { s.tiles with takeover := s.tiles.takeover.map (fun k => { k with failT4 := true }) } }
      else
        (lastEvent 4 3 0 0 0 (maskTile 4 { s with tiles := { s.tiles with checked := 7 } })).raiseOcc
          (tileOcc fSpareFail 4 none none inc)
    else if s.spareFree ∧ i.val < 4 then
      let s1 := needTile 4 s
      let s2 := { s1 with tiles := { s1.tiles with takeover := s1.tiles.takeover.map (fun k => { k with alone := true }) } }
      lateOcc ((lastEvent i.val 2 1 0 0 (spareTakes i (maskTile i s2))).raiseOcc (tileOcc fTileFail i.val (some 1) none inc))
    else failAlone i inc none (lateOcc (lastEvent i.val 5 1 0 0 s))

/-! ### Takeover (R328-R333) -/

/-- What the count of TRANSIENT records leads to: the tile fails, or T4 is masked, with the slots that it may hold on no tile any more
(R331, R332). Log 253 (DEDUCED). -/
def transientLimit (k : Takeover) (s : State) : State :=
  let tile := tileIdx k.tile
  let now := s.time.lt
  let l := s.tiles.transients.filter (fun e => decide (now < e.2 + 3600000000000)) ++ [(tile.val, now)]
  let s1 := { s with tiles := { s.tiles with transients := l } }
  let lim := s.pn pFltTransientLimit 0
  if (l.filter (fun e => decide (e.1 = tile.val))).length ≥ lim then
    let s2 := tileFails tile false s1
    lastOutcome k (s2.tiles.last.getD 3 0) s2
  else if l.length ≥ lim ∧ ¬ (s1.tiles.tiles.get 4).masked then
    let s2 := lastOutcome k 3 (if s1.rowEmpty 4 then maskTile 4 s1 else failAlone 4 k.incident none s1)
    s2.raise fSpareFail 0x64
  else s1

/-- The outcome of a takeover (R329, R333). Log 129 (DEDUCED). -/
def takeoverOutcome (k : Takeover) (s0 : State) : State :=
  let s := { s0 with tiles := { s0.tiles with takeover := none } }
  let i := tileIdx k.tile
  let (a, b) := k.result.getD (false, false)
  let tx := a && !k.failTx
  let t4 := b && !k.failT4
  let trans := fun (s : State) =>
    transientLimit k ((lastOutcome k 1 { s with tiles := { s.tiles with nextCheck := (k.tile + 1) % 4 } }).raiseOcc
      (tileOcc fTransient k.tile none (some k.stamp) k.incident))
  if k.alone then
    if tx then trans s else failAlone i k.incident (some k.stamp) (lastOutcome k 5 s)
  else if ¬ tx ∧ t4 then
    (lastOutcome k 2 (spareTakes i (maskTile i s))).raiseOcc (tileOcc fTileFail k.tile (some 1) (some k.stamp) k.incident)
  else if tx ∧ ¬ t4 then
    (lastOutcome k 3 (maskTile 4 s)).raiseOcc (tileOcc fSpareFail 4 none (some k.stamp) k.incident)
  else if ¬ tx ∧ ¬ t4 then failAlone i k.incident (some k.stamp) (lastOutcome k 4 (maskTile 4 s))
  else trans s

/-- The takeover at the opening of a tile window: its outcome takes effect in the second one after the mismatch (R328). -/
def takeoverStep (s : State) : State :=
  match s.tiles.takeover with
  | none => s
  | some k =>
    if k.left ≤ 1 then takeoverOutcome k s
    else { s with tiles := { s.tiles with takeover := some { k with left := k.left - 1 } } }

/-- SELF_TEST_SLICE_DONE: the slices of Tx and T4 end; the outcome acts at the opening of the tile window of k + 2 (R328,
R329). A Tx that failed meanwhile stays failed (R333). -/
def execSelfTestSliceDone (t : Nat) (txPass t4Pass : Bool) (s : State) : Host.Outcome State Fault Refusal :=
  let s := s.begin t
  done { s with tiles := { s.tiles with takeover := s.tiles.takeover.map (fun k =>
    { k with result := some (txPass, t4Pass) }) } }

/-- COLD_SPARE_SELF_TEST: the idle spare's slice; one that fails masks T4 (R325, R336). -/
def execColdSpareSelfTest (t : Nat) (pass : Bool) (s : State) : Host.Outcome State Fault Refusal :=
  let s := s.begin t
  if s.spareMode = 1 ∧ s.tileReady 4 ∧ s.rowEmpty 4 ∧ ¬ s.inSlice 4 ∧ ¬ pass then
    done (refreshTiles ((lastEvent 4 3 0 0 0 (maskTile 4 (needTile 4 s))).raise fSpareFail 0x64))
  else done s

/-- The tile that T4 checks in this cycle (R326). -/
def pickChecked (s : State) : State :=
  let on := decide (s.spareMode = 2) && s.tileReady 4 && s.rowEmpty 4 && s.tiles.takeover.isNone && !s.cyc.inPriming &&
    (match s.rcd.replay with | some p => decide (p.tile.val ≠ 4) | none => true)
  let pick := ((List.range 4).map (fun j => (s.tiles.nextCheck + j) % 4)).find? (fun i =>
    !s.rowEmpty (tileIdx i) && s.tileReady (tileIdx i))
  match on, pick with
  | true, some i => { s with tiles := { s.tiles with checked := i, nextCheck := (i + 1) % 4, checkBuf := [], checkOwn := [] } }
  | _, _ => { s with tiles := { s.tiles with checked := 7, checkBuf := [], checkOwn := [] } }

end Sys2Proof.Machine
end

