-- ==== Sys2Proof/Machine/Cycle.lean ====
section
/-! DEFINITION. The control cycle: its start, the tile window, mode and enable switches, the position cycle, the fast status
window, and starting and stopping cycling (02_control_cycle.md; 06_velocity_position.md, R176-R183). -/

namespace Sys2Proof.Machine

/-! ### Mode and enable switches (R176-R183) -/

/-- The tiles compute the axis in this cycle: its tile works, its link runs and its frame was accepted (R48, R89, R328). -/
def State.computes (s : State) (a : AxisId) : Bool :=
  let l := (s.ax a).link
  match s.tileOf a with
  | some i => s.tileReady i && !s.isTx i && decide (l.st = .run) && l.virt.isNone && l.fresh
  | none => false

/-- Engage that a switch into Geared mode fixes at its switch cycle (R289): gear state WAIT at the preset, or RANGE. -/
def gearSwitch (a : AxisId) (s : State) : Option State :=
  let x := s.ax a
  match x.gear.want with
  | none => none
  | some (r, q) =>
    let (m, v, ac) := s.masterAt r.master s.cyc.start
    let g : Gear := { x.gear with st := 1, master := r.master, run := holdCurve x.prof.sp.p, next := none, want := none
                                  tag := (match q with | some c => c.tag | none => 0), m := m, vM := v, aM := ac, u := 0, mNext := m }
    match fixEngage s g.run r s.cyc.start with
    | none => some ((s.finish? q { status := stRange }).modAxis a (fun x =>
        { x with gear := { x.gear with want := none }, pendSw := none }))
    | some c => some ((gearFresh a s).modAxis a (fun x =>
        { x with gear := { g with next := some c, masterStale := false }, pendSw := x.pendSw.map (fun w => { w with req := q }) }))

/-- A mode switch of an enabled axis is made in its switch cycle: the velocity path or the winding references are handed over
(R178-R181), a HOME that runs ends, and a method 3 alignment is due (R205). Log 184 (DEDUCED). Log 191 (DEDUCED). -/
def switchMode (a : AxisId) (w : PendSwitch) (s : State) : State :=
  let x := s.ax a
  let old := x.mode
  let ol := decide (old = 5) != decide (w.target = 5)
  let s0 := homeAbort a s
  let s1 := setMode a w.target (if w.preset ∧ presets w.target then s0 else dropSwitched a s0)
  s1.modAxis a (fun x =>
    { x with
      pendSw := x.pendSw.map (fun p => { p with made := true, old := old })
      gear := if old = 3 ∧ w.target ≠ 3 then { x.gear with st := 0, next := none, want := none } else x.gear
      vel := { x.vel.noBlend with hand := if w.target ≤ 4 then some x.cur.refQ else none }
      cur := { x.cur with stp := { x.cur.stp.noBlend with blPend := ol && decide (s.pa pAxMotKind a = 2) } }
      fb := if old = 5 ∧ w.target ≤ 4 ∧ s.pa pAxFbCommMethod a = 3 then { x.fb with stepAlign := some x.cur.stp.lastTheta }
        else x.fb })

/-- The switch of an axis that its cycle computes is made (R176, R182). -/
def switchAxis (a : AxisId) (s : State) : State :=
  match (s.ax a).pendSw with
  | none => s
  | some w =>
    if w.made ∨ ¬ s.cyc.posCyc ∨ s.cyc.posNo < w.at_ ∨ ¬ (s.ax a).enabled ∨ ¬ s.computes a then s
    else if w.target = 3 ∧ (s.ax a).mode ≠ 3 then
      match gearSwitch a s with
      | none => s.modAxis a (fun x => { x with pendSw := none })
      | some s1 => if (s1.ax a).pendSw.isNone then s1 else switchMode a w s1
    else switchMode a w s

/-- A due switch whose axis is not computed moves by two position cycles, and after the third move ends with TIMEOUT (R182). Log 181 (DEDUCED). -/
def moveSwitch (a : AxisId) (s : State) : State :=
  match (s.ax a).pendSw with
  | none => s
  | some w =>
    if w.made ∨ ¬ s.cyc.posCyc ∨ s.cyc.posNo < w.at_ ∨ ¬ (s.ax a).enabled ∨ s.computes a then s
    else if 3 ≤ w.moved then
      (gearOff a (s.finish? w.req { status := stTimeout })).modAxis a (fun x => { x with pendSw := none })
    else s.modAxis a (fun x => { x with pendSw := some { w with at_ := s.cyc.posNo + 2, moved := w.moved + 1 } })

/-- A switch of a disabled axis takes effect at a position-cycle boundary with no preset (R176, R182, R611). Log 182 (DEDUCED). -/
def switchDisabled (a : AxisId) (s : State) : State :=
  match (s.ax a).pendSw with
  | none => s
  | some w =>
    if (s.ax a).enabled ∨ (s.cyc.cycling ∧ (¬ s.cyc.posCyc ∨ s.cyc.posNo < w.at_)) then s
    else (setMode a w.target (gearOff a (s.finish? w.req (okRsp [])))).modAxis a (fun x => { x with pendSw := none })

/-- What an enable clears on one axis (R129, R131, R145, R183). -/
def enableAxis (a : AxisId) (s : State) : State :=
  s.modAxis a (fun x =>
    { x with
      enabled := true
      vel := velClear x.vel
      cur := { x.cur with intD := 0, intQ := 0, vbusEn := none
                          stp := { x.cur.stp.noBlend with offA := 0, offB := 0, holdSince := none, holding := false, rampStep := 0
                                                          blA := 0, blB := 0 } } })

/-- A pending enable is due in this position cycle. -/
def PendEnable.due (p : PendEnable) (s : State) : Bool := !p.effective && s.cyc.posCyc && decide (p.at_ ≤ s.cyc.posNo)

/-- Every axis of a pending enable is computed in this cycle. -/
def PendEnable.ready (p : PendEnable) (s : State) : Bool := (maskAxes p.mask).all (fun a => s.computes a)

/-- Enables that are due take effect: the frames of this cycle carry ENABLE = 1 (R183). -/
def enableDue (s : State) : State :=
  let now := s.cyc.pendEnable.filter (fun p => p.due s && p.ready s)
  let s1 := { s with cyc := { s.cyc with pendEnable := s.cyc.pendEnable.map (fun p =>
    if p.due s && p.ready s then { p with effective := true } else p) } }
  now.foldl (fun s p => forAxes (maskAxes p.mask) enableAxis s) s1

/-- Enables that are due and cannot take effect move as a whole, or end with TIMEOUT (R183). Log 180 (DEDUCED). -/
def enableMove (s : State) : State :=
  let late := fun (p : PendEnable) => p.due s && !p.ready s
  let over3 := s.cyc.pendEnable.filter (fun p => late p && decide (3 ≤ p.moved))
  let kept := (s.cyc.pendEnable.filter (fun p => !(late p && decide (3 ≤ p.moved)))).map
    (fun p => if late p then { p with at_ := s.cyc.posNo + 2, moved := p.moved + 1 } else p)
  let s1 := { s with cyc := { s.cyc with pendEnable := kept } }
  over3.foldl (fun s1 p => s1.finish p.req { status := stTimeout, detail := (((maskAxes p.mask).find? (fun a => !s.computes a)).map (·.val)).getD 0 }) s1

/-- MODE_SWITCH_CYCLE: the switch cycle of an axis whose frame has been accepted, or the boundary of a disabled axis (R178). -/
def execModeSwitchCycle (t : Nat) (ax : AxisId) (s : State) : Host.Outcome State Fault Refusal :=
  let s := s.begin t
  if s.cyc.cycling ∧ ¬ s.cyc.opened then done (switchAxis ax (switchDisabled ax s)) else done s

/-- ENABLE_CYCLE: cycle s of a pending enable whose frames have been accepted (R183). -/
def execEnableCycle (t : Nat) (s : State) : Host.Outcome State Fault Refusal :=
  let s := s.begin t
  if s.cyc.cycling ∧ ¬ s.cyc.opened then done (enableDue s) else done s

/-! ### Starting and stopping cycling (R48-R52) -/

/-- A COMMIT parameter differs between undercoat and topcoat. -/
def State.differs (s : State) (key inst : Nat) : Bool :=
  decide (bankGet s.prm.undercoat key inst ≠ bankGet s.prm.topcoat key inst)

/-- The APPLY changes one of the cycle parameters of R50. -/
def State.stopsCycling (s : State) : Bool :=
  [pCycPeriodNs, pCycPhaseNs, pCycVelDiv, pCycPosDiv, pFabCycleNs].any (fun k => s.differs k 0)

/-- The conditions of R48 but for placement. An APPLY that stops cycling restarts it with its own values (R50). -/
def State.canCycle (s : State) : Bool :=
  !(s.prm.pend.isSome && s.stopsCycling) && s.prm.topcoatValid && s.fab.ftValid && decide (s.life.lc ≠ 4) && s.life.bist.isNone &&
  (List.finRange 5).all (fun i => s.rowEmpty i || s.tileReady i) &&
  allAxes.all (fun a => !(mapped a s && decide (s.pa pAxLnkEnable a = 1)) || decide ((s.ax a).link.st = .ready))

/-- The fabric cycle in which the priming cycle is placed (R48). -/
def State.primingCycle (s : State) : Nat :=
  let per : Int := max 1 s.cycleNs
  let first := -((-s.ft) / per) + 2
  let ann := allAxes.filterMap (fun a => if (s.ax a).link.st = .ready then (s.ax a).link.virt.map Prod.fst else none)
  let need := ann.foldl (fun (m : Int) x => max m (x + 50000)) (s.cycleStartFt first.toNat 0)
  (first + max 0 (-((s.cycleStartFt first.toNat 0 - need) / per))).toNat

/-- What a new control cycle clears and makes its own (R30, R33, R40); the cycle before it, if computed, has completed (R49). -/
def newCycle (n k : Nat) (priming : Bool) (s : State) : State :=
  let pos := decide (k % (s.pn pCycPosDiv 0) = 0)
  { s with cyc := { s.cyc with
      n := n, k := k, start := s.cycleStartFt n k, per := s.pn pCycPeriodNs 0, liveHold := none
      computed := if s.cyc.cycling ∧ ¬ s.cyc.inPriming ∧ s.cyc.closed then s.cyc.computed + 1 else s.cyc.computed
      opened := false, closed := false, flipped := false
      compMask := 0, lostMask := 0, skipMask := 0, cycling := true, inPriming := priming
      velCyc := decide (k % (s.pn pCycVelDiv 0) = 0), posCyc := pos
      posNo := if priming then 0 else if pos then s.cyc.posNo + 1 else s.cyc.posNo }
           tiles := { s.tiles with mismatch := none, failed := [] } }

/-- Links at a cycle start: a running one awaits its frame; one in READY joins, its first frame is that of this cycle (R48,
R65). Log 165 (DEDUCED). -/
def linksAtStart (s : State) : State :=
  forAxes allAxes (fun a s =>
    let l := (s.ax a).link
    if l.st = .run then s.modLink a (fun l => { l with fresh := false, lost := false, late := false, virt := none })
    else if l.st = .ready then
      setLink a .run (s.modLink a (fun l => { l with fresh := false, lost := false, late := false, virt := some (s.cyc.start, 0) }))
    else s) s

/-- CYCLE parameters take effect (R9, R454). -/
def cycleParams (s : State) : State :=
  let s1 := s.prm.cyclePend.foldl (fun s e => s.setLive (e.1 / 256) (e.1 % 256) e.2) s
  { s1 with prm := { s1.prm with cyclePend := [] } }

/-- The digital inputs as the cycle evaluates them: the first edge since the last start, and the filtered level (R248, R262,
R518). -/
def inputsAtStart (s : State) : State :=
  let s1 := { s with fld := { s.fld with di := s.fld.di.map (fun d =>
    { d with win := d.first, first := none, lvlPrev := d.lvl, lvl := d.filt }) } }
  (List.finRange 16).foldl (fun s i =>
    let d := s.fld.di.get i
    if 8 ≤ i.val then evalDi i.val d.lvl (if d.win.isSome then some d.filtAt else none) s else s) s1

/-- A freeze of the recorder comes nearer by one control cycle (R556). -/
def freezeCount (s : State) : State :=
  { s with rcd := { s.rcd with freezeDue := s.rcd.freezeDue.map (fun e => (e.1 - 1, e.2)) } }

/-- Start of control cycle (n, k). -/
def beginCycle (n k : Nat) (priming : Bool) (s : State) : State :=
  let s1 := freezeCount (inputsAtStart (cycleParams (linksAtStart (newCycle n k priming s))))
  tileDomains (forAxes allAxes switchDisabled s1)

/-- Cycling stops: links return to READY on the announced instant, waiting switches take effect at once, and enables end (R50,
R52, R611). Log 183 (DEDUCED). -/
def stopCycling (s : State) : State :=
  let next := s.cyc.start + s.cyc.per
  let per := s.cyc.per
  let s1 := { s with cyc := { s.cyc with cycling := false, inPriming := false, stopDue := false, priming := none, computed := 0,
                                         posCyc := false, velCyc := false, pendEnable := [] }
                     rcd := { s.rcd with running := false, spanLen := 0, cmds := [], berths := [] } }
  let s2 := s.cyc.pendEnable.foldl (fun s p => s.finish p.req { status := stState }) s1
  let s3 := forAxes allAxes (fun a s =>
    if (s.ax a).link.st = .run then
      (setLink a .ready ((endTripClear a stUnreachable s).modLink a (fun l => { l with virt := some (next, per), fresh := false, lost := false }))).modAxis a (fun x =>
        { x with torque := false, latch0 := x.latch0.off, latch1 := x.latch1.off })
    else s) s2
  tileDomains (cycleParams (acqEnd 2 (forAxes allAxes (fun a s => latchEvents a (homeDone a (switchDisabled a s))) s3)))

/-- CYCLING_START: once the conditions of R48 hold the priming cycle is placed, and at its start cycling starts (R48). A
placement lapses where the conditions no longer hold at that start. Log 164 (DEDUCED). -/
def startCycling (s : State) : State :=
  if s.cyc.cycling then s
  else match s.cyc.priming with
    | none => if s.canCycle then { s with cyc := { s.cyc with priming := some s.primingCycle } } else s
    | some n =>
      if s.ft < s.cycleStartFt n 0 then s
      else if s.canCycle then
        beginCycle n 0 true { s with cyc := { s.cyc with priming := none, computed := 0, stopDue := false } }
      else { s with cyc := { s.cyc with priming := none } }

/-- CYCLING_START: the priming cycle is placed or begins (R48). -/
def execCyclingStart (t : Nat) (s : State) : Host.Outcome State Fault Refusal := done (startCycling (s.begin t))

/-- The last frame of some running link carried ENABLE = 1: one more cycle sends the last frame of R52. -/
def State.torqueSent (s : State) : Bool := allAxes.any (fun a => (s.ax a).torque && decide ((s.ax a).link.st = .run))

/-- Cycling is to stop with the present cycle: by an APPLY or BIST_RUN of this node, or by a committed fabric-wide APPLY whose cycle
has begun by its end (R50, R51, R443). Log 115 (DEDUCED). -/
def State.stopWanted (s : State) : Bool :=
  s.cyc.stopDue || (match s.prm.pend with
    | some p => p.fabric && decide (p.decision = 1) && p.ownAck && s.stopsCycling && decide (s.startOf p.n ≤ s.cyc.start + s.cyc.per)
    | none => false)

/-- CONTROL_CYCLE_START: the next control cycle starts at its fabric time, or cycling stops, once every last frame has commanded
all switches off (R30, R35, R50, R52). Log 3 (DESIGN CHOICE). Log 231 (DEDUCED). -/
def execControlCycleStart (t : Nat) (s : State) : Host.Outcome State Fault Refusal :=
  let s := s.begin t
  if ¬ s.cyc.cycling then done (startCycling s)
  else
    let (n, k) := s.nextCycle s.cyc.n s.cyc.k
    if s.ft < s.cyc.start + s.cyc.per then done s
    else if s.stopWanted ∧ ¬ s.torqueSent then done (stopCycling s)
    else done (beginCycle n k false s)

/-! ### The tile window (R34-R38) -/

/-- A frame with all switches off (R48, R331). -/
def offFrame (a : AxisId) (s : State) : State :=
  s.modAxis a (fun x => { x with dn := { x.dn with
    type := 0x11, enable := false, rep := false, built := true, car := offCarrier s a x
    tripClear := x.link.clearsTrip
    arm0 := false, arm1 := false } })

def bit (a : AxisId) : Nat := 2 ^ a.val

/-- One axis of a tile's row: computed, or its frame repeats (R37, R89, R328). -/
def rowAxis (i : Fin 5) (s : State) (n : Nat) : State :=
  match axisOf? n with
  | none => s
  | some a =>
    let l := (s.ax a).link
    if l.st ≠ .run then s
    else if l.virt.isSome then offFrame a s
    else if s.isTx i ∨ ¬ s.tileReady i then
      skipAxis a { s with cyc := { s.cyc with skipMask := s.cyc.skipMask ||| bit a } }
    else match l.fresh, l.up with
      | true, some u => computeAxis i a u { s with cyc := { s.cyc with compMask := s.cyc.compMask ||| bit a } }
      | _, _ => skipAxis a { s with cyc := { s.cyc with lostMask := s.cyc.lostMask ||| bit a } }

/-- Every tile compares the staged halves of its axes in the test mode, computed or not (R121). -/
def comparePairs (s : State) : State :=
  forAxes allAxes (fun a s =>
    if (s.ax a).mode = 6 ∧ mapped a s then s.modAxis a (fun x => { x with mod := pairCheck s a x.mod }) else s) s

/-- The pass of all tiles; running links on no tile get a frame with all switches off (R37, R331). -/
def tilePasses (s : State) : State :=
  let s1 := (List.finRange 5).foldl (fun s i => (s.tileRow i).foldl (rowAxis i) s) s
  forAxes allAxes (fun a s => if (s.ax a).link.st = .run ∧ ¬ mapped a s then offFrame a s else s) s1

/-- The emulator takes its source's value (R206). -/
def emuCycle (s : State) : State :=
  let src := s.pn pModEmuSource 0
  match axisOf? src with
  | some a =>
    let x := s.ax a
    emuTake src (s.pn pAxFbEmuResolution src) x.fb.pRef (if bitOf s.cyc.compMask src then some x.fb.pFb else none) s.cyc.start
      (s.pn pCycPeriodNs 0) s
  | none =>
    if 0x40 ≤ src ∧ src ≤ 0x43 then
      let i : TideId := ⟨src % 4, by omega⟩
      if s.cyc.posCyc then
        emuTake src (s.pn pTideEmuResolution i.val) 0 (some (s.tideAt i s.cyc.start).1) s.cyc.start s.posNs s
      else s
    else emuOff s

/-- First word in which the store of T4 and that of the checked tile differ, or 0 where the clocks to END do (R327). -/
def CheckPass.differs (own t4 : CheckPass) : Option Nat :=
  match (own.words.map (fun e => e.1) ++ t4.words.map (fun e => e.1)).find? (fun o => decide (alGet 0 o own.words ≠ alGet 0 o t4.words)) with
  | some o => some o
  | none => if own.clocks = t4.clocks then none else some 0

/-- The comparator: the stores of T4 are those of the checked tile but for the one in which the silicon deviated, at the instant that it
gives (R327). -/
def compareStores (obs : TileObs) (s : State) : Option (Nat × Nat × Nat) :=
  match obs.mismatch with
  | none => none
  | some (a, o, ns) =>
    let buf := s.tiles.checkBuf.map (fun c =>
      if c.axis = a.val then { c with words := alPut o ((alGet 0 o c.words + 1) % 2 ^ 64) c.words } else c)
    (s.tiles.checkOwn.zip buf).findSome? (fun p => (p.1.differs p.2).map (fun d => (p.1.axis, d, ns)))

/-- What the hardware observed in the pass (R322, R327, R330). -/
def observed (obs : TileObs) (s : State) : State :=
  let ueTiles := obs.ssUe.filterMap (fun a => if bitOf s.cyc.compMask a.val then (s.tileOf a).map (fun i => i.val) else none)
  let s1 := obs.ssUe.foldl (fun s a => if bitOf s.cyc.compMask a.val then s.raise fSsUe a.val else s) s
  let s2 := obs.ssCe.foldl (fun s a => s.raise fSsCe a.val) s1
  let fails := (obs.parity.filter (fun i => s.tileReady i)).map (fun i => i.val) ++ ueTiles
  let mis := compareStores obs s
  { s2 with tiles := { s2.tiles with failed := s2.tiles.failed ++ fails, mismatch := s2.tiles.mismatch <|> mis } }

/-- The NOW parameters before and after the writes of the last 5 ns change places (R610). -/
def swapLive (s : State) : State :=
  match s.cyc.liveHold with
  | some b => { s with cyc := { s.cyc with liveHold := some s.prm.live }, prm := { s.prm with live := b } }
  | none => s

/-- What was completed in the last 5 ns before the opening acts from here on (R610). -/
def gapEnds (s : State) : State :=
  forAxes allAxes (fun a s => s.modAxis a (fun x =>
    { x with offLate := false, latch0 := { x.latch0 with hold := false }, latch1 := { x.latch1 with hold := false }
             link := { x.link with tripClear := x.link.tripClear.map (fun c => { c with hold := false }) } })) s

/-- TILE_WINDOW_OPEN (R35-R37, R48, R328, R610). -/
def execTileWindowOpen (t : Nat) (obs : TileObs) (s : State) : Host.Outcome State Fault Refusal :=
  let s := s.begin t
  if ¬ s.cyc.cycling ∨ s.cyc.opened ∨ s.ft < s.cyc.start + 2330 then done s
  else
    let s := swapLive s
    let late := forAxes allAxes tripClearBuild (if s.cyc.inPriming then s else loseMissing s)
    let s1 :=
      if s.cyc.inPriming then forAxes allAxes (fun a s => if (s.ax a).link.st = .run then offFrame a s else s) (comparePairs late)
      else
        let s1 := enableMove (enableDue (forAxes allAxes (fun a s => moveSwitch a (switchAxis a s)) (takeoverStep late)))
        let s2 := pickChecked s1
        let s3 := { s2 with tiles := { s2.tiles with journal := allAxes.map (fun a => (a.val, s2.ax a)) } }
        let s4 := tilePasses (comparePairs s3)
        observed obs (emuCycle { s4 with tiles := { s4.tiles with after := allAxes.map (fun a => (a.val, s4.ax a)) } })
    let s2 := settle (swapLive s1)
    done (refreshTiles (gapEnds { s2 with cyc := { s2.cyc with opened := true, liveHold := none } }))

/-! ### The close of the tile window -/

/-- A switch of an axis whose pass is undone did not take place: the old mode returns, and the switch moves (R182, R328). -/
def undoSwitch (a : AxisId) (s : State) : State :=
  match (s.ax a).pendSw with
  | some w =>
    if w.made then
      let s1 := (setMode a w.old s).modAxis a (fun x =>
        { x with pendSw := some { w with made := false, at_ := s.cyc.posNo + 2, moved := w.moved + 1 }
                 gear := if w.target = 3 then { x.gear with st := 0 } else x.gear })
      if 3 ≤ w.moved then (s1.finish? w.req { status := stTimeout }).modAxis a (fun x => { x with pendSw := none }) else s1
    else s
  | none => s

/-- An enable of which one axis is undone did not take place; all its axes stay disabled for now (R183, R328). -/
def undoEnable (a : AxisId) (s : State) : State :=
  let hit := fun (p : PendEnable) => p.effective && bitOf p.mask a.val
  let mask := (s.cyc.pendEnable.filter hit).foldl (fun (m : Nat) p => m ||| p.mask) 0
  let gone := s.cyc.pendEnable.filter (fun p => hit p && decide (3 ≤ p.moved))
  let kept := (s.cyc.pendEnable.filter (fun p => !(hit p && decide (3 ≤ p.moved)))).map
    (fun p => if hit p then { p with effective := false, at_ := s.cyc.posNo + 2, moved := p.moved + 1 } else p)
  let s1 := { s with cyc := { s.cyc with pendEnable := kept } }
  let s2 := forAxes (maskAxes mask) (fun b s => s.modAxis b (fun x =>
    { x with enabled := false, dn := { x.dn with enable := false, car := offCarrier s b x } })) s1
  gone.foldl (fun s p => s.finish p.req { status := stTimeout, detail := a.val }) s2

/-- A part of an axis as the undo leaves it: that of the previous cycle, unless it has changed since the pass. -/
def undone {α : Type} [DecidableEq α] (post old now : α) : α := if now = post then old else now

/-- The undo of one axis: its state is that of the end of the previous cycle, positions in the reference of then, and its frame
repeats (R323, R328). -/
def undoAxis (a : AxisId) (s : State) : State :=
  let x0 := s.ax a
  let old := alGet x0 a.val s.tiles.journal
  let post := alGet x0 a.val s.tiles.after
  let d := old.fb.pRef - post.fb.pRef
  let s0 := if d = 0 then s else shiftGroup a d (s.modAxis a (shiftPos d))
  let s1 := s0.modAxis a (fun x =>
    { x with latch0 := undone post.latch0 old.latch0 x.latch0, latch1 := undone post.latch1 old.latch1 x.latch1
             swPos := undone post.swPos old.swPos x.swPos, swNeg := undone post.swNeg old.swNeg x.swNeg
             swHome := undone post.swHome old.swHome x.swHome
             home := if x0.home = post.home then old.home else x.home
             fb := old.fb, cur := old.cur, vel := { old.vel with hand := none }, mod := old.mod, pSet := old.pSet, vSet := old.vSet
             aSet := old.aSet, lateRun := old.lateRun, priv := old.priv, hook := old.hook, dn := old.dn })
  let s2 := undoEnable a (undoSwitch a s1)
  skipAxis a { s2 with cyc := { s2.cyc with compMask := s2.cyc.compMask ^^^ bit a, skipMask := s2.cyc.skipMask ||| bit a } }

/-- Undo of a tile's pass. Log 130 (DEDUCED). -/
def undoTile (i : Fin 5) (s : State) : State :=
  forAxes ((s.tileRow i).filterMap axisOf?) (fun a s => if bitOf s.cyc.compMask a.val then undoAxis a s else s) s

/-- Tiles that fail in this cycle (R330). -/
def closeFailed (obs : TileObs) (s : State) : List Nat :=
  s.tiles.failed ++ obs.late.map (fun i => i.val) ++ obs.parity.map (fun i => i.val)

/-- Tiles that failed in this cycle (R330): their passes are undone before the slots move. -/
def closeFailures (obs : TileObs) (s : State) : State :=
  let late := obs.late.map (fun i => i.val)
  let all := closeFailed obs s
  (List.finRange 5).foldl (fun s i =>
    if all.contains i.val ∧ ¬ (s.tiles.tiles.get i).masked then
      tileFails i (late.contains i.val) (if s.isTx i then s else undoTile i s)
    else s) s

/-- The result of warm-check: a mismatch starts a takeover sequence (R327, R328), unless the checked tile itself fails under
R330. A tile that fails beside it takes the spare, and Tx runs its slice alone (R333). -/
def closeCheck (obs : TileObs) (s : State) : State :=
  match s.tiles.mismatch with
  | none => s
  | some (ax, ofs, ns) =>
    let c := s.tiles.checked
    if c = 7 ∨ (closeFailed obs s).contains c ∨ s.tiles.takeover.isSome ∨ (s.tiles.tiles.get (tileIdx c)).masked ∨ ¬ s.spareFree then s
    else
      let i := tileIdx c
      let (inc, s1) := (needTile 4 (needTile i (undoTile i s))).newIncident
      let k : Takeover := { tile := c, left := 2, result := none, alone := false, stamp := s.cyc.start + 2330 + ns, incident := inc
                            n := s.cyc.n, k := s.cyc.k, axis := ax, ofs := ofs }
      lastEvent c 0 1 ax ofs { s1 with tiles := { s1.tiles with takeover := some k, checked := 7 } }

/-- The cycle counts as computed: HOMEs whose SET took place in it complete, and the LATCH events of its captures are posted (R257,
R264, R323). -/
def closePasses (s : State) : State := forAxes allAxes (fun a s => latchEvents a (homeDone a s)) s

/-- The tile window has closed: what the computed axes publish from here on (R283). -/
def publishSnaps (s : State) : State :=
  forAxes allAxes (fun a s =>
    if bitOf s.cyc.compMask a.val then
      s.modAxis a (fun x => { x with snap := ⟨s.cyc.start, x.fb.pFb, x.vel.vHat, x.pSet, x.vSet⟩ })
    else s) s

/-- Switches made in a cycle that was computed complete (R176). -/
def closeSwitches (s : State) : State :=
  forAxes allAxes (fun a s =>
    match (s.ax a).pendSw with
    | some w => if w.made ∧ bitOf s.cyc.compMask a.val then (s.finish? w.req (okRsp [])).modAxis a (fun x => { x with pendSw := none }) else s
    | none => s) s

/-- Standstill of a stepper in open-loop mode, and the ramp to the hold current (R145). -/
def holdTrack (before : State) (s : State) : State :=
  forAxes allAxes (fun a s =>
    let x := s.ax a
    let p := x.prof
    let took := decide (p.queue.length < (before.ax a).prof.queue.length)
    let still := decide (x.mode = 5 ∧ p.sp.v = 0 ∧ x.vSet = 0) && p.queue.isEmpty && !took
    s.modAxis a (fun x => { x with cur := { x.cur with stp :=
      if still then { x.cur.stp with holdSince := some (x.cur.stp.holdSince.getD s.time.lt)
                                     rampStep := if x.cur.stp.holding then min (x.cur.stp.rampStep + 1) 64 else 0 }
      else { x.cur.stp with holdSince := none, holding := false, rampStep := 0 } } })) s

/-- The profile engine in a position cycle: groups, then axes, masters before followers (R40, R42, R286). Log 188 (DEDUCED). -/
def positionCycle (s : State) : State :=
  let next := s.cyc.start + s.posNs
  let s1 := (List.finRange 8).foldl (fun s g => grpEngine g s) s
  holdTrack s (forAxes s1.masterOrder (axisEngine next) s1)

/-- TILE_WINDOW_CLOSE; without PROF no profile engine runs (R15, R34-R42, R328, R541). -/
def execTileWindowClose (t : Nat) (obs : TileObs) (s : State) : Host.Outcome State Fault Refusal :=
  let s := s.begin t
  if ¬ s.cyc.cycling ∨ ¬ s.cyc.opened ∨ s.cyc.closed ∨ s.ft < s.tClose then done s
  else
    let s1 := if s.cyc.inPriming then s else publishSnaps (closePasses (closeSwitches (closeFailures obs (closeCheck obs s))))
    let s2 := if s.cyc.posCyc ∧ s.domOn .prof then positionCycle s1 else s1
    let s3 := if s.cyc.inPriming then s2 else acqSample s2
    done (refreshTiles { s3 with cyc := { s3.cyc with closed := true } })

/-- STEPPER_HOLD_REDUCE: after `ax.stp.hold_delay_ms` of standstill the current ramps to the hold current (R145). -/
def execStepperHoldReduce (t : Nat) (ax : AxisId) (s : State) : Host.Outcome State Fault Refusal :=
  let s := s.begin t
  let x := s.ax ax
  match x.cur.stp.holdSince with
  | some since =>
    if x.mode = 5 ∧ ¬ x.cur.stp.holding ∧ since + s.pn pAxStpHoldDelayMs ax.val * 1000000 ≤ s.time.lt then
      done (s.modAxis ax (fun x => { x with cur := { x.cur with stp := { x.cur.stp with holding := true, rampStep := 0 } } }))
    else done s
  | none => done s

/-- ID_BOUND: an estimate held at a bound for 1 s, reported once for the run (R153, R175, R609). -/
def execIdBound (t : Nat) (ax : AxisId) (s : State) : Host.Outcome State Fault Refusal :=
  let s := s.begin t
  if idHeld s ax (s.ax ax) ∧ ¬ (s.ax ax).cur.id.boundRep then
    done ((s.modAxis ax (fun x => { x with cur := { x.cur with id := { x.cur.id with boundRep := true } } })).raise fIdBound ax.val)
  else done s

/-! ### The fast status window (R39, R410, R416) -/

/-- The fields that the tiles publish (R416). -/
def fastBuf (s : State) : FastBuf :=
  { fabN := s.cyc.n % 2 ^ 32, ctrlK := s.cyc.k, pubSkip := s.host.pubSkip, ft := s.cyc.start, applyGen := s.prm.applyGen
    modState := modState s, fltLevel := fltLevels s, fltCount := s.openSlots.length, fltNewest := s.flt.newest
    tidePos := (List.finRange 4).map (fun i => (s.tideAt i s.cyc.start).1)
    axes := allAxes.map (fun a => (axisState s a, satS 32 (s.ax a).vel.eP, (s.ax a).fb.pFb)) }

/-- A transaction that is open at this instant holds the buffer (R410). -/
def State.bufHeld (s : State) (b : Fin 2) : Bool :=
  match s.host.held with
  | some (h, until_) => decide (h = b ∧ s.time.lt < until_)
  | none => false

/-- FAST_STATUS_FLIP (R39, R410). -/
def execFastStatusFlip (t : Nat) (s : State) : Host.Outcome State Fault Refusal :=
  let s := s.begin t
  if ¬ s.cyc.cycling ∨ ¬ s.cyc.closed ∨ s.cyc.flipped ∨ s.ft < s.cyc.start + s.cyc.per - 200 then done s
  else
    let other : Fin 2 := if s.host.bufIdx = 0 then 1 else 0
    let s1 := { s with cyc := { s.cyc with flipped := true } }
    if s.bufHeld other then done { s1 with host := { s1.host with pubSkip := (s1.host.pubSkip + 1) % 2 ^ 16 } }
    else done { s1 with host := { s1.host with bufs := s1.host.bufs.set other.val (fastBuf s) other.isLt, bufIdx := other } }

end Sys2Proof.Machine
end

