-- ==== Sys2Proof/Machine/Crypto.lean ====
section
/-! DEFINITION. SHA-256 (FIPS 180-4) and ECDSA over P-256, which R319, R564, R568 and R570 name. Coordinates and signature parts are
most significant byte first. -/

namespace Sys2Proof.Machine

/-- Unsigned value of bytes, most significant first. -/
def ofBE (l : List Byte) : Nat := l.foldl (fun (acc : Nat) b => acc * 256 + b.toNat) 0

/-- The bytes of a value, most significant first. -/
def toBE (n : Nat) (x : Nat) : List Byte := (toLE n x).reverse

/-! ### SHA-256 -/

/-- The largest number below 2^n whose k-th power is at most x, one binary digit at a time. -/
def kthRoot (k : Nat) : Nat → Nat → Nat
  | 0, _ => 0
  | n + 1, x =>
    let r := 2 * kthRoot k n (x / 2 ^ k)
    if (r + 1) ^ k ≤ x then r + 1 else r

/-- The primes up to 311: those up to 17, and the numbers beyond that share no factor with their product. -/
def shaPrimes : List Nat :=
  let small := [2, 3, 5, 7, 11, 13, 17]
  small ++ (List.range 312).filter (fun n => decide (17 < n) && Nat.gcd n (small.foldl (· * ·) 1) == 1)

/-- First 32 bits of the fraction of a k-th root (FIPS 180-4, 4.2.2 and 5.3.3). -/
def rootFraction (k p : Nat) : Nat := kthRoot k 35 (p * 2 ^ (32 * k)) % 2 ^ 32

/-- Round constants from the cube roots of 64 primes, and the first hash value from the square roots of eight. -/
def shaK : List Nat := shaPrimes.map (rootFraction 3)
def shaInit : List Nat := (shaPrimes.take 8).map (rootFraction 2)

/-- Rotation of a 32-bit word to the right. -/
def rotr (n x : Nat) : Nat := x / 2 ^ n + x % 2 ^ n * 2 ^ (32 - n)

/-- Extend the message schedule, newest word first. -/
def shaSched : Nat → List Nat → List Nat
  | 0, w => w
  | n + 1, w =>
    let x := w.getD 14 0
    let y := w.getD 1 0
    let s0 := rotr 7 x ^^^ rotr 18 x ^^^ (x / 2 ^ 3)
    let s1 := rotr 17 y ^^^ rotr 19 y ^^^ (y / 2 ^ 10)
    shaSched n (((w.getD 15 0 + s0 + w.getD 6 0 + s1) % 2 ^ 32) :: w)

/-- The rounds of one block. -/
def shaRounds : List (Nat × Nat) → Nat → Nat → Nat → Nat → Nat → Nat → Nat → Nat → List Nat
  | [], a, b, c, d, e, f, g, h => [a, b, c, d, e, f, g, h]
  | (k, w) :: r, a, b, c, d, e, f, g, h =>
    let s1 := rotr 6 e ^^^ rotr 11 e ^^^ rotr 25 e
    let ch := (e &&& f) ^^^ ((2 ^ 32 - 1 - e) &&& g)
    let t1 := (h + s1 + ch + k + w) % 2 ^ 32
    let s0 := rotr 2 a ^^^ rotr 13 a ^^^ rotr 22 a
    let maj := (a &&& b) ^^^ (a &&& c) ^^^ (b &&& c)
    shaRounds r ((t1 + s0 + maj) % 2 ^ 32) a b c ((d + t1) % 2 ^ 32) e f g

/-- One block of 64 bytes. -/
def shaBlock (st : List Nat) (b : List Byte) : List Nat :=
  let w0 := ((chunks 4 16 b).map ofBE).reverse
  let w := (shaSched 48 w0).reverse
  let g := fun (i : Nat) => st.getD i 0
  let r := shaRounds (shaK.zip w) (g 0) (g 1) (g 2) (g 3) (g 4) (g 5) (g 6) (g 7)
  (st.zip r).map (fun e => (e.1 + e.2) % 2 ^ 32)

/-- SHA-256 of a message. -/
def sha256 (m : List Byte) : List Byte :=
  let n := m.length
  let pad := (119 - n % 64) % 64
  let msg := m ++ [0x80] ++ List.replicate pad 0 ++ toBE 8 (8 * n)
  (((chunks 64 (msg.length / 64) msg).foldl shaBlock shaInit).map (toBE 4)).flatten

/-! ### P-256 -/

def p256P : Nat := 0xffffffff00000001000000000000000000000000ffffffffffffffffffffffff
def p256N : Nat := 0xffffffff00000000ffffffffffffffffbce6faada7179e84f3b9cac2fc632551
def p256B : Nat := 0x5ac635d8aa3a93e7b3ebbd55769886bc651d06b0cc53b0f63bce3c3e27d2604b
def p256G : Nat × Nat := (0x6b17d1f2e12c4247f8bce6e563a440f277037d812deb33a0f4a13945d898c296,
  0x4fe342e2fe1a7f9b8ee7eb4a7c0f9e162bce33576b315ececbb6406837bf51f5)

/-- Power modulo m, over the bits of the exponent. -/
def powMod (m : Nat) : Nat → Nat → Nat → Nat → Nat
  | 0, _, _, acc => acc
  | k + 1, b, e, acc => powMod m k (b * b % m) (e / 2) (if e % 2 = 1 then acc * b % m else acc)

/-- Inverse modulo a prime. -/
def invMod (m x : Nat) : Nat := powMod m 256 (x % m) (m - 2) 1

/-- Sum of two points of the curve; `none` is the point at infinity. -/
def ptAdd (a b : Option (Nat × Nat)) : Option (Nat × Nat) :=
  match a, b with
  | none, q => q
  | q, none => q
  | some (x1, y1), some (x2, y2) =>
    let p := p256P
    if x1 = x2 ∧ (y1 + y2) % p = 0 then none
    else
      let l := if x1 = x2 then (3 * x1 * x1 + (p - 3)) * invMod p (2 * y1) % p else (y2 + p - y1) * invMod p (x2 + p - x1) % p
      let x3 := (l * l + 2 * p - x1 - x2) % p
      some (x3, (l * (x1 + p - x3) + p - y1) % p)

/-- Multiple of a point, over the bits of the factor. -/
def ptMul : Nat → Nat → Option (Nat × Nat) → Option (Nat × Nat) → Option (Nat × Nat)
  | 0, _, _, acc => acc
  | k + 1, e, q, acc => ptMul k (e / 2) (ptAdd q q) (if e % 2 = 1 then ptAdd acc q else acc)

/-- A point lies on the curve (R564). -/
def onCurve (x y : Nat) : Bool :=
  decide (x < p256P ∧ y < p256P) && decide (y * y % p256P = (x * x * x + (p256P - 3) * x + p256B) % p256P)

/-- A public key as 64 bytes: x and y (R564). -/
def keyPoint (key : List Byte) : Nat × Nat := (ofBE (key.take 32), ofBE ((key.drop 32).take 32))

/-- ECDSA P-256 verification of a 64-byte signature over a message with SHA-256 (R568). -/
def ecdsaOk (q : Nat × Nat) (msg sig : List Byte) : Bool :=
  let r := ofBE (sig.take 32)
  let s := ofBE ((sig.drop 32).take 32)
  let z := ofBE (sha256 msg)
  if sig.length ≠ 64 ∨ r = 0 ∨ p256N ≤ r ∨ s = 0 ∨ p256N ≤ s ∨ ¬ onCurve q.1 q.2 then false
  else
    let w := invMod p256N s
    match ptAdd (ptMul 256 (z * w % p256N) (some p256G) none) (ptMul 256 (r * w % p256N) (some q) none) with
    | none => false
    | some (x, _) => decide (x % p256N = r)

end Sys2Proof.Machine
end

