-- ==== Sys2Proof/Machine/Pending.lean ====
section
/-! DEFINITION. What an APPLY would change: comparison of the banks, the slot map that it forms, and the state refusals of R465,
which commands must not bring about while an APPLY is pending (R442). -/

namespace Sys2Proof.Machine

/-- Any instance of it does. -/
def State.differsAny (s : State) (key : Nat) : Bool :=
  match rowOf key with
  | some r => (List.range r.count).any (fun i => s.differs key i)
  | none => false

/-- Tile of an axis in a map; 5 for none. -/
def tileIn (m : List (List Nat)) (a : Nat) : Nat := m.findIdx (fun r => r.contains a)

/-- An axis counts as enabled from the acceptance of AXIS_ENABLE (R50, R442). -/
def State.axisOn (s : State) (a : AxisId) : Bool :=
  (s.ax a).enabled || s.cyc.pendEnable.any (fun p => bitOf p.mask a.val)

/-- The group moves or its queue holds entries (R226, R229). -/
def State.grpBusy (s : State) (g : Fin 8) : Bool := (s.grps.get g).busy

/-- Parameters of one tide that R281 guards. -/
def tideKeys : List Nat := [pTideSource, pTideUnitsPerCycle, pTideOriginNode, pTideStaleCycles, pTideEmuResolution]

/-- State refusals of an APPLY (R50, R226, R270, R281, R324, R377, R465). -/
def State.applyState (s : State) : Bool :=
  (s.stopsCycling && allAxes.any (fun a => s.axisOn a)) ||
  (s.differs pFabCycleNs 0 && decide (s.fab.ttNow ≠ 0xF)) ||
  (List.finRange 4).any (fun t =>
    ((s.differs pTideSource t.val || s.differs pTideOriginNode t.val) && !(s.tideAxes t.val).isEmpty) ||
    ((s.tides.get t).pend.isSome && tideKeys.any (fun k => s.differs k t.val))) ||
  (List.finRange 8).any (fun g => s.differs pGrpMember g.val && s.grpBusy g) ||
  (let m := formMap s s.prm.undercoat
   allAxes.any (fun a => s.axisOn a && decide (tileIn m a.val ≠ tileIn s.tiles.map a.val)))

/-- A command that leads to the state `after` would make a rule fail that the pending APPLY passed (R442). -/
def State.pendBlocks (s after : State) : Bool :=
  match s.prm.pend with
  | some _ => after.applyState && !s.applyState
  | none => false

end Sys2Proof.Machine
end

