-- ==== Sys2Proof/Machine/Check.lean ====
section
/-! DEFINITION. CHECK: the loader's checks of a custom-block image (R313, R315, R318-R320) and the consistency rules of R464 over a
bank together with the state of the module. -/

namespace Sys2Proof.Machine

/-! ### Blocks of an image -/

/-- Format C with code END, or REP (R311). -/
def isEnd (w : Nat) : Bool := decide (fieldOf w 62 2 = 2 ∧ fieldOf w 56 6 = 1)
def isRep (w : Nat) : Bool := decide (fieldOf w 62 2 = 2 ∧ fieldOf w 56 6 = 0)

/-- Addresses of a block in the order of their clocks, to END (R313), with fuel for every block that a budget allows. -/
def cbTrace (code : Nat → Nat) : Nat → Nat → List (Nat × Nat × Nat) → List Nat
  | 0, _, _ => []
  | n + 1, pc, reps =>
    let w := code pc
    if isEnd w then [pc]
    else if isRep w then pc :: cbTrace code n (pc + 1) ((pc + 1, fieldOf w 0 14, fieldOf w 40 16) :: reps)
    else
      let (p, r) := vmNext pc reps
      pc :: cbTrace code n p r

/-- Landing clocks of every result of a trace: register, issue, landing, address. -/
def landings (code : Nat → Nat) : Nat → PtrWalk → List Nat → List (Nat × Nat × Nat × Nat)
  | _, _, [] => []
  | n, k, a :: r => (wordWrites k (code a)).map (fun x => (x.1, n, n + x.2, a)) ++ landings code (n + 1) (k.after (code a)) r

/-- First instruction of a trace of which two results land in one register in the same clock (R315). -/
def clashAt (code : Nat → Nat) : PtrWalk → List Nat → Option Nat
  | _, [] => none
  | k, a :: r => if wordClash k (code a) then some a else clashAt code (k.after (code a)) r

/-- Stores of a trace that go, or may go, to the axis area (R319). -/
def traceStores (code : Nat → Nat) : PtrWalk → List Nat → Nat
  | _, [] => 0
  | k, a :: r => wordStores k (code a) + traceStores code (k.after (code a)) r

/-- First instruction whose result lands in a register in the clock of another one, or before a longer result that was issued
earlier (R315). -/
def hazardAt (l : List (Nat × Nat × Nat × Nat)) : Option Nat :=
  (l.find? (fun y => l.any (fun x => decide (x.1 = y.1 ∧ x.2.1 < y.2.1 ∧ y.2.2.1 ≤ x.2.2.1)))).map (fun y => y.2.2.2)

/-- First DIV within 36 clocks of another (R315); `last` is the clock of the DIV before. -/
def divClose (code : Nat → Nat) : Nat → Option Nat → List Nat → Option Nat
  | _, _, [] => none
  | n, last, a :: r =>
    let w := code a
    if fieldOf w 62 2 = 0 ∧ fieldOf w 56 6 = 0x17 then
      match last with
      | some m => if n < m + 36 then some a else divClose code (n + 1) (some n) r
      | none => divClose code (n + 1) (some n) r
    else divClose code (n + 1) last r

/-- First instruction at which the repeat structure breaks R313: a body ends on a REP, before its own start or outside its
outer body, nests deeper than three, or runs past END. -/
def repBad (code : Nat → Nat) : Nat → Nat → List Nat → Option Nat
  | 0, pc, _ => some pc
  | n + 1, pc, ends =>
    let w := code pc
    let open_ := ends.filter (fun e => decide (pc ≤ e))
    if isEnd w then (if open_.isEmpty then none else some pc)
    else if isRep w then
      let e := fieldOf w 0 14
      if open_.length < 3 ∧ pc < e ∧ open_.all (fun x => decide (e ≤ x)) ∧ ¬ open_.contains pc then repBad code n (pc + 1) (e :: open_)
      else some pc
    else repBad code n (pc + 1) open_

/-- First of so many words from an address that has a reserved format or code, or two updates of one pointer (R315). -/
def wordBad (code : Nat → Nat) : Nat → Nat → Option Nat
  | 0, _ => none
  | n + 1, pc => if ¬ wordOk (code pc) then some pc else wordBad code n (pc + 1)

/-- A weight of every instruction, summed over the clocks of a block: repeats count in full (R313, R318). -/
def cbWeigh (f : Nat → Nat) (code : Nat → Nat) : Nat → Nat → List (Nat × Nat) → Nat
  | 0, _, _ => 0
  | n + 1, pc, reps =>
    let w := code pc
    let open_ := reps.filter (fun r => decide (pc ≤ r.1))
    let k := open_.foldl (fun a r => a * r.2) 1
    if isEnd w then k * f w
    else if isRep w then k * f w + cbWeigh f code n (pc + 1) ((fieldOf w 0 14, fieldOf w 40 16) :: open_)
    else k * f w + cbWeigh f code n (pc + 1) open_

/-- Cost of a block in slots (R318). -/
def cbCost (img : List Byte) (b : CbBlock) : Nat := 2 * cbWeigh (fun _ => 1) (cbCode img) 7936 b.entry [] + 8

/-- Stores of a block per call, as the loader counts them (R319). -/
def cbStores (img : List Byte) (b : CbBlock) : Nat := traceStores (cbCode img) {} (cbTrace (cbCode img) 600 b.entry [])

/-- Words that a block answers for: from its entry to the next entry of the image, or to the end of the code. -/
def cbCodeStop (img : List Byte) (b : CbBlock) : Nat :=
  ((List.range (cbHeader img).1).map (fun i => (cbBlock img i).entry)).foldl (fun m e => if b.entry < e then min m e else m) 0x3F00

/-- First instruction of a block that the loader refuses (R315). Log 119 (DESIGN CHOICE). -/
def cbCodeBad (img : List Byte) (b : CbBlock) : Option Nat :=
  let code := cbCode img
  let tr := cbTrace code 600 b.entry []
  let stop := min (cbCodeStop img b) (0x2000 + (cbHeader img).2.1)
  (wordBad code (stop - b.entry) b.entry).orElse (fun _ => (repBad code 7936 b.entry []).orElse (fun _ =>
    (hazardAt (landings code 0 {} tr)).orElse (fun _ => (clashAt code {} tr).orElse (fun _ => divClose code 0 none tr))))

/-- Blocks of an image, in order. -/
def cbBlocks (img : List Byte) : List CbBlock := (List.range (cbHeader img).1).map (fun i => cbBlock img i)

/-- The signature of an image under the OEM key, over all preceding bytes (R319). -/
def imageSigOk (s : State) (img : List Byte) : Bool :=
  let n := img.length - 64
  ecdsaOk (keyPoint s.life.oemKey) (img.take n) (img.drop n)

/-! ### The rules -/

/-- A rule that fails: its number, the parameter ID and the arguments of R464. -/
structure CheckFail where
  rule : Nat
  id : Nat
  arg0 : Int := 0
  arg1 : Int := 0
  arg2 : Int := 0
  deriving DecidableEq, Repr

/-- First element of a parameter of a bank. -/
def bank1 (b : Bank) (key inst : Nat) : Int := (bankGet b key inst).headD 0

/-- A rule over the axes in ascending order: the argument list of the first one that fails. -/
def axisRule (rule key : Nat) (f : Nat → Option (List Int)) : Option CheckFail :=
  (List.range 32).findSome? (fun a => (f a).map (fun l => ⟨rule, key * 256 + a, l.getD 0 0, l.getD 1 0, l.getD 2 0⟩))

/-- A rule that fails when the condition holds. -/
def failIf (c : Bool) (l : List Int) : Option (List Int) := if c then some l else none

/-- Blocks that an axis selects, with their hooks (R320). -/
def selected (b : Bank) (a : Nat) : List (Nat × Nat) :=
  ((List.range 4).map (fun h => (h, ((bankGet b pCycCbSel a).getD h 255).toNat))).filter (fun p => decide (p.2 ≠ 255))

/-- Rules 1-6: the control cycle (R29, R31, R33, R46). -/
def checkCycle (s : State) (b : Bank) : Option CheckFail :=
  let per := bank1 b pCycPeriodNs 0
  let fab := bank1 b pFabCycleNs 0
  let pos := bank1 b pCycPosDiv 0
  let m := fab / per
  let idPer := pCycPeriodNs * 256
  let idPos := pCycPosDiv * 256
  if ¬ (per % 8 = 0 ∨ (fab % 8 = 0 ∧ fab % per = 0)) then some ⟨1, idPer, 0, 0, 0⟩
  else if fab % per ≠ 0 then some ⟨2, pFabCycleNs * 256, fab % per, 0, 0⟩
  else if per ≤ bank1 b pCycPhaseNs 0 then some ⟨3, pCycPhaseNs * 256, 0, 0, 0⟩
  else if pos < bank1 b pCycVelDiv 0 then some ⟨4, idPos, 0, 0, 0⟩
  else if m % pos ≠ 0 then some ⟨5, idPos, m, 0, 0⟩
  else if per < s.age.minPeriod then some ⟨6, idPer, s.age.minPeriod, 0, 0⟩
  else none

/-- Rules 7-9: the assignment of axes to tiles (R324). -/
def checkAssign (s : State) (b : Bank) : Option CheckFail :=
  let rows := assignRows b
  let places := fun (a : Nat) => ((List.range 5).map (fun i => ((rows.getD i []).filter (fun x => decide (x = a))).map (fun _ => (i : Int)))).flatten
  let id := pCycTileAssign * 256
  let map := formMap s b
  match (List.range 32).find? (fun a => decide (1 < (places a).length)) with
  | some a => some ⟨7, id, a, (places a).getD 0 0, (places a).getD 1 0⟩
  | none =>
    match (List.range 5).find? (fun i =>
        decide (8 < ((map.getD i []).filter (fun x => decide (x ≠ 255))).length) ||
        ((s.tiles.tiles.get (tileIdx i)).masked && (map.getD i []).any (fun x => decide (x ≠ 255)))) with
    | some i => some ⟨8, id, i, 0, 0⟩
    | none =>
      if (rows.getD 4 []).any (fun x => decide (x ≠ 255)) ∧ bank1 b pCycSpareMode 0 ≠ 0 then some ⟨9, id, 0, 0, 0⟩
      else none

/-- Rules 10-12: the custom-block image and its selection (R315, R318, R320). An image without bytes holds no block. -/
def checkBlocks (s : State) (b : Bank) : Option CheckFail :=
  let img := (bankGet b pCycCbImage 0).map (fun x => BitVec.ofInt 8 x)
  let id := pCycCbImage * 256
  let blocks := if img.isEmpty then [] else cbBlocks img
  let len := (cbHeader img).2.1
  let idx := List.range blocks.length
  let blk := fun (i : Nat) => blocks.getD i ⟨0, 0, 0, 0, 0, 0, 0⟩
  let codeBad : Option CheckFail :=
    if img.isEmpty then none
    else if ¬ cbShapeOk img ∨ ¬ imageSigOk s img then some ⟨10, id, 0, 0, 0⟩
    else idx.findSome? (fun i =>
      let x := blk i
      if x.entry < 0x2000 ∨ 0x2000 + len ≤ x.entry ∨ 3 < x.hook ∨
          ¬ (x.stWords = 0 ∨ (0x1800 ≤ x.stOfs ∧ x.stOfs + x.stWords ≤ 0x2000)) then some ⟨10, id, i, x.entry, 0⟩
      else (cbCodeBad img x).map (fun a => ⟨10, id, i, a, 0⟩))
  let costBad := idx.findSome? (fun i =>
    let x := blk i
    let c := cbCost img x
    let w := cbStores img x
    if x.slots < c then some (⟨11, id, i, c, x.slots⟩ : CheckFail)
    else if hookBudget x.hook < x.slots then some ⟨11, id, i, c, x.slots⟩
    else if x.writes < w then some ⟨11, id, i, w, x.writes⟩
    else none)
  let overlap := fun (p q : Nat) =>
    let x := blk p
    let y := blk q
    decide (0 < x.stWords ∧ 0 < y.stWords ∧ x.stOfs < y.stOfs + y.stWords ∧ y.stOfs < x.stOfs + x.stWords)
  let selBad := axisRule 12 pCycCbSel (fun a =>
    let l := selected b a
    (l.find? (fun p => decide (blocks.length ≤ p.2) || decide ((blk p.2).hook ≠ p.1) ||
      l.any (fun q => decide (q.1 < p.1) && overlap p.2 q.2))).map (fun p => [(p.1 : Int), (p.2 : Int)]))
  codeBad.orElse (fun _ => costBad.orElse (fun _ => selBad))

/-- Rules 13-16: carriers (R109, R113-R116). -/
def checkCarrier (b : Bank) : Option CheckFail :=
  let g := bank1 b
  let cyc := 4 * g pCycPeriodNs 0
  let r13 := axisRule 13 pAxPwmCarrier (fun a => failIf (decide (g pAxPwmCarrier a = 3) != decide (g pAxMotKind a = 2)) [])
  let r14 := axisRule 14 pAxPwmPeriodNs (fun a =>
    let d := g pAxPwmDeadNs a
    let m := g pAxPwmMinPulseNs a
    let p := g pAxPwmPeriodNs a
    if g pAxPwmCarrier a ≠ 0 then none
    else if p < 2 * (d + m) then some [2 * (d + m)]
    else if g pAxPwmSpanMode a = 1 ∧ p < 2 * (2 * d + m) then some [2 * (2 * d + m)]
    else none)
  let r15 := axisRule 15 pAxPwmPeriodNs (fun a =>
    let p := g pAxPwmPeriodNs a
    failIf (decide (g pAxPwmCarrier a = 0) && !decide (cyc % p = 0 ∧ 1 ≤ cyc / p ∧ cyc / p ≤ 16)) [])
  let r16 := axisRule 16 pAxPwmPeriodNs (fun a =>
    let k := g pAxPwmCarrier a
    let held := if k = 1 then g pAxPwmOnNs a else g pAxPwmOffNs a
    let lo := held + 2 * g pAxPwmDeadNs a + g pAxPwmMinPulseNs a
    let p := g pAxPwmPeriodNs a
    failIf (decide (k = 1 ∨ k = 2) && decide (cyc < p ∨ p < lo)) [lo])
  r13.orElse (fun _ => r14.orElse (fun _ => r15.orElse (fun _ => r16)))

/-- Rules 17-20: feedback and stepper parameters (R142, R146, R193, R205). Rule 18 looks at the mode in force and at a switch
that is pending. -/
def checkFeedback (s : State) (b : Bank) : Option CheckFail :=
  let g := bank1 b
  let r17 := axisRule 17 pAxFbCommMethod (fun a =>
    let m := g pAxFbCommMethod a
    let k := g pAxMotKind a
    failIf (decide ((m = 0 ∧ (k = 0 ∨ k = 1)) ∨ (m = 3 ∧ k ≠ 2))) [])
  let r18 := axisRule 18 pAxFbKind (fun a =>
    match axisOf? a with
    | none => none
    | some i =>
      let x := s.ax i
      let modes := x.mode :: (match x.pendSw with | some p => [p.target] | none => [])
      if g pAxMotKind a = 2 ∧ g pAxFbKind a = 0 then (modes.find? (fun m => decide (m ≤ 4))).map (fun m => [(m : Int)])
      else none)
  let r19 := axisRule 19 pAxStpStallSteps (fun a => failIf (decide (g pAxFbKind a = 0 ∧ g pAxStpStallSteps a ≠ 0)) [])
  let r20 := axisRule 20 pAxFbScAmplMin (fun a => failIf (decide (g pAxFbScAmplMax a < g pAxFbScAmplMin a)) [])
  r17.orElse (fun _ => r18.orElse (fun _ => r19.orElse (fun _ => r20)))

/-- A biquad that is stable and has unity gain at zero frequency; coefficients b0, b1, b2, a1, a2 in Q2.30 (R165). -/
def biquadOk (c : List Int) : Bool :=
  let k := fun (i : Nat) => c.getD i 0
  let one : Int := 2 ^ 30
  let den := one + k 3 + k 4
  decide (absI (k 4) < one ∧ absI (k 3) < one + k 4 ∧ absI (k 0 + k 1 + k 2 - den) * 2 ^ 16 ≤ absI den)

/-- Rules 21-26: velocity filters, observer, profile and homing limits (R165, R169, R219, R243, R268). -/
def checkMotion (b : Bank) : Option CheckFail :=
  let g := bank1 b
  let bad := fun (a : Nat) => (List.range 4).find? (fun j =>
    bitOf (g pAxVelBqEn a).toNat j && !biquadOk (bankGet b (pAxVelBq + j) a))
  let r21 := (List.range 32).findSome? (fun a => (bad a).map (fun j => (⟨21, (pAxVelBq + j) * 256 + a, j, 0, 0⟩ : CheckFail)))
  let r22 := axisRule 22 pCycCbSel (fun a => failIf (decide ((bankGet b pCycCbSel a).getD 2 255 ≠ 255 ∧ g pAxVelBqEn a ≠ 0)) [])
  let beta := fun (a : Nat) => 2 * piRat * (g pAxVelObsBw a : Rat) * (g pCycPeriodNs 0 : Rat) / 1000000000
  let r23 := axisRule 23 pAxVelObsBw (fun a => failIf (decide (1 / 2 < beta a)) [ratHalfUp (beta a * 65536)])
  let r24 := axisRule 24 pAxProfQuickDecel (fun a => failIf (decide (g pAxProfQuickDecel a < g pAxProfStopDecel a)) [])
  let r25 := axisRule 25 pAxProfSoftMin (fun a =>
    let lo := g pAxProfSoftMin a
    let hi := g pAxProfSoftMax a
    failIf (decide (hi ≤ lo ∧ ¬ (lo = -(2 ^ 63) ∧ hi = 2 ^ 63 - 1))) [])
  let r26 := axisRule 26 pAxHomeVSearch (fun a =>
    failIf (decide (g pAxHomeVSearch a < g pAxHomeVCreep a ∨ g pAxProfVMax a < g pAxHomeVSearch a)) [])
  r21.orElse (fun _ => r22.orElse (fun _ => r23.orElse (fun _ => r24.orElse (fun _ => r25.orElse (fun _ => r26)))))

/-- Pair of a safety function to which an input belongs, the reset input's own included (R249, R492). -/
def State.assignedPair (s : State) (i : Nat) : Option Nat :=
  if 8 ≤ i then none else if s.pairFn (i / 2) ≠ 0 ∨ s.resetIn = i then some (i / 2) else none

/-- The input is a DI in pulsed-sampling mode (R515). -/
def bankPulsed (b : Bank) (src : Nat) : Bool := decide (src < 16 ∧ bank1 b pFldDiMode src = 1)

/-- Rules 27 and 28: switch and latch sources (R249, R260). -/
def checkSources (s : State) (b : Bank) : Option CheckFail :=
  let g := fun (k a : Nat) => (bank1 b k a).toNat
  let latch := fun (a k : Nat) => fieldOf (g (pAxFbLatch0Cfg + k) a) 0 8
  let bad := fun (a src : Nat) (home : Bool) =>
    decide (src ≠ 255) && ((s.assignedPair src).isSome || bankPulsed b src ||
      (decide (src < 8) && (home || decide (g pAxHomeMethod a = 0))) ||
      (decide (src = 0x10 ∨ src = 0x11) && (decide (latch a 0 = src) || decide (latch a 1 = src))) ||
      decide (src = 0x12))
  let r27 := axisRule 27 pAxLimPosSrc (fun a =>
    ([(g pAxLimPosSrc a, false), (g pAxLimNegSrc a, false), (g pAxHomeSwitchSrc a, true)].find? (fun p => bad a p.1 p.2)).map
      (fun p => [(p.1 : Int)]))
  let r28 := axisRule 28 pAxFbLatch0Cfg (fun a =>
    ([0, 1].find? (fun k => decide (8 ≤ latch a k) && bankPulsed b (latch a k))).map (fun k => [(k : Int)]))
  r27.orElse (fun _ => r28)

/-- Members of all groups with the group that lists them, in order (R226). -/
def bankMembers (b : Bank) : List (Nat × Int) :=
  ((List.range 8).map (fun g => ((bankGet b pGrpMember g).filter (fun x => decide (x ≠ 255))).map (fun x => (g, x)))).flatten

/-- First member that an earlier place lists too. -/
def dupMember (seen : List Int) : List (Nat × Int) → Option (Nat × Int)
  | [] => none
  | (g, x) :: r => if seen.contains x then some (g, x) else dupMember (x :: seen) r

/-- Rules 29-32: groups, inputs and CAN channels (R219, R226, R535), against the safety configuration in force. -/
def checkShared (s : State) (b : Bank) : Option CheckFail :=
  let g := bank1 b
  let r29 := (dupMember [] (bankMembers b)).map (fun p => (⟨29, pGrpMember * 256 + p.1, p.2, 0, 0⟩ : CheckFail))
  let r30 := (List.range 8).findSome? (fun k =>
    if g pGrpQuickDecel k < g pGrpStopDecel k then some (⟨30, pGrpQuickDecel * 256 + k, 0, 0, 0⟩ : CheckFail) else none)
  let r31 := (List.range 16).findSome? (fun i =>
    match s.assignedPair i with
    | some p => if g pFldDiMode i = 1 then some (⟨31, pFldDiMode * 256 + i, p, 0, 0⟩ : CheckFail) else none
    | none => none)
  let publish := bitOf (s.cfgU 1 1) 0
  let r32 := (List.range 2).findSome? (fun c =>
    let m := g pCanMode c
    let rate := g pCanRateData c
    if (c = 1 ∧ s.safe.config.isSome ∧ ((publish ∧ m ≠ 2) ∨ (0 < s.safeSubs ∧ m ≠ 2 ∧ m ≠ 3))) ∨
        ((m = 2 ∨ m = 3) ∧ rate ≠ 0 ∧ rate < g pCanRateNominal c) then
      some (⟨32, pCanMode * 256 + c, 0, 0, 0⟩ : CheckFail)
    else none)
  r29.orElse (fun _ => r30.orElse (fun _ => r31.orElse (fun _ => r32)))

/-- Slots that the standard program and the selected blocks cost an axis (R43, R44). -/
def axisSlots (b : Bank) (blocks : List CbBlock) (a : Nat) : Nat :=
  let en := (bank1 b pAxVelBqEn a).toNat
  258 + natSum ((List.range 4).map (fun j => 12 * b2n (bitOf en j))) + (if bank1 b pAxCurAdapt a ≠ 0 then 114 else 0)
    + natSum ((selected b a).map (fun p => match blocks[p.2]? with | some x => x.slots | none => 0))

/-- Rules 33 and 34: journal and MAC slots of each tile (R43-R46, R323). -/
def checkBudget (s : State) (b : Bank) : Option CheckFail :=
  let img := (bankGet b pCycCbImage 0).map (fun x => BitVec.ofInt 8 x)
  let blocks := if img.isEmpty then [] else cbBlocks img
  let map := formMap s b
  let axes := fun (i : Nat) => (map.getD i []).filter (fun x => decide (x ≠ 255))
  let id := pCycTileAssign * 256
  let writes := fun (a : Nat) => natSum ((selected b a).map (fun p => match blocks[p.2]? with | some x => x.writes | none => 0))
  let per := bank1 b pCycPeriodNs 0
  let avail : Nat := 2 * (if per < 16000 then 3000 else if per < 31250 then 3280 else 3560)
  let r33 := (List.range 5).findSome? (fun i =>
    let need := natSum ((axes i).map (fun a => 720 + writes a))
    if 8192 < need then some (⟨33, id, i, need, 8192⟩ : CheckFail) else none)
  let r34 := (List.range 5).findSome? (fun i =>
    let need := 240 + natSum ((axes i).map (axisSlots b blocks))
    if avail < need then some (⟨34, id, i, need, avail⟩ : CheckFail) else none)
  r33.orElse (fun _ => r34)

/-- CHECK of a bank: the first rule that fails (R440, R464). Log 118 (DEDUCED). -/
def checkBank (s : State) (b : Bank) : Option CheckFail :=
  (checkCycle s b).orElse (fun _ => (checkAssign s b).orElse (fun _ => (checkBlocks s b).orElse (fun _ =>
  (checkCarrier b).orElse (fun _ => (checkFeedback s b).orElse (fun _ => (checkMotion b).orElse (fun _ =>
  (checkSources s b).orElse (fun _ => (checkShared s b).orElse (fun _ => checkBudget s b))))))))

/-- Response of a failed CHECK (R438). -/
def failRsp (f : CheckFail) : Rsp :=
  { status := stCheckFailed, detail := f.rule,
    body := toLE 4 f.id ++ toLE 4 f.arg0 ++ toLE 4 f.arg1 ++ toLE 4 f.arg2 }

end Sys2Proof.Machine
end

