-- ==== Sys2Proof/Machine/Berths.lean ====
section
/-! DEFINITION. Timetables, their berths and slots as bytes, and the records of measured tides and published axes
(12_causeway.md, R353; 10_tides.md, R282-R284). -/

namespace Sys2Proof.Machine

/-- Berth `i` of a timetable (R353). -/
def berthOf (body : List Byte) (i : Nat) : Berth :=
  let o := 32 + 16 * i
  { ofs := getU body o 4, len := getU body (o + 4) 2, owner := getU body (o + 6) 1, kind := getU body (o + 7) 1
    axes := getU body (o + 8) 4, tides := getU body (o + 12) 1 % 16, first := getU body (o + 13) 1, count := getU body (o + 14) 1 }

/-- Number of berths, and of slots. -/
def berthCount (body : List Byte) : Nat := getU body 2 2
def slotCount (body : List Byte) : Nat := getU body 4 2

def berthsOf (body : List Byte) : List Berth := (List.range (berthCount body)).map (berthOf body)

/-- Slot `i` of a timetable. -/
def slotOf (body : List Byte) (i : Nat) : TtSlot :=
  let o := 32 + 16 * berthCount body + 8 * i
  { pos := getU body o 2, node := getU body (o + 2) 1, source := getU body (o + 3) 1 }

/-- Slots of a berth. -/
def slotsOf (body : List Byte) (b : Berth) : List TtSlot := (List.range b.count).map (fun i => slotOf body (b.first + i))

/-- Bytes that a timetable takes. -/
def ttSize (body : List Byte) : Nat := 32 + 16 * berthCount body + 8 * slotCount body

/-- The timetable of a number. -/
def State.table (s : State) (tt : Nat) : Option (List Byte) := (s.fab.tables.find? (fun e => decide (e.1 = tt))).map (fun e => e.2.body)

/-- Berths of the timetable in force. -/
def State.berths (s : State) : List Berth :=
  match s.table s.fab.ttNow with
  | some b => if s.fab.ttNow = 0xF then [] else berthsOf b
  | none => []

/-- The timetable in force. -/
def State.ttBody (s : State) : List Byte := if s.fab.ttNow = 0xF then [] else (s.table s.fab.ttNow).getD []

/-- Sources whose records stand before the slots in a PROCESS payload: tides, then axes ascending (R353). -/
def Berth.sources (b : Berth) : List Nat :=
  ((List.range 4).filter (fun i => bitOf b.tides i)).map (fun i => 0x40 + i) ++ (List.range 32).filter (fun i => bitOf b.axes i)

/-- The timetable in force carries the records of a remote axis (R286). -/
def State.carries (s : State) (node axis : Nat) : Bool :=
  s.berths.any (fun b => decide (b.kind = 2) &&
    ((decide (b.owner = node) && bitOf b.axes axis) ||
     (slotsOf s.ttBody b).any (fun k => decide (k.node = node ∧ k.source = axis))))

/-- A record of R282. -/
def recBytes (source : Nat) (valid : Bool) (seq : Nat) (ts pos vel : Int) : List Byte :=
  toLE 1 source ++ toLE 1 (b2n valid) ++ toLE 2 seq ++ toLE 4 0 ++ toLE 8 ts ++ toLE 8 pos ++ toLE 8 vel

/-- The values of the record that this node sends for a source: valid, TS, POS and VEL (R282, R283, R286). -/
def State.ownRecord (s : State) (source : Nat) : Bool × Int × Int × Int :=
  if 0x40 ≤ source then
    let i : TideId := ⟨source % 4, by omega⟩
    let src := s.pn pTideSource i.val
    match axisOf? (src - 0x80) with
    | some a =>
      let x := s.ax a
      let u := s.p1 pTideUnitsPerCycle i.val
      if 0x80 ≤ src ∧ s.pn pTideOriginNode i.val = s.fab.addr then
        (decide (x.link.st = .run), x.snap.t, satS 64 (divHalfUp (x.snap.p * 2 ^ 32) u), satS 64 (divHalfUp (x.snap.v * 2 ^ 32) u))
      else (false, 0, 0, 0)
    | none => (false, 0, 0, 0)
  else match axisOf? source with
    | some a =>
      let x := s.ax a
      let k := s.pn pAxGearPublish a.val
      if k = 1 then (decide (x.link.st = .run), x.snap.t, x.snap.pSet, x.snap.vSet)
      else if k = 2 then (decide (x.link.st = .run), x.snap.t, x.snap.p, x.snap.v)
      else (false, 0, 0, 0)
    | none => (false, 0, 0, 0)

/-- The next record of a source, with its SEQ; a source that this node does not publish fills nothing. -/
def State.sendRecord (s : State) (source : Nat) : List Byte × State :=
  let (ok, ts, pos, vel) := s.ownRecord source
  if 0x40 ≤ source then
    let i : TideId := ⟨source % 4, by omega⟩
    let seq := ((s.tides.get i).sent + 1) % 2 ^ 16
    (recBytes source ok seq ts pos vel, s.modTide i (fun x => { x with sent := seq }))
  else
    let seq := (alGet 0 source s.fab.pubSent + 1) % 2 ^ 16
    (recBytes source ok seq ts pos vel, { s with fab := { s.fab with pubSent := alPut source seq s.fab.pubSent } })

/-- A SEQ is newer than the last one received, in serial arithmetic (R284). -/
def seqNewer (last : Option Nat) (seq : Nat) : Bool :=
  match last with
  | some q => decide (seq ≠ q) && serialLater 16 q seq
  | none => true

/-- A record that a node of the fabric sent, as it is taken in cycle n: with SRC_VALID = 1 it governs from S(n + 1), if its SEQ is newer
(R284). -/
def takeRecord (node : Nat) (r : List Byte) (s : State) : State :=
  let source := getU r 0 1
  let ok := bitOf (getU r 1 1) 0
  let seq := getU r 2 2
  let ts := getS r 8 8
  let pos := getS r 16 8
  let vel := getS r 24 8
  if 0x40 ≤ source ∧ source ≤ 0x43 then
    let i : TideId := ⟨source % 4, by omega⟩
    let newer := seqNewer (s.tides.get i).seqRx seq
    if 0x80 ≤ s.pn pTideSource i.val ∧ s.pn pTideOriginNode i.val = node ∧ newer then
      s.modTide i (fun x => { x with seqRx := some seq, next := if ok then some (seq, ts, pos, vel) else x.next })
    else s
  else if source < 32 then
    let id := 32 * node + source
    let rest := s.fab.pubNext.filter (fun p => !decide (p.node = node ∧ p.axis = source))
    if seqNewer ((s.fab.pubSeq.find? (fun e => decide (e.1 = id))).map (fun e => e.2)) seq then
      { s with fab := { s.fab with
        pubSeq := s.fab.pubSeq.filter (fun e => decide (e.1 ≠ id)) ++ [(id, seq)]
        pubNext := if ok then rest ++ [⟨node, source, seq, ts, pos, vel, 0, s.startOf (s.fabN + 1)⟩] else s.fab.pubNext } }
    else s
  else s

/-- A MASTER_STALE ends once the master's records govern again (R286). -/
def masterFresh (s : State) : State :=
  forAxes allAxes (fun a s =>
    let g := (s.ax a).gear
    if g.masterStale ∧ ¬ (g.master :: g.masters).any s.remoteStale then
      (s.modAxis a (fun x => { x with gear := { x.gear with masterStale := false } })).clearCond fMasterStale a.val
    else s) s

/-- At S(n + 1) the records of cycle n govern; without one, the count of cycles without a record rises (R284, R285). -/
def recordsGovern (s : State) : State :=
  let s1 := (List.finRange 4).foldl (fun s i =>
    if 0x80 ≤ s.pn pTideSource i.val then
      let x := s.tides.get i
      match x.next with
      | some r =>
        let s1 := s.modTide i (fun x => { x with rec_ := some r, recOld := x.rec_, recFrom := s.startOf s.fabN, next := none, noRec := 0, st := 1 })
        if x.st = 3 then s1.clearCond fTideStale (0x40 + i.val) else s1
      | none => s.modTide i (fun x => { x with noRec := x.noRec + 1 })
    else s) s
  let again := fun (p : PubRec) => s1.fab.pubNext.any (fun q => decide (q.node = p.node ∧ q.axis = p.axis))
  let kept := (s1.fab.published.filter (fun p => !again p)).map (fun p => { p with age := p.age + 1 })
  masterFresh { s1 with fab := { s1.fab with
    pubOld := s1.fab.pubOld.filter (fun p => !again p) ++ s1.fab.published.filter again
    published := kept ++ s1.fab.pubNext, pubNext := [] } }

end Sys2Proof.Machine
end

