-- ==== Sys2Proof/Machine/Gearing.lean ====
section
/-! DEFINITION. Commands and events of tides, gears and cams (10_tides.md, R269-R296). -/

namespace Sys2Proof.Machine

/-! ### Definitions (R271-R281) -/

/-- First field of a definition that breaks R271: its payload offset. Log 205 (DEDUCED). -/
def tideBad (body : List Byte) : Option Nat :=
  let n := getU body 2 1
  if n = 0 ∨ 16 < n then some 2
  else (List.range 16).findSome? (fun k =>
    let (kind, d, v) := tideSeg body k
    let o := 32 + 32 * k
    if k < n then
      if 2 < kind then some o
      else if 2 ^ 47 < d ∨ (d = 0 ∧ ¬ (kind = 0 ∧ k + 1 = n)) then some (o + 8)
      else if kind ≠ 0 ∧ (2 : Int) ^ 95 ≤ absI v then some (o + 16)
      else none
    else if (bytesAt body o 32).all (fun b => b == 0) then none else some o)

/-- This node owns the computed tide (R270, R275). -/
def State.tideOrigin (s : State) (i : TideId) : Bool :=
  decide (s.pn pTideSource i.val = 1 ∧ s.pn pTideOriginNode i.val = s.fab.addr)

/-- TIDE_DEFINE (R271, R275, R285). -/
def execTideDefine (t : Nat) (h : Hdr) (body : List Byte) (s : State) : Host.Outcome State Fault Refusal :=
  done (runOp 0x0301 544 true true h body (s.begin t)
    (fun s =>
      let i : TideId := ⟨getU body 0 1 % 4, by omega⟩
      [(decide (h.length ≠ 544 ∨ body.length ≠ 544), stBadLength, 0), (decide (3 < getU body 0 1), stBadId, 0), (s.scrap, stLifecycle, 0),
       ((tideBad body).isSome, stRange, (tideBad body).getD 0), (!s.tideOrigin i, stState, 0)])
    (fun _ s =>
      let i : TideId := ⟨getU body 0 1 % 4, by omega⟩
      let c := crc32 body
      (okRsp (toLE 4 c), s.modTide i (fun x => { x with staged := some (body, c) }))))

/-- The conditions of R278 that the node itself can fail. -/
def State.tideAgrees (s : State) (i : TideId) (body : List Byte) : Bool :=
  decide (s.pn pTideSource i.val = 1) && (!tideAbs body || (s.tideAxes i.val).isEmpty) &&
    decide ((s.tides.get i).st ≤ 1)

/-- A node acknowledges a pending change whose cycle lies so far ahead: 17 cycles as the definition arrives, which is before the start of
N - 16, and 16 at a boundary (R277, R278). -/
def tideAck (ahead : Nat) (i : TideId) (s : State) : State :=
  match (s.tides.get i).pend with
  | some c =>
    if ¬ c.ownAck ∧ s.fabN + ahead ≤ c.n ∧ s.tideAgrees i c.body then
      s.modTide i (fun x => { x with pend := some { c with ownAck := true, acked := if c.origin then c.acked ++ [s.fab.addr] else c.acked } })
    else s
  | none => s

/-- Sync berths of the latest complete fabric cycle. -/
def State.lastSync (s : State) : List SyncRx := s.fab.rxPrev

/-- A definition fetched for an adoption travels as a ferry message: the definition, its n, generation, start, T_0 and CRC; the one of a
schedule is the definition and N; a fetch is the tide's number (log 40). -/
def tideMsg (d : TideDef) : List Byte :=
  toLE 1 2 ++ d.body ++ toLE 4 d.n ++ toLE 4 d.gen ++ toLE 16 d.p0 ++ toLE 16 d.v0 ++ toLE 8 d.t0 ++ toLE 4 d.crc

/-- What an origin without a definition answers: no segment, generation 0 and CRC 0 (R273, R280). -/
def noDef : TideDef := { n := 0, gen := 0, crc := 0, body := List.replicate 544 0, p0 := 0, v0 := 0, t0 := 0 }

/-- Next number of a ferry message. -/
def State.nextMsg (s : State) : Nat × State :=
  (s.fab.msgNo % 0xFFF0, { s with fab := { s.fab with msgNo := s.fab.msgNo + 1 } })

/-- Other nodes whose sync berths of the latest fabric cycle report the tide as computed with this origin (R276). -/
def State.tideMembers (s : State) (i : TideId) : List Nat :=
  (s.lastSync.filter (fun r =>
    let c := getU r.payload (24 + 16 * i.val) 2
    decide (c % 256 = s.fab.addr ∧ fieldOf c 8 2 = 1 ∧ r.addr ≠ s.fab.addr))).map (fun r => r.addr)

/-- The change that the origin schedules: the staged definition, its boundaries formed, and the members (R273, R276). -/
def schedule (s : State) (i : TideId) (n : Nat) : TideChange :=
  let x := s.tides.get i
  let (body, crc) := x.staged.getD ([], 0)
  let at_ := (extendN s.fabN n).toNat
  { n := at_, crc := crc, body := body, members := sortBy id (s.tideMembers i ++ [s.fab.addr]), acked := [], req := none, origin := true
    decision := 0, ownAck := false, new := formDef s x at_ crc body }

/-- TIDE_SCHEDULE (R276, R281, R285, R394, R442). Log 206 (DEDUCED). -/
def execTideSchedule (t : Nat) (h : Hdr) (tide n : Nat) (s : State) : Host.Outcome State Fault Refusal :=
  let i : TideId := ⟨tide % 4, by omega⟩
  done (runOp 0x0302 8 false false h (toLE 1 tide ++ toLE 3 0 ++ toLE 4 n) (s.begin t)
    (fun s =>
      let ahead := extendN s.fabN n - s.fabN
      [(decide (3 < tide), stBadId, 0), (s.scrap, stLifecycle, 0), (decide (ahead < 17 ∨ 2 ^ 31 < ahead), stRange, 4),
       (!s.tideOrigin i || (s.tides.get i).staged.isNone, stState, 0),
       ((s.tides.get i).pend.isSome || s.pendBlocks (s.modTide i (fun x => { x with pend := some (schedule s i n) })), stBusy, 0)])
    (fun q s =>
      let c := { schedule s i n with req := some q }
      let s1 := tideAck 17 i (s.modTide i (fun x => { x with staged := none, pend := some c }))
      let s2 := (s.tideMembers i).foldl (fun s a =>
        let (m, s) := s.nextMsg
        s.ferrySend a 4 m (toLE 1 1 ++ c.body ++ toLE 4 c.n) none (0, 0)) s1
      ({ status := stPending }, s2)))

/-- TIDE_DECISION: at N - 8 the origin decides (R277). -/
def execTideDecision (t : Nat) (tide : TideId) (s : State) : Host.Outcome State Fault Refusal :=
  let s := s.begin t
  match (s.tides.get tide).pend with
  | some c =>
    if c.origin ∧ c.decision = 0 ∧ c.n ≤ s.fabN + 8 then
      let ok := c.members.all (fun a => c.acked.contains a)
      done (s.modTide tide (fun x => { x with pend := some { c with decision := if ok then 1 else 2 } }))
    else done s
  | none => done s

/-- The definition that a change puts in force: the generation increments (R277). -/
def newDef (x : Tide) (c : TideChange) : TideDef :=
  { c.new with gen := ((match x.defn with | some d => d.gen | none => 0) + 1) % 2 ^ 32 }

/-- The tide diverges (R280); `quiet` where the node only integrates. -/
def tideDiverges (i : TideId) (quiet : Bool) (s : State) : State :=
  let s1 := s.modTide i (fun x => { x with st := 2 })
  if quiet ∧ (s.tideAxes i.val).isEmpty then s1 else s1.raise fTideDiverged (0x40 + i.val)

/-- Ask the origin for its definition in force (log 40). -/
def tideFetch (i : TideId) (s : State) : State :=
  let (m, s) := s.nextMsg
  s.ferrySend (s.pn pTideOriginNode i.val) 4 m (toLE 1 0 ++ toLE 1 i.val) none (0, 0)

/-- A fabric-wide APPLY of this cycle or an earlier one has yet to act: parameters apply first (R281). -/
def State.applyFirst (s : State) (n : Nat) : Bool :=
  match s.prm.pend with
  | some p => p.fabric && decide (p.n ≤ n)
  | none => false

/-- TIDE_SWITCH: at S(N) the new definition governs, or the change is cancelled, or the tide diverges (R277, R280, R281). -/
def execTideSwitch (t : Nat) (tide : TideId) (s : State) : Host.Outcome State Fault Refusal :=
  let s := s.begin t
  let x := s.tides.get tide
  match x.pend with
  | none => done s
  | some c =>
    if s.fabN < c.n ∨ s.applyFirst c.n then done s
    else if c.decision = 1 then
      let d := newDef x c
      let s1 := s.modTide tide (fun x => { x with defn := some d, old := x.defn, pend := none, st := 1 })
      done (s1.finish? c.req (okRsp (toLE 4 d.gen)))
    else if c.decision = 2 ∨ c.origin then
      let s1 := (s.modTide tide (fun x => { x with pend := none })).finish? c.req { status := stTimeout }
      done (if c.origin then s1.raise fTideCancel (0x40 + tide.val) else s1)
    else
      let s1 := s.modTide tide (fun x => { x with pend := none })
      done (if c.ownAck then tideFetch tide (tideDiverges tide false s1) else s1)

/-- TIDE_ADOPT: a diverged node adopts the origin's definition at a fabric-cycle boundary at which no axis follows the tide (R280). -/
def execTideAdopt (t : Nat) (tide : TideId) (s : State) : Host.Outcome State Fault Refusal :=
  let s := s.begin t
  let x := s.tides.get tide
  match x.fetched with
  | some d =>
    if x.st = 2 ∧ x.adopt ∧ (s.tideAxes tide.val).isEmpty then
      let d1 := if (tideSegs d.body).isEmpty then none else some d
      done ((s.modTide tide (fun x =>
        { x with defn := d1, old := x.defn, fetched := none, adopt := false, st := 1, diverged := 0, agreed := true })).clearCond
        fTideDiverged (0x40 + tide.val))
    else done s
  | none => done s

/-- TIDE_STALE: a measured tide has had no governing record for `tide[t].stale_cycles` (R285). -/
def execTideStale (t : Nat) (tide : TideId) (s : State) : Host.Outcome State Fault Refusal :=
  let s := s.begin t
  let x := s.tides.get tide
  if 0x80 ≤ s.pn pTideSource tide.val ∧ s.pn pTideStaleCycles tide.val ≤ x.noRec ∧ x.st ≠ 3 then
    done ((s.modTide tide (fun x => { x with st := 3 })).raise fTideStale (0x40 + tide.val))
  else done s

/-- MASTER_STALE: a remote master has had no governing record for `tide[t].stale_cycles` of tide A (R286). -/
def execMasterStale (t : Nat) (ax : AxisId) (s : State) : Host.Outcome State Fault Refusal :=
  let s := s.begin t
  let g := (s.ax ax).gear
  if g.masters.any s.remoteStale ∧ ¬ g.masterStale then
    done ((s.modAxis ax (fun x => { x with gear := { x.gear with masterStale := true } })).raise fMasterStale ax.val)
  else done s

/-! ### GEAR_ENGAGE (R288-R291, R293, R295, R296) -/

/-- The function that the axis follows now is its running one: while it engages, the engage curve; without a gear, none (R296).
Log 208 (DEDUCED). -/
def Gear.running (g : Gear) : Gear :=
  if g.st = 0 then { g with run := {}, next := none }
  else match g.next with
    | some c => { g with run := if g.st = 2 then c else g.run, next := none }
    | none => g

/-- The gear with an engage to a master that waits. -/
def Gear.onto (g : Gear) (master : Nat) : Gear :=
  { g.running with st := if g.st = 3 then 3 else 1, master := master, next := some { master := master } }

/-- The state with every engage that waits for its switch taken as geared, and one more axis geared to a master. -/
def State.asGeared (s : State) (a : AxisId) (master : Nat) : State :=
  let s1 := forAxes allAxes (fun b s => match (s.ax b).gear.want with
    | some (r, _) => s.modAxis b (fun x => { x with gear := x.gear.onto r.master })
    | none => s) s
  s1.modAxis a (fun x => { x with gear := x.gear.onto master })

/-- A chain of local masters loops or exceeds four axes (R286). -/
def State.chainBad (s : State) (a : AxisId) (master : Nat) : Bool :=
  let s1 := s.asGeared a master
  allAxes.any (fun b => decide (4 < s1.chainLen 6 b))

/-- The function that the axis follows as an engage is taken: its running one in Geared mode, else the set-point at rest (R289). -/
def runningNow (s : State) (a : AxisId) : GCurve :=
  let x := s.ax a
  if x.mode = 3 ∧ x.gear.st ≠ 0 then x.gear.running.run else holdCurve x.prof.sp.p

/-- The curve that the request fixes now (R289). -/
def engageNow (s : State) (a : AxisId) (r : GearReq) : Option GCurve := fixEngage s (runningNow s a) r s.cyc.start

/-- RANGE checks of a filled request: DETAIL is the payload offset. -/
def gearRange (s : State) (a : AxisId) (r : GearReq) : List (Bool × Nat × Nat) :=
  let x := s.ax a
  let synced := decide (x.mode = 3 ∧ x.gear.st = 3)
  let (_, v, ac) := s.masterAt r.master s.cyc.start
  let fits := match engageNow s a r with | some c => engageFits s a c v ac | none => false
  [(decide (1 < r.kind), stRange, 1), (decide (r.kind = 1) && decide ((s.cam r.table).n = 0), stRange, 2), (decide (3 < r.land), stRange, 3),
   (!masterOk r.master || decide (fieldOf r.master 0 8 = 0), stRange, 4), (s.chainBad a r.master, stRange, 4),
   (decide (r.len = 0) && !(decide (r.land = 3) && synced), stRange, 16), (decide (1 < r.mAbs), stRange, 32),
   ((engageNow s a r).isNone, stRange, 24), (!fits, stRange, 16)]

/-- The axis may take a GEAR_ENGAGE (R288). Log 185 (DEDUCED). -/
def gearMay (s : State) (a : AxisId) : Bool :=
  let x := s.ax a
  let p := x.prof
  let rest := decide (p.sp.v = 0 ∧ p.sp.a = 0) && p.queue.isEmpty && p.repl.isNone && decide (p.stopReq = 0) && p.jog.isNone &&
    (decide (p.kind = .idle) || p.plan.ended) && decide (x.home.phase = 0)
  let grp := match s.groupOf a with | some g => s.grpBusy g | none => false
  (x.enabled && decide (x.mode = 2) && rest && !grp) || decide (x.mode = 3)

/-- Checks of an engage with its parameters filled in. Log 207 (DEDUCED). -/
def gearChecks (s : State) (a : AxisId) (r : GearReq) : List (Bool × Nat × Nat) :=
  let x := s.ax a
  let node := fieldOf r.master 16 8
  [(decide (fieldOf r.master 0 8 = 4) && !s.carries node (fieldOf r.master 8 8), stUnreachable, 0),
   (decide (r.kind = 1 ∧ 63 < r.table), stBadId, 2), (s.scrap, stLifecycle, 0)] ++ gearRange s a r ++
  [(!gearMay s a, stState, 0),
   (x.pendSw.isSome || s.cyc.pendEnable.any (fun p => bitOf p.mask a.val) || s.txAxis a ||
      s.pendBlocks (s.asGeared a r.master), stBusy, 0)]

/-- An accepted engage: fixed at once in Geared mode, at the switch cycle from Position mode (R288, R289). Log 209 (DEDUCED). -/
def gearTake (a : AxisId) (r : GearReq) (q : ReqRef) (s : State) : Rsp × State :=
  let x := s.ax a
  if x.mode = 3 then
    let (m, v, ac) := s.masterAt r.master s.cyc.start
    match engageNow s a r with
    | none => ({ status := stRange, detail := 24 }, s)
    | some c =>
      let st := if x.gear.st = 3 then 3 else 1
      (okRsp [], (gearFresh a s).modAxis a (fun x => { x with gear :=
        { x.gear with st := st, master := r.master, run := runningNow s a, next := some c, tag := q.tag, mNext := m, u := 0
                      m := if st = 3 then x.gear.m else m, vM := if st = 3 then x.gear.vM else v, aM := if st = 3 then x.gear.aM else ac } }))
  else
    ({ status := stPending }, s.modAxis a (fun x =>
      { x with pendSw := some { target := 3, at_ := s.cyc.posNo + 2, req := none, moved := 0, preset := true }
               gear := { x.gear with want := some (r, some q) } }))

/-- The payload of GEAR_ENGAGE (R438). -/
def gearBytes (g : GearReq) : List Byte :=
  toLE 1 g.axis ++ toLE 1 g.kind ++ toLE 1 g.table ++ toLE 1 g.land ++ toLE 4 g.master ++ toLE 4 g.num ++ toLE 4 g.den ++
    toLE 8 g.len ++ toLE 8 g.mSpec ++ toLE 1 g.mAbs ++ toLE 7 0 ++ toLE 8 g.pTarget ++ toLE 8 g.xS

/-- GEAR_ENGAGE (R288-R291, R438). -/
def execGearEngage (t : Nat) (h : Hdr) (g : GearReq) (s : State) : Host.Outcome State Fault Refusal :=
  done (runOp 0x0303 56 false false h (gearBytes g) (s.begin t)
    (fun s => match axisOf? g.axis with
      | none => [(true, stBadId, 0)]
      | some a => gearChecks s a (gearFill s a g))
    (fun q s => match axisOf? g.axis with
      | none => ({ status := stBadId }, s)
      | some a => gearTake a (gearFill s a g) q s))

/-- GEAR_ENGAGE_BEGIN: the master has reached m0 (R290). -/
def execGearEngageBegin (t : Nat) (ax : AxisId) (s : State) : Host.Outcome State Fault Refusal :=
  let s := s.begin t
  let g := (s.ax ax).gear
  match g.next with
  | some c =>
    if (g.st = 1 ∨ g.st = 3) ∧ c.len ≠ 0 ∧ c.m0 ≤ g.mNext then
      done (s.modAxis ax (fun x => { x with gear := { x.gear with st := 2 } }))
    else done s
  | none => done s

/-- GEAR_SYNCED: the master has reached M_s, and the axis follows its target function; a cam switch without a length shows a
step of the slope (R290, R295). -/
def execGearSynced (t : Nat) (ax : AxisId) (s : State) : Host.Outcome State Fault Refusal :=
  let s := s.begin t
  let g := (s.ax ax).gear
  match g.next with
  | some c =>
    if g.st ≠ 0 ∧ c.mS ≤ g.mNext then
      let cam := decide (c.kind = 1)
      let step := cam && decide (c.len = 0) && decide ((if g.run.master = c.master then (g.run.eval s c.mS).2.1 else c.k0) ≠ (c.line s c.mS).2.1)
      let s1 := s.modAxis ax (fun x => { x with gear :=
        { x.gear with st := 3, run := { c with len := 0 }, next := none, u := 0, camSlope := if cam then step else x.gear.camSlope } })
      let s2 := s1.postEvent 0x8005 g.tag ax.val (toLE 1 (if cam then c.table else 0xFF))
      done (if step then s2.raise fCamSlope ax.val else s2)
    else done s
  | none => done s

/-! ### CAM_LOAD (R292, R293) -/

/-- Axes that follow a table or wait to engage it. -/
def State.camAxes (s : State) (n : Nat) : List AxisId :=
  allAxes.filter (fun a =>
    let g := (s.ax a).gear
    (decide (g.st ≠ 0) && ((decide (g.run.kind = 1 ∧ g.run.table = n)) ||
      (match g.next with | some c => decide (c.kind = 1 ∧ c.table = n) | none => false))) ||
    (match g.want with | some (r, _) => decide (r.kind = 1 ∧ r.table = n) | none => false))

/-- Flash bytes that stored tables take, without one of them (R14, R293). -/
def State.camFlash (s : State) (n : Nat) : Nat :=
  natSum (s.cams.map (fun e => if e.1 = n then 0 else match e.2.flash with | some (k, _, _) => 8 * k | none => 0))

/-- A number of points that R292 admits. -/
def camSizeOk (n : Nat) : Bool := (List.range 15).any (fun k => decide (n = 2 ^ (k + 2)))

/-- A segment continues the load that runs, or starts one (R435). -/
def camInOrder (x : Cam) (c : CamReq) : Bool :=
  if c.segOfs = 0 then true
  else match x.load with
    | some (n, rise, ys) => decide (n = c.n ∧ rise = c.rise ∧ ys.length = c.segOfs)
    | none => false

/-- The payload of CAM_LOAD (R438). -/
def camBytes (c : CamReq) : List Byte :=
  toLE 1 c.table ++ toLE 3 0 ++ toLE 4 c.n ++ toLE 8 c.rise ++ toLE 4 c.segOfs ++ (c.ys.map (toLE 8)).flatten

/-- Points that a segment at an offset continues: none at offset 0, which starts the table afresh (R435). -/
def Cam.soFar (x : Cam) (segOfs : Nat) : List Int :=
  match (if segOfs = 0 then none else x.load) with
  | some (_, _, l) => l
  | none => []

/-- CAM_LOAD (R292, R293, R435): a segment out of order is refused and discards the load. Log 210 (DEDUCED). -/
def execCamLoad (t : Nat) (h : Hdr) (c : CamReq) (s : State) : Host.Outcome State Fault Refusal :=
  done (runOp 0x0304 20 true true h (camBytes c) (s.begin t)
    (fun s =>
      [(decide (63 < c.table), stBadId, 0), (s.scrap, stLifecycle, 0), (!camSizeOk c.n, stRange, 4),
       (h.persist && decide (24 * 2 ^ 20 < s.camFlash c.table + 8 * c.n), stRange, 4)])
    (fun _ s =>
      let x := s.cam c.table
      let ys := x.soFar c.segOfs ++ c.ys
      let short := decide (c.n < ys.length) || (!h.more && decide (ys.length ≠ c.n)) || c.ys.isEmpty
      if !camInOrder x c || short then ({ status := stRange, detail := 16 }, s.setCam c.table { x with load := none })
      else if ¬ (s.camAxes c.table).isEmpty then ({ status := stBusy }, s)
      else if h.more then
        (okRsp [], s.setCam c.table { x with n := 0, rise := 0, ys := [], stored := false, load := some (c.n, c.rise, ys) })
      else
        let flash := if h.persist then some (c.n, c.rise, ys) else x.flash
        (okRsp [], s.setCam c.table { x with n := c.n, rise := c.rise, ys := ys, stored := h.persist, load := none, flash := flash })))

end Sys2Proof.Machine
end

