-- ==== Sys2Proof/Machine/Modes.lean ====
section
/-! DEFINITION. AXIS_ENABLE, AXIS_DISABLE and MODE_SET (06_velocity_position.md, R176-R183; 14_host_mailbox.md, R438). -/

namespace Sys2Proof.Machine

/-! ### AXIS_ENABLE -/

/-- What an axis needs of CAPS and does not find: carrier kind, bridges, feedback sources (R84, R123, R188). -/
def capsLack (s : State) (a : AxisId) : Bool :=
  let x := s.ax a
  let caps := x.caps
  let kind := s.pa pAxMotKind a
  let car := if x.mode = 6 then 0 else s.pn pAxPwmCarrier a.val
  let bridges := if kind = 2 then 0 else if kind = 3 then 2 else 3
  let fb := s.pa pAxFbKind a
  let cm := s.pa pAxFbCommMethod a
  let im := s.pa pAxFbIndexMode a
  !bitOf caps (2 + car) || decide (caps % 4 < bridges) || (decide (fb ≠ 0) && !bitOf caps 7) || (decide (fb = 2) && !bitOf caps 6) ||
    (decide (cm = 1 ∨ cm = 2) && !bitOf caps 8) || (decide (cm = 2 ∨ im = 1 ∨ im = 2) && !bitOf caps 9)

/-- RANGE refusals of an axis whose link is in RUN, against the identification registers (R84, R141). -/
def enableRange (s : State) (a : AxisId) : Bool :=
  let x := s.ax a
  decide (x.link.st = .run) && (decide (s.pa pAxPwmDeadNs a < x.ident 0x09) || decide ((x.iFs : Int) < s.pa pAxMotIPeak a))

/-- The RANGE refusal of R141 that reads no identification register. -/
def enableRated (s : State) (a : AxisId) : Bool := decide (s.pa pAxMotIPeak a < s.pa pAxMotIRated a)

/-- STATE refusals of an axis that is not enabled (R49, R84, R125, R131, R205, R321, R324, R468, R500). -/
def enableState (s : State) (a : AxisId) : Bool :=
  let x := s.ax a
  let trip := match x.link.up with | some u => u.trip | none => false
  decide (s.cyc.computed = 0) || !s.cyc.cycling || s.axisMasked a || trip || !x.cur.coefReady || capsLack s a ||
    (s.tiles.absent && (s.par pCycCbSel a.val).any (fun b => decide (b ≠ 0xFF))) || (s.tileOf a).isNone ||
    (decide (s.pa pAxMotKind a = 2 ∧ x.mode ≤ 4) && !x.fb.stepped) ||
    !s.safe.soa || !s.safe.sob || s.safe.proc.ss1.isSome || s.safe.logic.ss1.isSome

/-- BUSY refusals: a switch or an enable is pending, a takeover holds the axis, or an APPLY depends on it (R176, R333, R442). Log 179 (DEDUCED). -/
def enableBusy (s : State) (mask : Nat) (a : AxisId) : Bool :=
  (s.ax a).pendSw.isSome || s.cyc.pendEnable.any (fun p => bitOf p.mask a.val) || s.txAxis a ||
    s.pendBlocks { s with cyc := { s.cyc with pendEnable := ⟨⟨0, none, 0, 0⟩, mask, 0, false, 0, 0⟩ :: s.cyc.pendEnable } }

/-- The first axis of a list with a condition, as a check whose DETAIL is the axis (R428). -/
def axisCheck (l : List AxisId) (f : AxisId → Bool) (st : Nat) : Bool × Nat × Nat :=
  match l.find? f with
  | some a => (true, st, a.val)
  | none => (false, st, 0)

/-- AXIS_ENABLE: all or none (R49, R84, R101, R123, R125, R131, R141, R183, R188, R205, R321, R324, R333, R438, R468, R500). -/
def execAxisEnable (t : Nat) (h : Hdr) (mask : Nat) (s : State) : Host.Outcome State Fault Refusal :=
  let m : Nat := mask % 2 ^ 32
  done (runOp 0x0201 4 false false h (toLE 4 mask) (s.begin t)
    (fun s =>
      let off := (maskAxes m).filter (fun a => !(s.ax a).enabled)
      [(s.scrap, stLifecycle, 0), axisCheck off (enableRated s) stRange, axisCheck off (fun a => decide ((s.ax a).link.st ≠ .run)) stState,
       axisCheck off (enableRange s) stRange, axisCheck off (enableState s) stState, axisCheck off (enableBusy s m) stBusy])
    (fun q s =>
      let off := (maskAxes m).filter (fun a => !(s.ax a).enabled)
      if off.isEmpty then (okRsp [], s)
      else
        let test := off.all (fun a => decide ((s.ax a).mode = 6))
        let p : PendEnable := { req := q, mask := natSum (off.map (fun a => 2 ^ a.val)), done := 0, effective := false
                                at_ := s.cyc.posNo + (if test then 1 else 2), moved := 0 }
        ({ status := stPending }, { s with cyc := { s.cyc with pendEnable := s.cyc.pendEnable ++ [p] } })))

/-! ### AXIS_DISABLE -/

/-- A MODE_SET that is pending when its axis is disabled keeps its switch, without a preset; an engage is discarded (R182, R296). -/
def keptSwitch (x : Axis) : Option PendSwitch :=
  match x.pendSw with
  | none => none
  | some w =>
    if w.made then none
    else
      let q := match x.gear.want with
        | some (_, some q) => if q.op = 0x0203 then some q else none
        | _ => w.req
      q.map (fun q => { w with req := some q, preset := false })

/-- The requests that `keptSwitch` keeps are not ended by the disable. -/
def holdSwitch (a : AxisId) (s : State) : State :=
  match keptSwitch (s.ax a) with
  | some _ => s.modAxis a (fun x =>
      { x with pendSw := none
               gear := { x.gear with want := match x.gear.want with
                                       | some (r, some q) => if q.op = 0x0203 then none else some (r, some q)
                                       | w => w } })
  | none => s

/-- The disable of one axis (R182, R183, R217, R229, R240, R258, R296). -/
def disableAxis (a : AxisId) (s : State) : State :=
  let kept := keptSwitch (s.ax a)
  let s1 := match s.groupOf a with
    | some g => if s.grpBusy g then stopGroup g 1 3 none s else s
    | none => s
  let s2 := axisOff a 3 (holdSwitch a s1)
  match kept with
  | some w => s2.modAxis a (fun x => { x with pendSw := some w })
  | none => s2

/-- AXIS_DISABLE (R240, R438). -/
def execAxisDisable (t : Nat) (h : Hdr) (mask : Nat) (s : State) : Host.Outcome State Fault Refusal :=
  let m : Nat := mask % 2 ^ 32
  done (runOp 0x0202 4 false false h (toLE 4 mask) (s.begin t)
    (fun s => [(s.scrap, stLifecycle, 0)])
    (fun _ s =>
      let s1 := forAxes (maskAxes m) disableAxis s
      (okRsp [], if s1.cyc.cycling then s1 else forAxes (maskAxes m) switchDisabled s1)))

/-! ### MODE_SET -/

/-- The request of MODE_SET to Geared: KIND GEAR, the parameters, M_SPEC 0 and LAND FREE (R288). -/
def gearOfMode (s : State) (a : AxisId) : GearReq :=
  gearFill s a { axis := a.val, kind := 0, table := 0, land := 0, master := 0, num := 0, den := 0, len := 0xFFFFFFFFFFFFFFFF
                 mSpec := 0, mAbs := 0, pTarget := 0, xS := 0 }

/-- The PWM test mode is open in this lifecycle state (R118). -/
def State.testOpen (s : State) : Bool := decide (s.life.lc = 0 ∨ s.life.lc = 1 ∨ s.life.lc = 3) || s.life.service

/-- STATE refusals of MODE_SET (R118, R123, R181). -/
def modeState (s : State) (a : AxisId) (mode : Nat) : Bool :=
  let x := s.ax a
  let still := decide (x.prof.sp.v = 0) && x.prof.queue.isEmpty && x.prof.repl.isNone
  (decide (mode = 6) && (x.enabled || s.axisOn a || decide (s.pa pAxMotKind a = 2))) ||
    (decide (x.mode = 6 ∧ mode ≠ 6) && x.enabled) ||
    (decide ((x.mode = 5 ∧ mode ≤ 4) ∨ (x.mode ≤ 4 ∧ mode = 5)) && !still)

/-- BUSY refusals of MODE_SET (R176, R229, R333). -/
def modeBusy (s : State) (a : AxisId) : Bool :=
  let grp := match s.groupOf a with | some g => s.grpBusy g | none => false
  (s.ax a).pendSw.isSome || s.cyc.pendEnable.any (fun p => bitOf p.mask a.val) || s.txAxis a || grp

/-- The mode of a disabled axis changes now (R176, R611). Log 186 (DEDUCED). -/
def modeNow (a : AxisId) (mode : Nat) (s : State) : State := setMode a mode (gearOff a s)

/-- MODE_SET (R118, R123, R176, R181, R229, R288, R333, R611). -/
def execModeSet (t : Nat) (h : Hdr) (axis mode : Nat) (s : State) : Host.Outcome State Fault Refusal :=
  done (runOp 0x0203 2 false false h (toLE 1 axis ++ toLE 1 mode) (s.begin t)
    (fun s => match axisOf? axis with
      | none => [(true, stBadId, 0)]
      | some a =>
        let x := s.ax a
        [(s.scrap, stLifecycle, 0), (decide (mode = 6) && !s.testOpen, stLifecycle, 1), (decide (6 < mode), stRange, 1),
         (modeState s a mode, stState, 0)] ++
        (if mode = 3 ∧ x.mode ≠ 3 then (gearChecks s a (gearOfMode s a)).map (fun e => (e.1, e.2.1, 0)) else []) ++ [(modeBusy s a, stBusy, 0)])
    (fun q s => match axisOf? axis with
      | none => ({ status := stBadId }, s)
      | some a =>
        let x := s.ax a
        if x.mode = mode then (okRsp [], s)
        else if mode = 3 then gearTake a (gearOfMode s a) q s
        else if x.enabled then
          ({ status := stPending }, s.modAxis a (fun x =>
            { x with pendSw := some { target := mode, at_ := s.cyc.posNo + 2, req := some q, moved := 0, preset := true } }))
        else if s.cyc.cycling then
          ({ status := stPending }, s.modAxis a (fun x =>
            { x with pendSw := some { target := mode, at_ := s.cyc.posNo + 1, req := some q, moved := 0, preset := false } }))
        else (okRsp [], modeNow a mode s)))

end Sys2Proof.Machine
end

