-- ==== Sys2Proof/Machine/Status.lean ====
section
/-! DEFINITION. The read-only parameters as the host reads them (R154, R194, R212, R265, R267, R297, R298, R335, R375, R376, R404, R453,
R461, R584). -/

namespace Sys2Proof.Machine

/-- This node is the harbour node (R348). -/
def State.isHarbour (s : State) : Bool :=
  decide (s.p1 pFabHarbour 0 = 1) || (decide (s.p1 pFabHarbour 0 = 0) && s.host.hostTxn)

/-- `fab.status` (R375). The midpoint is in 2^-16 ns and the rate in 2^-48 here. -/
def fabStatus (s : State) : Nat :=
  let f := s.fab
  packBits [(3, f.st), (1, b2n f.ftValid), (1, b2n f.leader), (1, b2n s.isHarbour), (1, b2n f.ring), (1, b2n f.fallback),
    (8, f.addr), (4, f.ttNow), (4, min f.sources 8), (9, f.rxPrev.length), (31, 0),
    (32, (wrapU 32 (satS 32 (shrHalfUp (f.mid.getD 0) 8))).toNat), (32, (wrapU 32 (satS 32 (shrHalfUp (f.rho * 10 ^ 12) 48))).toNat)]

/-- `fab.port[p].status` (R376). -/
def portStatus (s : State) (p : PortId) : Nat :=
  let x := s.fab.ports.get p
  packBits [(3, x.st), (5, 0), (8, x.nAddr), (16, (satU 16 (shrHalfUp (x.d.getD 0) 14)).toNat), (16, x.crcErrors), (16, x.stomped)]

/-- `time.status` (R404). -/
def timeStatus (s : State) : Nat :=
  let t := s.time
  let r := fun (f : NtRec → Bool) => match t.nt with | some n => f n | none => false
  let gen := match t.nt with | some n => n.gen | none => 0
  packBits [(1, b2n s.fab.ftValid), (1, b2n s.ntValid), (1, b2n t.isSource), (1, b2n t.jumpPending), (1, b2n (r NtRec.utcValid)),
    (1, b2n (r NtRec.leap61)), (1, b2n (r NtRec.leap59)), (1, b2n t.ppsiOk), (4, t.portState), (4, 0), (16, t.tqDropped), (32, gen),
    (64, (wrapU 64 (satS 64 (if t.isSource then t.lastE else 0))).toNat)]

/-- A monitor is projected below the reserve (R583, R584). -/
def ageStatus (s : State) : Nat :=
  let a := s.age
  let worst := (List.range 48).foldl (fun (m : Nat) i => if a.margin.getD i 0 < a.margin.getD m 0 then i else m) 0
  packBits [(2, a.lastStep), (1, b2n (decide (a.target = 880))), (1, b2n (decide (8000 < a.minPeriod))), (1, b2n (a.short.any id)),
    (6, worst), (5, 0), (9, a.daily.length), (7, 0)]

/-- `cam[c].info` (R300): n, RISE low, RISE high, axes that follow and the stored mark. -/
def camInfo (s : State) (c : Nat) : List Int :=
  let x := s.cam c
  let follows := fun (a : AxisId) =>
    let g := (s.ax a).gear
    decide (g.st ≠ 0) && ((decide (g.run.kind = 1 ∧ g.run.table = c)) ||
      (match g.next with | some n => decide (n.kind = 1 ∧ n.table = c) | none => false))
  let k := (allAxes.filter follows).length
  let r := (wrapU 64 x.rise).toNat
  [(x.n : Int), ((r % 2 ^ 32 : Nat) : Int), ((r / 2 ^ 32 : Nat) : Int), ((k % 64 + (if x.stored then 2 ^ 31 else 0) : Nat) : Int)]

/-- A slot map in the layout of `cyc.tile_assign` (R324). -/
def mapValue (m : List (List Nat)) : List Int :=
  (List.range 5).map (fun i => ((packBits ((List.range 8).map (fun j => (8, (m.getD i []).getD j 255))) : Nat) : Int))

/-- Safety parameters as the block in force has them (R456, R461, R492). -/
def safeValue (s : State) (key inst : Nat) : List Int :=
  let v := fun (n : Nat) => [(n : Int)]
  match s.safe.config with
  | none => dfltOf key
  | some _ =>
    if key = pSafePairFunction then v (s.pairFn inst)
    else if key = pSafePairDiscrepancyMs then v (s.cfgU (36 + 16 * inst) 2)
    else if key = pSafeTpPeriodMs then v (s.cfgU 4 2)
    else if key = pSafeMsgWatchdogMs then v (s.cfgU 6 2)
    else v s.configCrc

/-- Read-only parameters of an axis. -/
def axisValue (s : State) (key : Nat) (a : AxisId) : List Int :=
  let x := s.ax a
  let v := fun (n : Nat) => [(n : Int)]
  let id := idReport s a
  if key = pAxIdResEst then v (id.getD 0 0)
  else if key = pAxIdLdEst then v (id.getD 1 0)
  else if key = pAxIdLqEst then v (id.getD 2 0)
  else if key = pAxIdFluxEst then v (id.getD 3 0)
  else if key = pAxIdStatus then v (idStatus x.cur.id)
  else if key = pAxIdInertiaEst then v (inertiaReport s a)
  else if key = pAxFbScState then [x.fb.oS, x.fb.oC, x.fb.g, 0]
  else if key = pAxFbFlags then v (fbFlags s a x.fb)
  else if key = pAxFbLatch0Result then v x.latch0.result
  else if key = pAxFbLatch1Result then v x.latch1.result
  else if key = pAxProfStatus then v (axProfStatus s a)
  else if key = pAxHomeStatus then v (homeStatus s a)
  else if key = pAxGearStatus then v (gearStatus s x.gear)
  else if key = pAxLnkState then v x.link.st.code
  else if key = pAxLnkDelayPs then [satU 32 (ratHalfUp (x.link.dUse * 1000 / 2 ^ 17))]
  else if key = pAxLnkLostCount then v x.link.lostCount
  else if key = pAxLnkCrcCount then v x.link.crcCount
  else v x.link.eyePct

/-- Value of a read-only parameter in force. -/
def roValue (s : State) (key inst : Nat) : List Int :=
  let v := fun (n : Nat) => [(n : Int)]
  let cls := key / 256
  if cls = 0x0A then safeValue s key inst
  else if key = pCycTileMap then mapValue s.tiles.map
  else if key = pCycTileStatus then v (tileStatus s)
  else if key = pTimeStatus then v (timeStatus s)
  else if key = pFabStatus then v (fabStatus s)
  else if key = pFabPortStatus then v (portStatus s ⟨inst % 4, by omega⟩)
  else if key = pAgeVcoreMv then v s.vcoreNow
  else if key = pAgeMinPeriodNs then v s.age.minPeriod
  else if key = pAgeMargin then [s.age.margin.getD inst 0]
  else if key = pAgeStatus then v (ageStatus s)
  else if key = pTideStatus then v (tideStatus s ⟨inst % 4, by omega⟩)
  else if key = pTideGeneration then v (match (s.tides.get ⟨inst % 4, by omega⟩).defn with | some d => d.gen | none => 0)
  else if key = pTideCrc then v (match (s.tides.get ⟨inst % 4, by omega⟩).defn with | some d => d.crc | none => 0)
  else if key = pCamInfo then camInfo s inst
  else if key = pGrpStatus then v (grpStatus s ⟨inst % 8, by omega⟩)
  else match axisOf? inst with
    | some a => axisValue s key a
    | none => []

/-- Default that a read of BANK 2 gives: for an estimate the Default of the parameter that is its nominal value (R453). -/
def readDflt (key : Nat) : List Int :=
  if key = pAxIdResEst then dfltOf pAxMotRes
  else if key = pAxIdLdEst then dfltOf pAxMotLD
  else if key = pAxIdLqEst then dfltOf pAxMotLQ
  else if key = pAxIdFluxEst then dfltOf pAxMotFlux
  else if key = pAxIdInertiaEst then dfltOf pAxVelInertia
  else dfltOf key

/-- What PARAM_GET returns for one instance: BANK 0 topcoat, 1 undercoat, 2 default (R453). -/
def readParam (s : State) (r : PRow) (inst bank : Nat) : List Int :=
  if bank = 2 then readDflt r.key
  else match r.app with
    | .commit => bankGet (if bank = 0 then s.prm.topcoat else s.prm.undercoat) r.key inst
    | .now => bankGet s.prm.live r.key inst
    | .cycle => alGet (bankGet s.prm.live r.key inst) (r.key * 256 + inst) s.prm.cyclePend
    | .reset => bankGet s.prm.resetStored r.key inst
    | .ro => roValue s r.key inst

end Sys2Proof.Machine
end

