-- ==== Sys2Proof/Machine/Fabric.lean ====
section
/-! DEFINITION. The Causeway as one node has it: ports, circuits, frames, the fabric cycle and its clock (12_causeway.md,
R338-R347 and R360-R373; 13_time.md, R379-R381). Offsets and deviations are in 2^-16 ns of FT, rates in 2^-48. -/

namespace Sys2Proof.Machine

/-! ### Ports and circuits -/

def State.port (s : State) (p : PortId) : Port := s.fab.ports.get p

def allPorts : List PortId := List.finRange 4

/-- The port is part of the circuit of berth frames. -/
def State.portActive (s : State) (p : PortId) : Bool := decide ((s.port p).st = 3)

/-- The port is UP and not FOREIGN: the circuit of startup frames (R349, R370). -/
def State.portUp (s : State) (p : PortId) : Bool := decide ((s.port p).st = 2 ∨ (s.port p).st = 3 ∨ (s.port p).st = 4)

/-- The circuit of startup frames after a discovery leaves out the blocked closing links of its tree (log 72). -/
def State.startOk (s : State) (p : PortId) : Bool :=
  s.portUp p && !(decide (s.fab.topoCrc ≠ 0) && decide ((s.port p).st = 4))

/-- The ports after q in cyclic order, q last (R344). -/
def portsAfter (q : PortId) : List PortId := [q + 1, q + 2, q + 3, q]

/-- Where a frame that came on q leaves: the first usable port after q, or q itself (R344). -/
def nextPort (ok : PortId → Bool) (q : PortId) : PortId := ((portsAfter q).find? ok).getD q

/-- Port number of a parent port. -/
def portOf (n : Nat) : PortId := ⟨n % 4, by omega⟩

/-- The port on which an owner's frame counts as received: its parent port, usable or not, or the highest usable port (R344). -/
def State.ownerIngress (s : State) (ok : PortId → Bool) : Option PortId :=
  let high := (allPorts.filter ok).getLast?
  match s.fab.parent with
  | some p => high.map (fun _ => portOf p)
  | none => high

/-- Port on which a frame of this node leaves. -/
def State.launchPort (s : State) (ok : PortId → Bool) : Option PortId := (s.ownerIngress ok).map (nextPort ok)

/-! ### Frames (R342, R343) -/

/-- A frame body without its FCS. -/
def frameHead (type flags tt owner berth cycle corr : Nat) (payload : List Byte) : List Byte :=
  toLE 1 type ++ toLE 1 flags ++ toLE 1 tt ++ toLE 1 owner ++ toLE 2 berth ++ toLE 2 payload.length ++ toLE 4 cycle ++
    toLE 4 corr ++ payload

/-- The FCS over the bytes that are sent; inverted, the frame is stomped (R343). -/
def sealFrame (b : List Byte) (stomp : Bool) : List Byte :=
  let c := crc32 b
  b ++ toLE 4 (if stomp then Nat.xor c 0xFFFFFFFF else c)

/-- What a receiver makes of a body: 0 good, 1 discarded, 2 with a CRC error, 3 stomped (R338, R343). -/
def frameState (f : CFrame) : Nat :=
  let n := f.body.length
  if ¬ f.codeOk ∨ n < 20 ∨ getU f.body 6 2 + 20 ≠ n then 1
  else
    let c := crc32 (f.body.take (n - 4))
    let g := getU f.body (n - 4) 4
    if g = c then 0 else if g = Nat.xor c 0xFFFFFFFF then 3 else 2

def fType (b : List Byte) : Nat := getU b 0 1
def fOwner (b : List Byte) : Nat := getU b 3 1
def fCycle (b : List Byte) : Nat := getU b 8 4
def fCorr (b : List Byte) : Nat := getU b 12 4
def fPayload (b : List Byte) : List Byte := (b.drop 16).take (getU b 6 2)

/-- Instant in 2^-8 ns at which a frame has left with its idle, 3.2 ns a code group (R343). -/
def TxFrame.ends (x : TxFrame) : Nat := x.start + (x.size * 8192 + 9) / 10

/-- Frames on the egress of a port that have not ended at an instant. -/
def Port.busy (x : Port) (at_ : Nat) : List TxFrame := x.tx.filter (fun f => decide (at_ < f.ends))

/-- A frame leaves on a port: two /I2/ sets, /S/, the body, /T/ and /R/ (R338). -/
def State.emitFab (s : State) (p : PortId) (start : Nat) (own : Bool) (bytes : List Byte) : State :=
  let x : TxFrame := { start := start, size := bytes.length + 7, own := own, body := if own then bytes else [] }
  ({ s with out := { s.out with fab := s.out.fab ++ [(p.val, frameGroups 2 bytes)] } } : State).modPort p
    (fun y => { y with tx := y.busy start ++ [x] })

/-- Send an own frame. -/
def State.sendFab (s : State) (p : PortId) (bytes : List Byte) : State := s.emitFab p (s.time.lt * 256) true bytes

/-- An own frame on the egress when one to be forwarded arrives there ends at once, stomped over the bytes that have left (R345). It
stands in the outbox beside the whole frame of the command that sent it. Log 213 (DEDUCED). -/
def cutOwn (q : PortId) (at_ : Nat) (s : State) : State :=
  match (s.port q).tx.find? (fun f => f.own && decide (at_ < f.ends)) with
  | some f =>
    let n := (at_ - f.start) * 10 / 8192 - 1
    ({ s with out := { s.out with fab := s.out.fab ++ [(q.val, frameGroups 2 (sealFrame (f.body.take n) true))] } } : State).modPort q
      (fun y => { y with tx := y.tx.filter (fun f => !(f.own && decide (at_ < f.ends))) })
  | none => s

/-- Bytes of startup frames that a port queues (R370). -/
def startupQueue : Nat := 16384

/-- When a startup frame leaves that would reach the egress at an instant: at once when it is idle, else after the frames before it; none
when the queue is full (R370). Log 260 (DEDUCED). -/
def Port.queueAt (x : Port) (at_ size : Nat) : Option Nat :=
  let waiting := (x.tx.filter (fun f => decide (at_ < f.start))).foldl (fun (n : Nat) f => n + f.size) 0
  let free := (x.busy at_).foldl (fun (m : Nat) f => max m f.ends) at_
  if free = at_ then some at_ else if waiting + size ≤ startupQueue then some free else none

/-- Count what arrived wrong on a port (R343). -/
def countFrame (p : PortId) (k : Nat) (s : State) : State :=
  if k = 2 then s.modPort p (fun x => { x with crcErrors := incSat 16 x.crcErrors })
  else if k = 3 then s.modPort p (fun x => { x with stomped := incSat 16 x.stomped })
  else s

/-- Residence of a forwarded frame: between 60.8 and 64.0 ns in 2^-8 ns, not fixed by the manual (R345). -/
def residence (s : State) : Nat × State :=
  let (n, s1) := s.fresh
  let (m, s2) := s1.fresh
  (15565 + ((Config.freeByte n).toNat + 256 * (Config.freeByte m).toNat) % 820, s2)

/-- Link delay of a port in 2^-8 ns. -/
def State.delay8 (s : State) (p : PortId) : Nat := (shrHalfUp ((s.port p).d.getD 0) 8).toNat

/-- CORR at the receiver's pad: the field with the ingress link's delay (R342, R345). -/
def State.corrAt (s : State) (p : PortId) (b : List Byte) : Nat := fCorr b + s.delay8 p

/-- A frame with CORR grown to a value and its FCS formed anew (R343, R345). -/
def reseal (b : List Byte) (corr : Nat) (bad : Bool) : List Byte :=
  sealFrame (b.take 12 ++ toLE 4 corr ++ (b.take (b.length - 4)).drop 16) bad

/-- A berth frame sent on: CORR grows by ingress delay and residence, and forwarding has priority at the egress (R343, R345). -/
def sendOn (p q : PortId) (stamp : Nat) (b : List Byte) (bad : Bool) (s : State) : State :=
  let (r, s1) := residence s
  let at_ := stamp * 32 + r
  (cutOwn q at_ s1).emitFab q at_ false (reseal b (s.corrAt p b + r) bad)

/-- A startup frame sent on: cut-through, or after queueing, whose time CORR includes (R370). -/
def relay (p q : PortId) (stamp : Nat) (b : List Byte) (s : State) : State :=
  let (r, s1) := residence s
  let at_ := stamp * 32 + r
  match (s1.port q).queueAt at_ (b.length + 7) with
  | some go => s1.emitFab q go false (reseal b (s.corrAt p b + r + (go - at_)) false)
  | none => s1

/-! ### Time of the fabric -/

/-- W in 2^-16 ns (R361). -/
def State.wLim (s : State) : Int := ((s.pn pFabPrecisionLimitNs 0 + 40 : Nat) : Int) * 65536

/-- `fab.reint_limit_ns` in 2^-16 ns (R367). -/
def State.reintLim (s : State) : Int := (s.pn pFabReintLimitNs 0 : Int) * 65536

/-- FT_fine has reached S(n) plus an offset in ns. -/
def State.ftReached (s : State) (n : Nat) (ofs : Int) : Bool := decide ((s.startOf n + ofs) * 65536 ≤ s.ftFine s.time.lt)

/-- Deviation of an arrival in a cycle from a berth offset, with CORR (R361). -/
def State.deviation (s : State) (stamp n ofs corr : Nat) : Int :=
  s.ftFine8 stamp - ((s.startOf n + ofs) * 65536 + (corr : Int) * 256)

/-- One step of the offset in JOIN: the deviation of that arrival becomes 0 (R368). The fabric cycle is the frame's. -/
def stepOffset (stamp n ofs corr : Nat) (s : State) : State :=
  let f := (s.startOf n + ofs) * 65536 + (corr : Int) * 256
  let lt := stamp / 8
  let a : Anchor := { n := n, lt := lt, f := f - ((stamp % 8 : Nat) : Int) * 8192, r := s.fab.rho }
  { s with time := { s.time with anchors := [a] }
           fab := { s.fab with stepped := true, joinRun := 0, devs := [], devsPrev := [], corr := 0, corrNow := 0, corrPrev := 0 } }

/-- The first frame taken in JOIN steps the offset, but never that of a cycling node, which slews (R32, R368). Log 259 (DEDUCED). -/
def takeTime (stamp n ofs corr : Nat) (s : State) : State :=
  if s.cyc.cycling then { s with fab := { s.fab with stepped := true, joinRun := 0 } } else stepOffset stamp n ofs corr s

/-- No timetable is in force. -/
def State.startupMode (s : State) : Bool := decide (s.fab.ttNow = 0xF)

/-- The state that a synchronised node is in: RUN with a timetable, else STARTUP (R366). -/
def State.syncedSt (s : State) : Nat := if s.startupMode then 4 else 5

/-- The timetable in force changes. A node that leaves the last one leads again if it may (R359, R370). -/
def setTimetable (tt : Nat) (s : State) : State :=
  let s1 := { s with fab := { s.fab with ttNow := tt, ttPend := none, ttReq := none, ttAck := none, ttFollow := none } }
  if s.fab.st = 4 ∨ s.fab.st = 5 then
    let back := decide (tt = 0xF ∧ s.fab.ttNow ≠ 0xF)
    let lead := back && decide (s.p1 pModColdstartAllowed 0 = 1)
    { s1 with fab := { s1.fab with st := s1.syncedSt, coldSent := 0, coldSeen := []
                                   relead := back, leader := if back then lead else s1.fab.leader } }
  else s1

/-- Addresses heard in the last complete fabric cycle, this node's own with them. -/
def State.heardNodes (s : State) : List Nat :=
  let l := s.fab.rxPrev.map (fun r => r.addr)
  sortBy id (if l.contains s.fab.addr then l else s.fab.addr :: l)

/-! ### The end of a fabric cycle -/

/-- Members of agreements are the nodes heard in the cycle of the request (R357, R443). -/
def snapshotMembers (s : State) : State :=
  let s1 := match s.prm.pend with
    | some p =>
      if p.fabric ∧ p.origin = s.fab.addr ∧ p.members.isEmpty ∧ ¬ s.startupMode then
        { s with prm := { s.prm with pend := some { p with members := s.heardNodes } } }
      else s
    | none => s
  match s1.fab.ttPend with
  | some p =>
    if ¬ p.startup ∧ s1.fabN = p.n + 1 ∧ p.members.isEmpty then
      let holds := decide (p.tt = 0xF) || (s1.table p.tt).isSome
      { s1 with fab := { s1.fab with ttPend := some { p with members := s1.heardNodes, acked := if holds then [s1.fab.addr] else [] }
                                     ttAck := if holds then some p.tt else none } }
    else s1
  | none => s1

/-- The origin's generation or CRC of a computed tide, as its sync berth of the last cycle gave it (R280). -/
def State.originView (s : State) (i : TideId) : Option (Nat × Nat) :=
  let o := s.pn pTideOriginNode i.val
  (s.fab.rxPrev.find? (fun r => decide (r.addr = o))).map (fun r =>
    (getU r.payload (28 + 16 * i.val) 4, getU r.payload (32 + 16 * i.val) 4))

/-- At a fabric-cycle boundary: a fetched definition may be adopted where no axis follows the tide (R280). -/
def tideBoundary (i : TideId) (s : State) : State :=
  s.modTide i (fun x => { x with adopt := x.fetched.isSome && (s.tideAxes i.val).isEmpty })

/-- A node that integrates or re-integrates has agreed with no origin yet (R280). -/
def tidesAnew (s : State) : State :=
  (List.finRange 4).foldl (fun s i => s.modTide i (fun x => { x with agreed := false, diverged := 0 })) s

/-- A member's computed tide is compared with its origin's: two cycles of difference make it DIVERGED, without a fault where
the node had not agreed before and no axis follows (R280). A diverged node asks again every 64 cycles (log 40). -/
def tideCompare (i : TideId) (s : State) : State :=
  let x := s.tides.get i
  if s.pn pTideSource i.val ≠ 1 ∨ s.pn pTideOriginNode i.val = s.fab.addr then s
  else match s.originView i with
    | none => s.modTide i (fun x => { x with diverged := 0 })
    | some (gen, crc) =>
      let own := match x.defn with | some d => (d.gen, d.crc) | none => (0, 0)
      if (gen, crc) = own then s.modTide i (fun x => { x with diverged := 0, agreed := true })
      else
        let s1 := s.modTide i (fun x => { x with diverged := x.diverged + 1 })
        if x.st ≠ 2 ∧ 1 ≤ x.diverged then tideFetch i (tideDiverges i (!x.agreed) s1)
        else if x.st = 2 ∧ x.fetched.isNone ∧ x.diverged % 64 = 63 then tideFetch i s1
        else s1

/-- Sync berths that were received and go missing are counted by address (R372). -/
def missingCounts (s : State) : State :=
  let now := s.fab.rxPrev.map (fun r => r.addr)
  let old := s.fab.missing
  let seen := (now.filter (fun a => !old.any (fun e => decide (e.1 = a)))).map (fun a => (a, 0))
  { s with fab := { s.fab with missing := old.map (fun e => (e.1, if now.contains e.1 then 0 else e.2 + 1)) ++ seen } }

/-- The node follows the harbour's timetable at the next cycle start (R359). -/
def followTable (s : State) : State :=
  match s.fab.ttFollow with
  | some tt => if tt = s.fab.ttNow then { s with fab := { s.fab with ttFollow := none } } else (setTimetable tt s).raise fTtFollow 0xFF
  | none => s

/-- FT_fine reaches S(n + 1): the next anchor, formed with the old rate; the rate that governs from it (R362, R363, R379). A cycling node
whose FAB domain is off keeps its last rate (R32); STANDALONE and OFF otherwise run as LT (R366).
Log 219 (DEDUCED). -/
def nextAnchor (s : State) : Anchor :=
  let a := s.time.anchors.headD ⟨0, 0, 0, 0⟩
  let n := a.n + 1
  let want := s.startOf n * 65536 - a.f
  let rate : Int := 2 ^ 48 + a.r
  let dl : Int := -((-(want * 2 ^ 32)) / rate)
  let lt := (a.lt + dl).toNat
  { n := n, lt := lt, f := a.f + ((lt : Int) - a.lt) * rate / 2 ^ 32
    r := if s.fab.st = 7 then 0 else if s.fab.st = 0 then (if s.cyc.cycling then a.r else 0) else s.fab.rho + divHalfUp (s.fab.corr * 2 ^ 32) (max 1 s.cycleNs) }

/-! ### Clock synchronisation (R362-R368) -/

/-- The listed sources. -/
def State.listed (s : State) : List Nat := ((s.par pFabSyncSources 0).map Int.toNat).filter (fun a => decide (a ≠ 255))

/-- Sources of a node: its list, or in fallback the nearest nodes that it received synced, up to 8 (R361, R364); in STARTUP the
leader's COLDSTART (R362). A node that left the other side of a split takes only the harbour's side (R365). -/
def State.sourcesFor (s : State) (fallback : Bool) (devs : List (Nat × Int × Int)) : List Nat :=
  if s.startupMode then [0x100]
  else
    let heard := (devs.map (fun e => e.1)).filter (fun a => decide (a ≠ s.fab.addr))
    let base := if fallback then (sortBy (fun a => Config.hops s.fab.addr a * 256 + a) heard).take 8 else s.listed
    match s.fab.harbourOnly, s.fab.harbourAddr with
    | true, some h =>
      match devs.find? (fun e => decide (e.1 = h)) with
      | some d => (devs.filter (fun e => decide (absI (e.2.1 - d.2.1) < s.wLim))).map (fun e => e.1)
      | none => []
    | _, _ => base

/-- The limit inside which a deviation is accepted: in SILENT, and in JOIN for a cycling node, the reintegration limit (R361, R367, R368). -/
def State.accLim (s : State) : Int := if s.fab.st = 6 ∨ (s.fab.st = 3 ∧ s.cyc.cycling) then s.reintLim else s.wLim

/-- Extremes of a list of values, after the largest and the smallest of four or more are removed (R362). -/
def midRange (l : List Int) : Option (Int × Int) :=
  let sorted := sortBy (fun (x : Int) => (x + 2 ^ 80).toNat) l
  let kept := if 4 ≤ l.length then (sorted.drop 1).dropLast else sorted
  match kept.head?, kept.getLast? with
  | some a, some b => some (a, b)
  | _, _ => none

/-- The corrections of a cycle (R362): deviations of this cycle and of the last by source, place in the cycle. -/
structure SyncCalc where
  mid : Option Int
  corr : Int
  rho : Int
  count : Nat
  limited : Bool
  deriving DecidableEq, Repr

/-- The deviation, correction and rate taken from the SYNC frames of a cycle (the sources are those of R364). -/
def syncCalc (s : State) (src : List Nat) : SyncCalc :=
  let cyc : Int := max 1 s.cycleNs
  let lim := s.accLim
  let good := fun (l : List (Nat × Int × Int)) => l.filter (fun e => src.contains e.1 && decide (absI e.2.1 < lim))
  let d := good s.fab.devs
  let dPrev := good s.fab.devsPrev
  let r := d.filterMap (fun e => (dPrev.find? (fun p => decide (p.1 = e.1))).map (fun p =>
    let own := divHalfUp (s.fab.corrPrev * (cyc * 65536 - p.2.2) + s.fab.corrNow * e.2.2) (cyc * 65536)
    e.2.1 - p.2.1 - own))
  let far := s.fab.devs.filter (fun e => src.contains e.1)
  let (mid, corr) : Option Int × Int := match midRange (d.map (fun e => e.2.1)) with
    | some (a, b) =>
      let m := divHalfUp (a + b) 2
      let c := cyc * 65536 / 5000
      (some m, clamp (-c) c (-m))
    | none => ((midRange (far.map (fun e => e.2.1))).map (fun p => divHalfUp (p.1 + p.2) 2), 0)
  let rMax : Int := 112589990684
  let rho := match midRange r with
    | some (a, b) => clamp (-rMax) rMax (s.fab.rho - divHalfUp ((a + b) * 2 ^ 32) (4 * cyc))
    | none => s.fab.rho
  { mid := mid, corr := corr, rho := rho, count := d.length, limited := decide (absI rho = rMax) && !decide (absI s.fab.rho = rMax) }

/-- A count of cycles in a row. -/
def runOf (b : Bool) (n : Nat) : Nat := if b then n + 1 else 0

/-- Offset in ns of the last SYNC berth of the timetable in force. -/
def State.lastSyncOfs (s : State) : Nat := (s.berths.filter (fun b => decide (b.kind = 1))).foldl (fun (m : Nat) b => max m b.ofs) 0

/-- CLOCK_SYNC_UPDATE: after the last SYNC berth of a cycle, in JOIN after the step, STARTUP, RUN and SILENT (R362-R368). A
midpoint outside the window is formed from frames that the window refused (log 76). -/
def execClockSyncUpdate (t : Nat) (s : State) : Host.Outcome State Fault Refusal :=
  let s := s.begin t
  let f := s.fab
  let runs := decide (f.st = 4 ∨ f.st = 5 ∨ f.st = 6) || (decide (f.st = 3) && f.stepped)
  if ¬ runs ∨ f.synced ∨ ¬ s.ftReached s.fabN s.lastSyncOfs then done s
  else
    let allFf := s.listed.isEmpty
    let lead := f.leader && s.startupMode
    let lim := s.accLim
    let inList := f.devs.any (fun e => s.listed.contains e.1 && decide (absI e.2.1 < lim))
    let listedRun := runOf inList f.listedRun
    let back := f.fallback && !allFf && decide (8 ≤ listedRun)
    let fallback := (f.fallback || allFf) && !back && !s.startupMode
    let c := syncCalc s (s.sourcesFor fallback f.devs)
    let harbour := f.harbourAddr.bind (fun h => f.devs.find? (fun e => decide (e.1 = h)))
    let hOut : Bool := (match harbour with | some e => decide (s.wLim ≤ absI e.2.1) | none => false) && decide (0 < c.count)
    let m := c.mid
    let beyond := match m with | some x => decide (s.wLim ≤ absI x) | none => false
    let within := fun (w : Int) => match m with | some x => decide (absI x ≤ w) | none => false
    let s1 := { s with fab := { f with
      synced := true, mid := m, corr := c.corr, rho := c.rho, sources := c.count, fallback := fallback
      noSrc := runOf (decide (c.count = 0) && !lead) f.noSrc
      noListed := if allFf ∨ s.startupMode then 0 else runOf (!inList) f.noListed
      listedRun := listedRun
      outOfW := runOf beyond f.outOfW
      inHalfW := runOf (within (s.wLim / 2)) f.inHalfW
      joinRun := runOf (within s.wLim) f.joinRun
      harbourOut := runOf hOut f.harbourOut } }
    let s2 := if c.limited then s1.raise fRateLimit 0xFF
      else if absI f.rho = 112589990684 ∧ absI c.rho ≠ 112589990684 then s1.clearCond fRateLimit 0xFF else s1
    let s3 := if back then s2.clearCond fNoSource 0xFF else s2
    let far : Bool := match m with | some x => decide (s.reintLim < absI x) | none => false
    done (if (f.st = 6 ∨ f.st = 3) ∧ far ∧ s.cyc.cycling then s3.raise fFtFar 0xFF else s3)

/-- NO_SOURCE: eight cycles without a listed source (R364). -/
def execNoSource (t : Nat) (s : State) : Host.Outcome State Fault Refusal :=
  let s := s.begin t
  if 8 ≤ s.fab.noListed ∧ ¬ s.fab.fallback then
    done (({ s with fab := { s.fab with fallback := true, listedRun := 0 } }).raise fNoSource 0xFF)
  else done s

/-- SYNC_LOST: three cycles outside the window, eight without a source, or the harbour outside it, end in SILENT (R365). -/
def execSyncLost (t : Nat) (s : State) : Host.Outcome State Fault Refusal :=
  let s := s.begin t
  let f := s.fab
  if (f.st = 4 ∨ f.st = 5) ∧ (3 ≤ f.outOfW ∨ 8 ≤ f.noSrc ∨ 3 ≤ f.harbourOut) then
    done (({ s with fab := { f with st := 6, inHalfW := 0, harbourOnly := f.harbourOnly || decide (3 ≤ f.harbourOut) } }).raise
      fSyncLost 0xFF)
  else done s

/-- SILENT_RETURN: eight cycles within W/2 with the timetable in force held (R367). -/
def execSilentReturn (t : Nat) (s : State) : Host.Outcome State Fault Refusal :=
  let s := s.begin t
  let f := s.fab
  let holds := s.startupMode || (s.table f.ttNow).isSome
  if f.st = 6 ∧ 8 ≤ f.inHalfW ∧ holds then
    let s1 := { s with fab := { f with st := s.syncedSt, outOfW := 0, noSrc := 0, harbourOut := 0, harbourOnly := false, withdrawn := false } }
    done (((tidesAnew s1).clearCond fSyncLost 0xFF).clearCond fFtFar 0xFF)
  else done s

/-- JOIN_COMPLETE: eight further cycles with |m| within W (R368). -/
def execJoinComplete (t : Nat) (s : State) : Host.Outcome State Fault Refusal :=
  let s := s.begin t
  let f := s.fab
  if f.st = 3 ∧ f.stepped ∧ 8 ≤ f.joinRun then
    done { tidesAnew s with fab := { f with st := s.syncedSt, ftValid := true, outOfW := 0, noSrc := 0, noListed := 0, harbourOut := 0, leader := false } }
  else done s

/-- This node lies at a break: a LINK_DOWN of its own is ACTIVE (R372). -/
def State.atBreak (s : State) : Bool := s.openSlots.any (fun i => decide ((s.frec i).code = fLinkDown ∧ (s.frec i).state = 1))

/-- NODES_LOST: sync berths missing for eight cycles; the record's unit is the lowest lost address and its repeat count the
number of lost nodes. The node at the break has its LINK_DOWN instead (R372). Log 221 (DEDUCED). -/
def execNodesLost (t : Nat) (s : State) : Host.Outcome State Fault Refusal :=
  let s := s.begin t
  let lost := sortBy id ((s.fab.missing.filter (fun e => decide (8 ≤ e.2))).map (fun e => e.1))
  match lost with
  | [] =>
    if s.fab.lostRep then
      let open_ := s.openSlots.filter (fun i => decide ((s.frec i).code = fNodesLost ∧ (s.frec i).state = 1) && !(s.frec i).isInj)
      done (open_.foldl (fun s i => s.clearCond fNodesLost (s.frec i).unit) { s with fab := { s.fab with lostRep := false } })
    else done s
  | a :: r =>
    if s.fab.lostRep ∨ s.atBreak then done s
    else
      let s1 := settle (({ s with fab := { s.fab with lostRep := true } }).raise fNodesLost a)
      let hit := s1.openSlots.filter (fun i => decide ((s1.frec i).code = fNodesLost ∧ (s1.frec i).unit = a))
      done (hit.foldl (fun s i => s.modRec i (fun x => { x with repeat_ := min (1 + r.length) 65535 })) s1)

end Sys2Proof.Machine
end

