-- ==== Sys2Proof/Machine/Host.lean ====
section
/-! DEFINITION. The host window and the two host ports (14_host_mailbox.md, R406-R423, R431; 18_field_io_can.md, R525, R530). -/

namespace Sys2Proof.Machine

/-! ### Reading the window (R407, R416, R419-R421, R431) -/

/-- Byte `i` of a number, least significant first. -/
def byteOf (v i : Nat) : Byte := BitVec.ofNat 8 (v / 2 ^ (8 * i))

/-- A byte of a buffer of the fast status window (R416). -/
def fastByte (b : FastBuf) (a : Nat) : Byte :=
  if a < 4 then byteOf b.fabN a
  else if a < 6 then byteOf b.ctrlK (a - 4)
  else if a < 8 then byteOf b.pubSkip (a - 6)
  else if a < 16 then byteOf (wrapU 64 b.ft).toNat (a - 8)
  else if a < 20 then byteOf b.applyGen (a - 16)
  else if a < 24 then byteOf b.modState (a - 20)
  else if a < 32 then byteOf b.fltLevel (a - 24)
  else if a < 34 then byteOf b.fltCount (a - 32)
  else if a < 36 then byteOf b.fltNewest (a - 34)
  else if 0x40 ≤ a ∧ a < 0x60 then byteOf (wrapU 64 (b.tidePos.getD ((a - 0x40) / 8) 0)).toNat (a % 8)
  else if 0x100 ≤ a ∧ a < 0x300 then
    let e := b.axes.getD ((a - 0x100) / 16) (0, 0, 0)
    let o := a % 16
    if o < 4 then byteOf e.1 o
    else if o < 8 then byteOf (wrapU 32 e.2.1).toNat (o - 4)
    else byteOf (wrapU 64 e.2.2).toNat (o - 8)
  else 0

/-- MB_STATUS (R419). -/
def mbStatus (s : State) : Nat :=
  packBits [(2, s.host.hostState), (1, b2n s.prm.topcoatValid), (1, b2n (decide (s.prm.undercoat ≠ s.prm.topcoat))),
    (1, b2n s.applyPending), (1, b2n s.prm.frozen), (26, 0), (32, s.prm.applyGen)]

/-- MB_CTRL (R420); its reserved bits read back as written. Log 90 (DEDUCED). -/
def mbCtrl (s : State) : Nat := packBits [(1, b2n s.host.evtPush), (15, s.host.mbRes), (16, s.host.hostWd)]

/-- RING[n] (R421). -/
def Ring.reg (r : Ring) : Nat :=
  packBits [(16, r.reqProd.toNat), (16, r.reqCons.toNat), (16, r.rspProd.toNat), (16, r.rspCons.toNat), (2, r.port)]

/-- EVT (R421). -/
def evtReg (s : State) : Nat := packBits [(16, s.host.evtProd.toNat), (16, s.host.evtCons.toNat), (16, s.host.evtLost)]

/-- HOST_ERR (R421). -/
def hostErrReg (s : State) : Nat := packBits [(16, s.host.ignored), (16, s.host.overrun), (16, s.host.ethDiscard)]

/-- The channel and object that CAN_SEL of a port names (R530). -/
def State.selOf (s : State) (p : HostPort) : Nat := match p with | .qspi => s.host.canSel.1 | .eth => s.host.canSel.2

def selCh (v : Nat) : Fin 2 := ⟨v / 128 % 2, by omega⟩

/-- The identification block (R431). -/
def identBytes (s : State) : List Byte :=
  let i := s.host.ident
  toLE 4 0x32334D52 ++ toLE 1 i.hwRev ++ toLE 1 i.fwMajor ++ toLE 1 i.fwMinor ++ toLE 2 i.fwPatch ++ toLE 3 0 ++ toLE 8 i.uid
    ++ toLE 6 i.mac
    ++ toLE 2 (packBits [(3, s.life.lc), (1, b2n s.life.service), (1, b2n s.life.debugOpen), (1, i.image), (1, b2n i.imageFallback)])
    ++ toLE 1 i.resetCause ++ toLE 3 0 ++ toLE 4 i.bootCount

/-- A byte of the mailbox control range as a port reads it (R419-R421, R525, R530). -/
def ctrlByte (s : State) (p : HostPort) (a : Nat) : Byte :=
  let c := selCh (s.selOf p)
  let o := s.selOf p % 128
  if a < 0x408 then byteOf (mbStatus s) (a - 0x400)
  else if a < 0x40C then byteOf (mbCtrl s) (a - 0x408)
  else if a < 0x410 then 0
  else if a < 0x450 then byteOf (s.host.rings.get (ringOf ((a - 0x410) / 16))).reg (a % 16)
  else if a < 0x458 then byteOf (evtReg s) (a - 0x450)
  else if a < 0x460 then byteOf (hostErrReg s) (a - 0x458)
  else if a < 0x480 then 0
  else if a < 0x484 then byteOf s.fld.cmd (a - 0x480)
  else if a < 0x488 then byteOf s.fldInReg (a - 0x484)
  else if a < 0x490 then byteOf s.fldDiagReg (a - 0x488)
  else if a < 0x494 then byteOf s.fldCntReg (a - 0x490)
  else if a < 0x500 then 0
  else if a < 0x502 then byteOf (s.selOf p) (a - 0x500)
  else if a < 0x508 then 0
  else if a < 0x510 then byteOf (s.canStat 0) (a - 0x508)
  else if a < 0x518 then byteOf (s.canStat 1) (a - 0x510)
  else if a < 0x540 then 0
  else if a < 0x544 then byteOf (s.objStat c o) (a - 0x540)
  else if a < 0x548 then byteOf (s.canObj c o).id (a - 0x544)
  else if a < 0x550 then byteOf (wrapU 64 (s.canObj c o).ts).toNat (a - 0x548)
  else if a < 0x590 then (s.objData c o).getD (a - 0x550) 0
  else 0

/-- A byte of the window as a port reads it; `buf` is the buffer of the fast status window that the transaction reads (R407). -/
def winByte (s : State) (p : HostPort) (buf : Fin 2) (a : Nat) : Byte :=
  if a < 0x400 then fastByte (s.host.bufs.get buf) a
  else if a < 0x800 then ctrlByte s p a
  else if a < 0x1000 then 0
  else if a < 0xA000 then memRead s.host.mem a
  else if a < 0xB000 then (identBytes s).getD (a - 0xA000) 0
  else if a < 0xC000 then 0
  else memRead s.host.mem a

/-- `n` bytes of the window from an address, which wraps from 0xFFFF to 0 (R408). -/
def winBytes (s : State) (p : HostPort) (a n : Nat) : List Byte :=
  (List.range n).map (fun i => winByte s p s.host.bufIdx ((a + i) % 0x10000))

/-- A transaction of `n` bytes from `a` reads a byte of the field of `len` bytes at `f`. -/
def touches (a n f len : Nat) : Bool := decide ((f + len + 0x10000 - 1 - a) % 0x10000 < n + len - 1)

/-- The fields that a read clears (R421, R525, R530). Log 92 (DEDUCED). -/
def clearOnRead (a n : Nat) (s : State) : State :=
  let on := fun (f : Nat) (g : State → State) (s : State) => if 0 < n ∧ touches a n f 2 then g s else s
  s |> on 0x454 (fun s => { s with host := { s.host with evtLost := 0 } })
    |> on 0x458 (fun s => { s with host := { s.host with ignored := 0 } })
    |> on 0x45A (fun s => { s with host := { s.host with overrun := 0 } })
    |> on 0x45C (fun s => { s with host := { s.host with ethDiscard := 0 } })
    |> on 0x490 (fun s => { s with fld := { s.fld with sags := 0 } })
    |> on 0x492 (fun s => { s with fld := { s.fld with silences := 0 } })
    |> on 0x50C (fun s => s.modCan 0 (fun x => { x with unmatched := 0 }))
    |> on 0x50E (fun s => s.modCan 0 (fun x => { x with busOffs := 0 }))
    |> on 0x514 (fun s => s.modCan 1 (fun x => { x with unmatched := 0 }))
    |> on 0x516 (fun s => s.modCan 1 (fun x => { x with busOffs := 0 }))

/-- One read transaction of window bytes: the bytes, and the state after it. -/
def winRead (p : HostPort) (a n : Nat) (s : State) : List Byte × State := (winBytes s p a n, clearOnRead a n s)

/-! ### Writing the window (R411, R415, R420-R422) -/

/-- Code of the host port. -/
def portCode : HostPort → Nat
  | .qspi => 1
  | .eth => 2

/-- A ring refuses a port that it is not bound to (R415). -/
def Ring.foreign (r : Ring) (p : HostPort) : Bool := decide (r.port ≠ 0 ∧ r.port ≠ portCode p)

/-- An index write that R422 refuses. -/
def refuseIndex (s : State) : State :=
  ({ s with host := { s.host with overrun := incSat 16 s.host.overrun } }).raise fRingOverrun 0xFF

/-- Responses that waited for a free entry of a ring move in, in order. -/
def flushRsp (i : Fin 4) (s : State) : State :=
  let mine := s.host.rspWait.filter (fun e => decide (e.1 = i.val))
  let rest := s.host.rspWait.filter (fun e => !decide (e.1 = i.val))
  mine.foldl (fun s e => s.postRsp e.1 e.2) { s with host := { s.host with rspWait := rest } }

/-- A write of REQ_PROD: it is a host transaction of R406, it binds an unbound ring, and R422 judges the index.
Log 94 (DEDUCED). -/
def writeReqProd (p : HostPort) (i : Fin 4) (v : Word16) (s : State) : State :=
  let s1 := { s with host := { s.host with hostTxn := true } }
  let s2 := if (s1.host.rings.get i).port = 0 then s1.modRing i (fun r => { r with port := portCode p }) else s1
  let r := s2.host.rings.get i
  if (v - r.reqCons).toNat ≤ 64 ∧ (r.reqProd - r.reqCons).toNat ≤ (v - r.reqCons).toNat then s2.modRing i (fun r => { r with reqProd := v })
  else refuseIndex s2

/-- A write of RSP_CONS. -/
def writeRspCons (i : Fin 4) (v : Word16) (s : State) : State :=
  let r := s.host.rings.get i
  if (v - r.rspCons).toNat ≤ (r.rspProd - r.rspCons).toNat then flushRsp i (s.modRing i (fun r => { r with rspCons := v }))
  else refuseIndex s

/-- A write of EVT_CONS. -/
def writeEvtCons (v : Word16) (s : State) : State :=
  if (v - s.host.evtCons).toNat ≤ (s.host.evtProd - s.host.evtCons).toNat then { s with host := { s.host with evtCons := v } }
  else refuseIndex s

/-- The host watchdog starts anew, and its condition ends (R420). Log 95 (DEDUCED). -/
def restartWd (s : State) : State :=
  let s1 := { s with host := { s.host with lastBeat := s.time.lt, silent := false } }
  if s.host.silent then s1.clearCond fHostSilent 0xFF else s1

/-- A write of 1 to bits of OBJ_STAT, then TX_REQ (R531, R532). A reserved object ignores it (R535). Log 98 (DEDUCED). -/
def writeObjStat (c : Fin 2) (o : Nat) (b : Nat) (s : State) : State :=
  if s.objReserved c.val o then s
  else
    let s1 := s.modObj c o (fun x => { x with new := x.new && !bitOf b 0, ovr := x.ovr && !bitOf b 1, txDone := x.txDone && !bitOf b 4
                                              txFail := x.txFail && !bitOf b 5 })
    if bitOf b 2 ∧ s.objKind c.val o = 2 then canTxReq c o s1 else s1

/-- A write of DATA: the shadow of a send object; ignored for every other object (R530, R532, R535). -/
def writeObjData (c : Fin 2) (o : Nat) (l : List Byte) (s : State) : State :=
  if s.objKind c.val o = 2 ∧ ¬ s.objReserved c.val o then
    s.modCan c (fun x => { x with shadow := memWriteN x.shadow (64 * o) l })
  else s

/-- The register field whose most significant byte lies at an address: its first address and length (R411). Log 97 (DEDUCED). -/
def fieldAt (a : Nat) : Option (Nat × Nat) :=
  if a = 0x408 then some (0x408, 1)
  else if a = 0x409 then some (0x408, 2)
  else if a = 0x40B then some (0x40A, 2)
  else if a = 0x40F then some (0x40C, 4)
  else if 0x410 ≤ a ∧ a < 0x450 ∧ a % 16 = 1 then some (a - 1, 2)
  else if 0x410 ≤ a ∧ a < 0x450 ∧ a % 16 = 7 then some (a - 1, 2)
  else if a = 0x453 then some (0x452, 2)
  else if a = 0x480 then some (0x480, 1)
  else if a = 0x483 then some (0x480, 4)
  else if a = 0x500 then some (0x500, 1)
  else if a = 0x501 then some (0x500, 2)
  else if a = 0x540 then some (0x540, 1)
  else if a = 0x58F then some (0x550, 64)
  else none

/-- CAN_SEL of a port. -/
def setSel (p : HostPort) (v : Nat) (s : State) : State :=
  match p with
  | .qspi => { s with host := { s.host with canSel := (v, s.host.canSel.2) } }
  | .eth => { s with host := { s.host with canSel := (s.host.canSel.1, v) } }

/-- The effect of a field whose most significant byte, at `a`, has arrived; `l` are its bytes. -/
def fieldEffect (p : HostPort) (a : Nat) (l : List Byte) (s : State) : State :=
  let v := ofLE l
  let c := selCh (s.selOf p)
  let o := s.selOf p % 128
  if a = 0x408 then { s with host := { s.host with evtPush := bitOf v 0 } }
  else if a = 0x409 then { s with host := { s.host with mbRes := v / 2 } }
  else if a = 0x40B then restartWd { s with host := { s.host with hostWd := v } }
  else if a = 0x40F then restartWd s
  else if a < 0x450 then
    (if a % 16 = 1 then writeReqProd p (ringOf ((a - 0x410) / 16)) (BitVec.ofNat 16 v) s
     else writeRspCons (ringOf ((a - 0x410) / 16)) (BitVec.ofNat 16 v) s)
  else if a = 0x453 then writeEvtCons (BitVec.ofNat 16 v) s
  else if a = 0x480 then { s with fld := { s.fld with cmd := s.fld.cmd / 256 * 256 + v } }
  else if a = 0x483 then { s with fld := { s.fld with cmd := v } }
  else if a = 0x500 then setSel p (s.selOf p / 256 * 256 + v) s
  else if a = 0x501 then setSel p v s
  else if a = 0x540 then writeObjStat c o v s
  else if a = 0x58F then writeObjData c o l s
  else s

/-- The ring whose entries, REQ_PROD or RSP_CONS a byte belongs to (R415). -/
def ringAt (a : Nat) : Option (Fin 4) :=
  if 0x1000 ≤ a ∧ a < 0x5000 then some (ringOf ((a - 0x1000) / 0x1000))
  else if 0x410 ≤ a ∧ a < 0x450 ∧ (a % 16 < 2 ∨ a % 16 = 6 ∨ a % 16 = 7) then some (ringOf ((a - 0x410) / 16))
  else none

/-- Byte `i` of a write transaction arrives; the flag says that a byte has been ignored under R415. The bytes of a field that
the transaction has not sent stay as they are (R411). Log 96 (DEDUCED). Log 99 (DEDUCED). -/
def winWriteByte (p : HostPort) (a0 : Nat) (bytes : List Byte) (i : Nat) (e : State × Bool) : State × Bool :=
  let s := e.1
  let a := (a0 + i) % 0x10000
  let foreign : Bool := match ringAt a with | some r => (s.host.rings.get r).foreign p | none => false
  if foreign then (s, true)
  else if (0x1000 ≤ a ∧ a < 0x5000) ∨ 0xC000 ≤ a then (s.writeMem a [bytes.getD i 0], e.2)
  else match fieldAt a with
    | some (f, len) =>
      let l := (List.range len).map (fun j => if len ≤ i + 1 + j then bytes.getD (i + 1 + j - len) 0 else winByte s p s.host.bufIdx (f + j))
      (fieldEffect p a l s, e.2)
    | none => e

/-- One write transaction of window bytes in ascending address order; under R415 it counts once in IGNORED. Log 93 (DEDUCED). -/
def winWrite (p : HostPort) (a : Nat) (bytes : List Byte) (s : State) : State :=
  let (s1, ign) := (List.range bytes.length).foldl (fun e i => winWriteByte p a bytes i e) (s, false)
  if ign then { s1 with host := { s1.host with ignored := incSat 16 s1.host.ignored } } else s1

/-- A port of the host works: the HOST domain is on and the port's mode is not 0 (R408, R412). Log 101 (DEDUCED). -/
def State.portOn (s : State) (p : HostPort) : Bool :=
  s.domOn .host && (match p with
    | .qspi => decide (s.p1 pHostQspiMode 0 ≠ 0)
    | .eth => decide (s.p1 pHostEthMode 0 ≠ 0))

/-- A write transaction at a port. -/
def portWrite (t : Nat) (p : HostPort) (a : Nat) (bytes : List Byte) (s : State) : Host.Outcome State Fault Refusal :=
  let s := s.begin t
  if s.portOn p then done (winWrite p a bytes s) else done s

/-- A read of one register at a port; its bytes leave with the command. -/
def portRead (t : Nat) (p : HostPort) (a n : Nat) (s : State) : Host.Outcome State Fault Refusal :=
  let s := s.begin t
  if s.portOn p then
    let (l, s1) := winRead p a n s
    done { s1 with out := { s1.out with qspi := l } }
  else done s

/-! ### The commands -/

/-- REQ_PROD_WRITE (R406, R415, R422). -/
def execReqProdWrite (t : Nat) (p : HostPort) (i : Fin 4) (v : Word16) (s : State) : Host.Outcome State Fault Refusal :=
  portWrite t p (0x410 + 16 * i.val) (toLE 2 v.toNat) s

/-- RSP_CONS_WRITE (R422). -/
def execRspConsWrite (t : Nat) (p : HostPort) (i : Fin 4) (v : Word16) (s : State) : Host.Outcome State Fault Refusal :=
  portWrite t p (0x416 + 16 * i.val) (toLE 2 v.toNat) s

/-- EVT_CONS_WRITE (R422). -/
def execEvtConsWrite (t : Nat) (p : HostPort) (v : Word16) (s : State) : Host.Outcome State Fault Refusal :=
  portWrite t p 0x452 (toLE 2 v.toNat) s

/-- HEARTBEAT_WRITE (R420). -/
def execHeartbeatWrite (t : Nat) (p : HostPort) (v : Word32) (s : State) : Host.Outcome State Fault Refusal :=
  portWrite t p 0x40C (toLE 4 v.toNat) s

/-- HOST_SILENT: HOST_WD ms have gone by without a write to HEARTBEAT (R420). -/
def execHostSilent (t : Nat) (s : State) : Host.Outcome State Fault Refusal :=
  let s := s.begin t
  if s.host.hostWd ≠ 0 ∧ ¬ s.host.silent ∧ s.host.lastBeat + s.host.hostWd * 1000000 ≤ s.time.lt then
    done (({ s with host := { s.host with silent := true } }).raise fHostSilent 0xFF)
  else done s

/-- EVT_REGISTER_READ (R421). -/
def execEvtRegisterRead (t : Nat) (p : HostPort) (s : State) : Host.Outcome State Fault Refusal := portRead t p 0x450 8 s

/-- HOST_ERR_READ (R421). -/
def execHostErrRead (t : Nat) (p : HostPort) (s : State) : Host.Outcome State Fault Refusal := portRead t p 0x458 8 s

/-- FLD_CNT_READ (R525). -/
def execFldCntRead (t : Nat) (p : HostPort) (s : State) : Host.Outcome State Fault Refusal := portRead t p 0x490 4 s

/-- CAN_STAT_READ (R530). -/
def execCanStatRead (t : Nat) (p : HostPort) (ch : Fin 2) (s : State) : Host.Outcome State Fault Refusal :=
  portRead t p (0x508 + 8 * ch.val) 8 s

/-- FLD_OUT_WRITE (R519, R525). -/
def execFldOutWrite (t : Nat) (p : HostPort) (v : Word32) (s : State) : Host.Outcome State Fault Refusal :=
  portWrite t p 0x480 (toLE 4 v.toNat) s

/-- OBJ_STAT_CLEAR: a write of OBJ_STAT [7:0] of the selected object (R531). -/
def execObjStatClear (t : Nat) (p : HostPort) (v : Byte) (s : State) : Host.Outcome State Fault Refusal := portWrite t p 0x540 [v] s

/-- TX_REQ: a write of 1 to TX_REQ alone (R532). -/
def execTxReq (t : Nat) (p : HostPort) (s : State) : Host.Outcome State Fault Refusal := portWrite t p 0x540 [4] s

/-- REGISTER_WRITE (R411). -/
def execRegisterWrite (t : Nat) (p : HostPort) (addr : Word16) (bytes : List Byte) (s : State) : Host.Outcome State Fault Refusal :=
  portWrite t p addr.toNat bytes s

/-- A transaction that lies open until `until_` holds the buffer it reads (R410). Log 100 (DESIGN CHOICE). -/
def holdBuf (until_ : Nat) (s : State) : State := { s with host := { s.host with held := some (s.host.bufIdx, until_) } }

/-- QSPI_FAST: bytes of the buffer sampled with the address; beyond 0x03FF it reads zero (R408, R409). -/
def execQspiFast (t : Nat) (addr : Word16) (n : Nat) (until_ : Nat) (s : State) : Host.Outcome State Fault Refusal :=
  let s := s.begin t
  if s.portOn .qspi then
    let l := (List.range n).map (fun i =>
      let a := (addr.toNat + i) % 0x10000
      if a < 0x400 then fastByte (s.host.bufs.get s.host.bufIdx) a else 0)
    let s1 := holdBuf until_ s
    done { s1 with out := { s1.out with qspi := l } }
  else done s

/-- QSPI_READ (R408). -/
def execQspiRead (t : Nat) (addr : Word16) (n : Nat) (until_ : Nat) (s : State) : Host.Outcome State Fault Refusal :=
  let s := s.begin t
  if s.portOn .qspi then
    let (l, s1) := winRead .qspi addr.toNat n s
    let s2 := if 0 < n ∧ touches addr.toNat n 0 0x400 then holdBuf until_ s1 else s1
    done { s2 with out := { s2.out with qspi := l } }
  else done s

/-- QSPI_WRITE (R408). -/
def execQspiWrite (t : Nat) (addr : Word16) (bytes : List Byte) (s : State) : Host.Outcome State Fault Refusal :=
  portWrite t .qspi addr.toNat bytes s

/-- QSPI_UNKNOWN_COMMAND: the transaction ends with the data lines released (R408). -/
def execQspiUnknownCommand (t : Nat) (_cmd : Byte) (s : State) : Host.Outcome State Fault Refusal := done (s.begin t)

/-- The reason for which a window-access frame is malformed (R413). Log 102 (DEDUCED). -/
def ethBad (f : EthFrame) : Option Nat :=
  if f.version ≠ 1 then some 1
  else if f.kind ≠ 1 ∧ f.kind ≠ 2 then some 2
  else if f.len = 0 ∨ 1024 < f.len ∨ (f.kind = 2 ∧ f.data.length < f.len) then some 3
  else if 0x10000 < f.addr + f.len then some 4
  else none

/-- A window-access frame that is addressed to the module (R413, R414). -/
def ethWindow (f : EthFrame) (s : State) : State :=
  let send := fun (g : EthFrame) (s : State) => { s with out := { s.out with eth := s.out.eth ++ [g] } }
  match ethBad f with
  | some r => send ⟨f.src, 1, 6, f.seq, f.addr, r, []⟩ s
  | none =>
    let s1 := { s with host := { s.host with hostTxn := true } }
    if f.kind = 1 then
      let (l, s2) := winRead .eth f.addr f.len s1
      send ⟨f.src, 1, 3, f.seq, f.addr, f.len, l⟩ s2
    else
      let s2 := winWrite .eth f.addr (f.data.take f.len) { s1 with host := { s1.host with writeMac := some f.src } }
      send ⟨f.src, 1, 4, f.seq, f.addr, f.len, []⟩ s2

/-- ETH_WINDOW_READ (R413, R414). -/
def execEthWindowRead (t : Nat) (f : EthFrame) (s : State) : Host.Outcome State Fault Refusal :=
  let s := s.begin t
  if s.portOn .eth then done (ethWindow f s) else done s

/-- ETH_WINDOW_WRITE (R413, R414). -/
def execEthWindowWrite (t : Nat) (f : EthFrame) (s : State) : Host.Outcome State Fault Refusal :=
  let s := s.begin t
  if s.portOn .eth then done (ethWindow f s) else done s

/-- ETH_FRAME_DISCARD: a frame that is neither PTP nor window access to the module (R412). -/
def execEthFrameDiscard (t : Nat) (f : EthHead) (s : State) : Host.Outcome State Fault Refusal :=
  let s := s.begin t
  if s.portOn .eth ∧ f.taken = false then
    done { s with host := { s.host with ethDiscard := incSat 16 s.host.ethDiscard } }
  else done s

/-- ETH_LINK: the host Ethernet link is lost or regained (R445). -/
def execEthLink (t : Nat) (up : Bool) (s : State) : Host.Outcome State Fault Refusal :=
  let s := s.begin t
  if s.host.ethUp = up then done s
  else
    let s1 := { s with host := { s.host with ethUp := up } }
    if s.p1 pHostEthMode 0 = 0 then done s1
    else done (if up then s1.clearCond fEthLink 0xFF else s1.raise fEthLink 0xFF)

end Sys2Proof.Machine
end

