-- ==== Sys2Proof/Machine/Lifecycle.lean ====
section
/-! DEFINITION. Lifecycle states and transitions, debug access, firmware updates and the self-test
(20_lifecycle_selftest_ageing.md, R560-R577, R585). -/

namespace Sys2Proof.Machine

/-! ### Keys and hashes -/

def grinyxKey : List Byte := (List.range 64).map Config.grinyxKey
def firmwareKey : List Byte := (List.range 64).map Config.firmwareKey

/-- SHA-256 of the UID and the password (R564). -/
def pwHashOf (uid : Nat) (pw : List Byte) : List Byte := sha256 (toLE 8 uid ++ pw)

/-- VSYS lies in its operating range (R565, R590). -/
def State.vsysOk (s : State) : Bool := decide (18000 ≤ s.power.vsysMv ∧ s.power.vsysMv ≤ 32000)

def State.anyAxisOn (s : State) : Bool := allAxes.any s.axisOn

def State.ss1Runs (s : State) : Bool := s.safe.proc.ss1.isSome || s.safe.logic.ss1.isSome

/-- A full test, injection and the like are open: every state but FIELD without a session and SCRAP (R561). -/
def State.openState (s : State) : Bool := decide (s.life.lc = 0 ∨ s.life.lc = 1 ∨ s.life.lc = 3) || (decide (s.life.lc = 2) && s.life.service)

/-! ### Transitions (R563-R565) -/

/-- The rows of R563: the kind of authorisation that a transition needs, 0 for none. -/
def transition (from_ to_ : Nat) : Option Nat :=
  if from_ = 0 ∧ to_ = 1 then some 0
  else if from_ = 1 ∧ to_ = 2 then some 1
  else if from_ ≤ 2 ∧ to_ = 3 then some 2
  else if (from_ = 1 ∨ from_ = 2) ∧ to_ = 4 then some 1
  else if (from_ = 0 ∨ from_ = 3) ∧ to_ = 4 then some 2
  else none

/-- An authorisation of the kind is at most 60 s old (R563). -/
def State.authorised (s : State) (kind : Nat) : Bool :=
  let fresh : Option Nat → Bool := fun o => match o with | some a => decide (s.time.lt ≤ a + 60000000000) | none => false
  decide (kind = 0) || (decide (kind = 1) && fresh s.life.serviceAuth) || (decide (kind = 2) && fresh s.life.returnAuth)

/-- First field of the bulk data of R564 that is refused: its offset in the payload. -/
def keyBad (body : List Byte) : Option Nat :=
  if ¬ onCurve (ofBE (body.take 32)) (ofBE ((body.drop 32).take 32)) then some 1
  else if getU body 64 1 < 8 ∨ 32 < getU body 64 1 then some 65
  else none

/-- LIFECYCLE_ADVANCE (R563-R565). Log 148 (DEDUCED). -/
def execLifecycleAdvance (t : Nat) (h : Hdr) (target : Nat) (body : List Byte) (s : State) : Host.Outcome State Fault Refusal :=
  done (runOp 0x0802 1 true false h (toLE 1 target ++ body) (s.begin t)
    (fun s =>
      let row := transition s.life.lc target
      let keys := decide (row = some 0)
      [(keys && decide (body.length ≠ 100), stBadLength, 0), (s.scrap, stLifecycle, 0), (row.isNone, stRange, 0),
       (keys && (keyBad body).isSome, stRange, (keyBad body).getD 0), (!s.authorised (row.getD 0), stAuth, 0),
       (s.anyAxisOn || s.ss1Runs || s.life.bist.isSome || s.life.update.isSome, stState, 0), (!s.vsysOk, stState, 0),
       (s.life.advance.isSome || s.life.resetDue.isSome, stBusy, 0)])
    (fun q s => ({ status := stPending }, { s with life := { s.life with
      advance := some (target, q, body)
      serviceAuth := if transition s.life.lc target = some 1 then none else s.life.serviceAuth
      returnAuth := if transition s.life.lc target = some 2 then none else s.life.returnAuth } })))

/-- The erasures and writes of R563: into INTEGRATE the key and the password hash, into RETURN and SCRAP an empty key store, into
RETURN no stored image. -/
def advanceEffect (target : Nat) (body : List Byte) (s : State) : State :=
  if target = 1 then
    { s with life := { s.life with
        fuse := 1, oemKey := body.take 64, pwHash := pwHashOf s.host.ident.uid ((body.drop 68).take (getU body 64 1)) } }
  else if target = 2 then { s with life := { s.life with fuse := 2, debugOpen := false } }
  else
    let s1 := { s with life := { s.life with fuse := target, oemKey := [], pwHash := [] } }
    if target = 3 then
      { s1 with
        prm := { s1.prm with stored := s1.prm.stored.map (fun b => bankSet b pCycCbImage 0 (dfltOf pCycCbImage)) }
        tiles := { s1.tiles with storedImage := [] } }
    else s1

/-- LIFECYCLE_PROGRAMMED: the fuses are programmed and the request completes; the reset follows 10 ms later (R565). -/
def execLifecycleProgrammed (t : Nat) (s : State) : Host.Outcome State Fault Refusal :=
  let s := s.begin t
  match s.life.advance with
  | some (target, q, body) =>
    let s1 := (advanceEffect target body s).finish q (okRsp [])
    done { s1 with life := { s1.life with advance := none, resetDue := some (s.time.lt + 10000000) } }
  | none => done s

/-! ### Challenges and debug access (R566-R569) -/

/-- A kind is accepted in a state (R566). -/
def kindOpen (kind lc : Nat) : Bool :=
  if kind = 0 then decide (lc = 1) else if kind = 1 then decide (lc = 1 ∨ lc = 2) else if kind = 2 then decide (lc ≤ 3) else true

/-- 32 bytes of the random generator (R566, log 5). -/
def nonceBytes (k : Nat) : List Byte := (List.range 32).map (fun i => Config.freeByte (32 * k + i))

/-- DEBUG_CHALLENGE (R566, R569). Log 147 (DEDUCED). -/
def execDebugChallenge (t : Nat) (h : Hdr) (kind : Nat) (s : State) : Host.Outcome State Fault Refusal :=
  done (runOp 0x0803 1 false false h (toLE 1 kind) (s.begin t)
    (fun s => [(s.scrap || !kindOpen kind s.life.lc, stLifecycle, 0), (decide (2 < kind), stRange, 0),
               (decide (3 ≤ s.life.authFails), stBusy, 0)])
    (fun _ s =>
      let (k, s1) := s.fresh
      let n := nonceBytes k
      (okRsp n, { s1 with life := { s1.life with nonce := some (kind, n, s.time.lt + 60000000000) } })))

/-- DEBUG_NONCE_EXPIRE: the window of 60 s ends (R566). -/
def execDebugNonceExpire (t : Nat) (s : State) : Host.Outcome State Fault Refusal :=
  let s := s.begin t
  match s.life.nonce with
  | some (_, _, due) => if due ≤ s.time.lt then done { s with life := { s.life with nonce := none } } else done s
  | none => done s

/-- The nonce that a response answers: open and not expired. -/
def State.openNonce (s : State) : Option (Nat × List Byte) :=
  match s.life.nonce with
  | some (k, n, due) => if s.time.lt < due then some (k, n) else none
  | none => none

/-- The 64-byte message of R568. -/
def debugMessage (s : State) (kind : Nat) (nonce : List Byte) : List Byte :=
  nonce ++ toLE 8 s.host.ident.uid ++ toLE 1 kind ++ toLE 1 s.life.lc ++ toLE 4 s.host.ident.bootCount ++ List.replicate 18 0

/-- The response is right: the password's hash, or the signature (R567, R568). -/
def responseOk (s : State) (kind : Nat) (nonce body : List Byte) : Bool :=
  if kind = 0 then decide (s.life.pwHash ≠ [] ∧ pwHashOf s.host.ident.uid body = s.life.pwHash)
  else if kind = 1 then ecdsaOk (keyPoint s.life.oemKey) (debugMessage s kind nonce) body
  else ecdsaOk (keyPoint grinyxKey) (debugMessage s kind nonce) body

/-- What a right response opens (R567, R568). -/
def responseOpens (kind : Nat) (s : State) : State :=
  let l := s.life
  if kind = 0 then { s with life := { l with debugOpen := true } }
  else if kind = 1 then
    let field := decide (l.lc = 2)
    { s with life := { l with serviceAuth := some s.time.lt, service := l.service || field, debugOpen := l.debugOpen || field } }
  else { s with life := { l with returnAuth := some s.time.lt } }

/-- DEBUG_RESPONSE (R567-R569): a wrong one is answered PENDING and completes with AUTH after 1 s. -/
def execDebugResponse (t : Nat) (h : Hdr) (body : List Byte) (s : State) : Host.Outcome State Fault Refusal :=
  done (runOp 0x0804 0 true false h body (s.begin t)
    (fun s =>
      let signed : Bool := match s.openNonce with | some (k, _) => decide (k ≠ 0) | none => h.bulk
      [((signed && decide (h.length ≠ 64)) || (signed != h.bulk), stBadLength, 0), (s.scrap, stLifecycle, 0),
       (s.openNonce.isNone, stState, 0), (decide (3 ≤ s.life.authFails), stBusy, 0)])
    (fun q s =>
      match s.openNonce with
      | some (k, n) =>
        let s1 := { s with life := { s.life with nonce := none } }
        if responseOk s k n body then (okRsp [], responseOpens k s1)
        else ({ status := stPending }, { s1 with life := { s1.life with
          authPend := s1.life.authPend ++ [(q, s.time.lt + 1000000000)] } })
      | none => ({ status := stState }, s)))

/-- DEBUG_AUTH_DELAY: failed responses complete with AUTH after 1 s (R569). Log 146 (DEDUCED). -/
def execDebugAuthDelay (t : Nat) (s : State) : Host.Outcome State Fault Refusal :=
  let s := s.begin t
  let due := s.life.authPend.filter (fun e => decide (e.2 ≤ s.time.lt))
  let s1 := { s with life := { s.life with
    authPend := s.life.authPend.filter (fun e => decide (s.time.lt < e.2)), authFails := s.life.authFails + due.length } }
  done (due.foldl (fun s e => s.finish e.1 { status := stAuth }) s1)

/-! ### Firmware images (R570, R571) -/

/-- Version of a header: MAJOR, MINOR and PATCH in order of weight (R570, log 85). -/
def imageVersion (b : List Byte) : Nat := getU b 4 1 * 2 ^ 24 + getU b 5 1 * 2 ^ 16 + getU b 6 2
def imageFloor (b : List Byte) : Nat := getU b 12 2

/-- Write the image that is not running. -/
def State.setOther (s : State) (i : Image) : State :=
  if s.host.ident.image = 0 then { s with life := { s.life with imgB := i } } else { s with life := { s.life with imgA := i } }

/-- FW_UPDATE_BEGIN (R571). -/
def execFwUpdateBegin (t : Nat) (h : Hdr) (len version : Nat) (s : State) : Host.Outcome State Fault Refusal :=
  done (runOp 0x0810 8 false false h (toLE 4 len ++ toLE 4 version) (s.begin t)
    (fun s => [(s.scrap, stLifecycle, 0), (decide (16777216 < len), stRange, 0), (s.life.update.isSome, stBusy, 0)])
    (fun _ s =>
      let s1 := s.setOther {}
      (okRsp [], { s1 with life := { s1.life with update := some (len, version, []) } })))

/-- A segment continues the object or starts it afresh (R435). -/
def segmentFits (s : State) (ofs : Nat) : Bool :=
  match s.life.update with | some (_, _, b) => decide (ofs = 0 ∨ ofs = b.length) | none => true

/-- FW_UPDATE_DATA (R435, R571). A segment out of order discards the object. -/
def execFwUpdateData (t : Nat) (h : Hdr) (ofs : Nat) (body : List Byte) (s : State) : Host.Outcome State Fault Refusal :=
  let s0 := s.begin t
  let r := runOp 0x0811 4 true true h (toLE 4 ofs ++ body) s0
    (fun s => [(s.scrap, stLifecycle, 0), (!segmentFits s ofs, stRange, 0), (s.life.update.isNone, stState, 0)])
    (fun _ s => match s.life.update with
      | some (n, v, b) => (okRsp [], { s with life := { s.life with update := some (n, v, (if ofs = 0 then [] else b) ++ body) } })
      | none => (okRsp [], s))
  let runs := s0.canTake h && s0.isLocal h && lengthOk h 4 true true && !s0.scrap
  done (if runs ∧ ¬ segmentFits s0 ofs then
    { r with life := { r.life with update := r.life.update.map (fun u => (u.1, u.2.1, [])) } } else r)

/-- The check of a finished image: AUTH, RANGE or none (R571). Log 150 (DEDUCED). -/
def imageCheck (s : State) (len version : Nat) (b : List Byte) : Option Nat :=
  let n := b.length - 64
  if ¬ ecdsaOk (keyPoint firmwareKey) (b.take n) (b.drop n) then some stAuth
  else if b.length ≠ len ∨ getU b 8 4 ≠ len ∨ getU b 4 4 ≠ version ∨ imageFloor b < s.life.rollback ∨
      imageVersion b / 65536 < s.life.rollback then some stRange
  else none

/-- FW_UPDATE_END: PENDING, and the result of the check (R571). Log 149 (DEDUCED). -/
def execFwUpdateEnd (t : Nat) (h : Hdr) (activate : Nat) (s : State) : Host.Outcome State Fault Refusal :=
  done (runOp 0x0812 1 false false h (toLE 1 activate) (s.begin t)
    (fun s => [(s.scrap, stLifecycle, 0), (decide (1 < activate), stRange, 0), (s.life.update.isNone, stState, 0)])
    (fun q s => match s.life.update with
      | none => ({ status := stState }, s)
      | some (len, v, b) =>
        let s1 := s.respond q h.bulkOfs { status := stPending }
        let s2 := { s1 with life := { s1.life with update := none } }
        match imageCheck s len v b with
        | some st => ({ status := st }, s2)
        | none =>
          let s3 := s2.setOther { valid := true, version := imageVersion b, floor := imageFloor b, bytes := b }
          (okRsp [], if activate = 1 then { s3 with life := { s3.life with active := 1 - s.host.ident.image, newImage := true } } else s3)))

/-- FW_TRIAL_END: 60 s in HOST_STATE 2 without a watchdog; the floor rises to the image's (R573). -/
def execFwTrialEnd (t : Nat) (s : State) : Host.Outcome State Fault Refusal :=
  let s := s.begin t
  match s.life.trial, s.life.trialReady with
  | some _, some r =>
    if r + 60000000000 ≤ s.time.lt then
      let i := if s.host.ident.image = 0 then s.life.imgA else s.life.imgB
      done { s with life := { s.life with trial := none, trialReady := none, rollback := max s.life.rollback i.floor } }
    else done s
  | _, _ => done s

/-! ### Self-test (R575-R577) -/

/-- The core rail lies within 3 % of its target (R576). -/
def State.railOk (s : State) : Bool := decide (100 * (max s.vcoreNow s.age.target - min s.vcoreNow s.age.target) ≤ 3 * s.age.target)

/-- REF lies within 200 ppm (R21). -/
def State.refOk (s : State) : Bool := !s.power.refStopped && decide (-200 ≤ s.power.refPpm ∧ s.power.refPpm ≤ 200)

/-- The temperature lies in the window of R576; the one temperature that a command gives stands for the lid's (log 86). -/
def State.lidOk (s : State) : Bool := decide (-400 ≤ s.power.temp ∧ s.power.temp ≤ 1000)

/-- A condition of R576 that leaves its window cuts a running test short (R577). -/
def bistWindow (s : State) : State :=
  if s.life.bist.isSome ∧ ¬ (s.railOk && s.refOk && s.lidOk) then { s with life := { s.life with bistCut := true } } else s

/-- BIST_RUN (R562, R575, R576). -/
def execBistRun (t : Nat) (h : Hdr) (scope : Nat) (s : State) : Host.Outcome State Fault Refusal :=
  done (runOp 0x0801 1 false false h (toLE 1 scope) (s.begin t)
    (fun s => [((s.scrap && decide (scope ≠ 1)) || (decide (scope = 0) && !s.openState), stLifecycle, 0), (decide (1 < scope), stRange, 0),
               (s.anyAxisOn, stState, 0), (!s.railOk, stState, 1), (!s.refOk, stState, 2), (!s.lidOk, stState, 3),
               (s.prm.pend.isSome || s.rcd.replay.isSome || s.tiles.takeover.isSome || s.life.bist.isSome, stBusy, 0)])
    (fun q s => ({ status := stPending }, { s with
      life := { s.life with bist := some (scope, q), bistCut := false }
      cyc := { s.cyc with stopDue := s.cyc.stopDue || s.cyc.cycling } })))

/-- BIST_DONE: the test ends, once cycling has stopped; a full test has erased the recorder ring and the acquisition area, and
cycling restarts under R48 (R576, R577). -/
def execBistDone (t : Nat) (countOk sigOk : Bool) (s : State) : Host.Outcome State Fault Refusal :=
  let s := s.begin t
  match s.life.bist with
  | some (scope, q) =>
    if s.cyc.cycling then done s
    else
      let pass := countOk && sigOk && !s.life.bistCut
      let s1 := { s with life := { s.life with bist := none, bistCut := false } }
      let s2 := if scope = 0 then { s1 with rcd := {}, acq := { s1.acq with recs := [] } } else s1
      let s3 := if pass then s2 else s2.raise fBistFail 0xFF
      done (startCycling (s3.finish q (okRsp (toLE 1 (b2n pass)))))
  | none => done s

end Sys2Proof.Machine
end

