-- ==== Sys2Proof/Machine/Moves.lean ====
section
/-! DEFINITION. Motion commands and events: MOVE_QUEUE, MOVE_FLUSH, STOP, QUICKSTOP, JOG, and standstill, time-outs and timed
starts (08_motion_profiles.md, R214-R243). -/

namespace Sys2Proof.Machine

/-! ### MOVE_QUEUE (R214-R216, R229, R234, R238, R240, R243) -/

/-- Payload of MOVE_QUEUE, as it is forwarded (R438). -/
def moveBytes (m : MoveReq) : List Byte :=
  toLE 1 m.tgt ++ toLE 1 m.kind ++ toLE 1 m.blend ++
    toLE 1 (b2n m.replace + 2 * b2n m.startAt + 4 * b2n m.endRun + 8 * m.reservedFlags : Nat) ++
    toLE 2 m.vFrac ++ toLE 2 m.aFrac ++ toLE 2 m.dFrac ++ toLE 2 m.jFrac ++ toLE 4 m.startN ++ toLE 8 m.tol ++
    toLE 8 m.target ++ toLE 8 m.centre0 ++ toLE 8 m.centre1 ++ toLE 1 m.turns ++ (m.points.map (toLE 8)).flatten

/-- A stop runs or is asked for, so that new motion is refused (R238). -/
def Prof.stopping (p : Prof) : Bool := decide (p.stopRuns ≠ 0)

/-- Held by a fault whose record is not closed (R240). -/
def Prof.faultHeld (p : Prof) : Bool := !p.stopRecs.isEmpty

/-- Target of the nearest ABS or REL entry looking back through a queue; `none` where a VEL entry or an unconverted REL comes
first; `some none` where there is only DWELL (R216). -/
def lookBack : List (MoveReq × Nat) → Option (Option Int)
  | [] => some none
  | (m, _) :: r => if m.kind = 7 then lookBack r else if m.kind = 0 then some (some m.target) else none

/-- Origin of a REL entry that is queued now (R216); `none` where it is converted when taken. -/
def relOrigin (p : Prof) (keep : Bool) : Option Int :=
  let q := if keep then p.queue.reverse ++ p.repl.toList else []
  match lookBack q with
  | none => none
  | some (some t) => some t
  | some none =>
    match p.act with
    | some (m, _) =>
      if p.plan.ended ∧ p.kind ≠ .vel then some p.sp.p
      else if m.kind = 2 then none
      else if m.kind = 7 then some p.sp.p
      else some p.goal
    | none => some p.sp.p

/-- A position lies outside the software limits that apply (R243). -/
def softOut (s : State) (a : AxisId) (p : Int) : Bool :=
  match softLims s a with
  | some (lo, hi) => decide (p < lo ∨ hi < p)
  | none => false

/-- The entry with its REL target converted where it can be (R216). -/
def absEntry (p : Prof) (m : MoveReq) : MoveReq :=
  if m.kind = 1 then
    match relOrigin p (!m.replace) with
    | some o => { m with kind := 0, target := satS 64 (o + m.target) }
    | none => m
  else m

/-- RANGE checks of every entry (R215, R216); a START_N in the past is refused (R394). -/
def moveRange (s : State) (m : MoveReq) : List (Bool × Nat × Nat) :=
  [(decide (7 < m.kind), stRange, 1), (decide (2 < m.blend ∧ m.blend ≠ 0xFF), stRange, 2),
   (m.endRun && decide (m.kind ≠ 6), stRange, 3),
   (m.startAt && decide (extendN s.fabN m.startN < s.fabN), stRange, 12), (decide (m.kind = 7 ∧ m.target < 0), stRange, 24)]

/-- STATE and RANGE checks of an entry for an axis, (R215, R216). Log 190 (DEDUCED). -/
def axMoveChecks (s : State) (a : AxisId) (m : MoveReq) : List (Bool × Nat × Nat) :=
  let x := s.ax a
  let p := x.prof
  let e := absEntry p m
  let grp := match s.groupOf a with | some g => s.grpBusy g | none => false
  [(s.scrap, stLifecycle, 0)] ++ moveRange s m ++
  [(decide (m.kind ≤ 1 ∧ e.kind = 0) && softOut s a e.target, stRange, 24),
   (!axKindOk x.mode m.kind, stState, 0), (p.stopping, stState, 0), (p.faultHeld, stState, 0),
   (!m.replace && decide (64 ≤ p.queue.length), stBusy, 0), (grp, stBusy, 0)]

/-- Point from which the next entry of a group starts: the last queued end point, or that of the running segment, or where the
members stand (R227). -/
def grpFrom (s : State) (g : Fin 8) (keep : Bool) : List Rat :=
  let p := (s.grps.get g).prof
  let q := if keep then (p.queue.reverse ++ p.repl.toList).filter (fun e => decide (e.1.kind ≠ 7)) else []
  match q with
  | (m, _) :: _ => m.points.map (fun (x : Int) => (x : Rat))
  | [] => if keep ∧ p.path.dst ≠ [] ∧ (s.grps.get g).moving then p.path.dst else (grpStart s g).map (·.1)

/-- Radius check of an arc (R227). -/
def arcBad (s : State) (g : Fin 8) (m : MoveReq) : Bool :=
  let src := grpFrom s g (!m.replace)
  let r := fun (x y : Rat) => normR [x - m.centre0, y - m.centre1]
  let r0 := r (src.getD 0 0) (src.getD 1 0)
  let r1 := r (m.points.getD 0 0) (m.points.getD 1 0)
  decide (r0 = 0 ∨ (s.pn pGrpArcTol g.val : Rat) < absR (r0 - r1))

/-- A group end point whose member position lies outside its software limits (R243). -/
def grpSoftOut (s : State) (g : Fin 8) (m : MoveReq) : Bool :=
  (List.zip (s.grpSlots g) m.points).any (fun e =>
    e.1.2 ≠ 0 && softOut s e.1.1 (ratHalfUp ((e.2 : Rat) / e.1.2)))

/-- Entries of the spline run that the queue's tail leaves open (R228). Log 194 (DEDUCED). -/
def openRun (q : List (MoveReq × Nat)) : Nat :=
  (q.reverse.takeWhile (fun e => decide (e.1.kind = 6) && !e.1.endRun)).length

/-- The same checks for a group and its members (R215, R216). -/
def grpMoveChecks (s : State) (g : Fin 8) (m : MoveReq) : List (Bool × Nat × Nat) :=
  let p := (s.grps.get g).prof
  let n := (s.members g).length
  let point := decide (3 ≤ m.kind ∧ m.kind ≤ 6)
  let spline := match p.act with | some (e, _) => decide (e.kind = 6 ∧ p.kind = .move) && !p.plan.ended | none => false
  [(point && decide (m.points.length ≠ n), stBadLength, 0), (s.scrap, stLifecycle, 0)] ++ moveRange s m ++
  [(point && grpSoftOut s g m, stRange, 24), (decide (m.kind = 4 ∨ m.kind = 5) && arcBad s g m, stRange, 32),
   (decide (m.kind = 6) && !m.endRun && decide (62 ≤ openRun p.queue), stRange, 3),
   (!(point || decide (m.kind = 7)) || (s.members g).any (fun a => decide ((s.ax a).mode ≠ 2)), stState, 0),
   (p.stopping, stState, 0), (p.faultHeld, stState, 0),
   (m.replace && spline && decide (m.kind < 3 ∨ 5 < m.kind), stState, 0),
   (!m.replace && decide (64 ≤ p.queue.length), stBusy, 0),
   (s.pendBlocks (s.modGrp g (fun x => { x with prof := { x.prof with queue := (m, 0) :: x.prof.queue } })), stBusy, 0)]

/-- The entry goes to its queue; a HELD profile leaves HELD (R216, R234, R240). -/
def Prof.enqueue (p : Prof) (m : MoveReq) (tag : Nat) : Prof :=
  let held := decide (p.kind = .stop ∨ p.kind = .qstop)
  let p1 := if held then { p with kind := .idle, plan := {}, ovl := none, stillRun := 0 } else p
  if m.replace then { p1.clearQueue with repl := some (m, tag) }
  else { p1 with queue := p1.queue ++ [(m, tag)], replan := true }

/-- MOVE_QUEUE (R214-R216, R438). Log 193 (DEDUCED). -/
def execMoveQueue (t : Nat) (h : Hdr) (m : MoveReq) (s : State) : Host.Outcome State Fault Refusal :=
  done (runOp 0x0210 49 true false h (moveBytes m) (s.begin t)
    (fun s => match tgtAxis? m.tgt, tgtGrp? m.tgt with
      | some a, _ => axMoveChecks s a m
      | none, some g => grpMoveChecks s g m
      | none, none => [(true, stBadId, 0)])
    (fun _ s => match tgtAxis? m.tgt, tgtGrp? m.tgt with
      | some a, _ =>
        let e := absEntry (s.ax a).prof m
        let s1 := if m.replace then postDrops a.val 2 (s.ax a).prof.waitingTags s else s
        let s2 := s1.modProf a (fun p => p.enqueue e h.tag)
        (okRsp (toLE 1 (s2.ax a).prof.queue.length), s2)
      | none, some g =>
        let s1 := if m.replace then postDrops (0x80 + g.val) 2 (s.grps.get g).prof.waitingTags s else s
        let s2 := s1.modGrp g (fun x => { x with prof := x.prof.enqueue m h.tag })
        (okRsp (toLE 1 (s2.grps.get g).prof.queue.length), s2)
      | none, none => ({ status := stBadId }, s)))

/-! ### MOVE_FLUSH, STOP and QUICKSTOP -/

/-- MOVE_FLUSH (R238, R241). -/
def execMoveFlush (t : Nat) (h : Hdr) (tgt : Nat) (s : State) : Host.Outcome State Fault Refusal :=
  done (runOp 0x0211 1 false false h (toLE 1 tgt) (s.begin t)
    (fun s => [((tgtAxis? tgt).isNone && (tgtGrp? tgt).isNone, stBadId, 0), (s.scrap, stLifecycle, 0)])
    (fun _ s => match tgtAxis? tgt, tgtGrp? tgt with
      | some a, _ =>
        let n := (s.ax a).prof.waitingTags.length
        (okRsp (toLE 1 n), (dropAxisQueue a 1 s).modProf a (fun p => { p with flush := !p.stopping }))
      | none, some g =>
        let n := (s.grps.get g).prof.waitingTags.length
        (okRsp (toLE 1 n), (dropGrpQueue g 1 s).modGrp g (fun x => { x with prof := { x.prof with flush := !x.prof.stopping } }))
      | none, none => ({ status := stBadId }, s)))

/-- TAG of the move that a profile runs; 0 for none. -/
def Prof.activeTag (p : Prof) : Nat := if p.plan.ended ∧ p.kind ≠ .vel then 0 else match p.act with | some e => e.2 | none => 0

/-- A stop by command on one target, its ACTIVE_TAG and the number of entries discarded (R235, R236, R239). -/
def stopTarget (tgt kind : Nat) (s : State) : (Nat × Nat) × State :=
  match tgtAxis? tgt, tgtGrp? tgt with
  | some a, _ =>
    let p := match s.groupOf a with
      | some g => if (s.grps.get g).busy then (s.grps.get g).prof else (s.ax a).prof
      | none => (s.ax a).prof
    ((p.activeTag, p.waitingTags.length), stopAxis a kind 0 none s)
  | none, some g =>
    let p := (s.grps.get g).prof
    ((p.activeTag, p.waitingTags.length), stopGroup g kind 0 none s)
  | none, none => ((0, 0), s)

/-- A stop of every axis and group of the node (R433). -/
def stopEverything (kind : Nat) (s : State) : Nat × State :=
  let cnt := natSum (allAxes.map (fun a => (s.ax a).prof.waitingTags.length)) +
    natSum ((List.finRange 8).map (fun g => (s.grps.get g).prof.waitingTags.length))
  let s1 := (List.finRange 8).foldl
    (fun s g => if (s.grps.get g).busy then stopGroup g kind 0 none s else s) s
  (cnt, forAxes allAxes (fun a s => stopAxis a kind 0 none s) s1)

/-- STOP and QUICKSTOP (R235-R239, R433, R438). For target 0xFF the manual states no ACTIVE_TAG, and no count above 255: those
bytes are free (log 87). -/
def stopOp (opc kind : Nat) (h : Hdr) (tgt : Nat) (s : State) : State :=
  runOp opc 1 false false h (toLE 1 tgt) s
    (fun s => [((tgtAxis? tgt).isNone && (tgtGrp? tgt).isNone && decide (tgt ≠ 0xFF), stBadId, 0), (s.scrap, stLifecycle, 0)])
    (fun _ s =>
      if tgt = 0xFF then
        let n := s.free
        let (cnt, s1) := stopEverything kind { s with free := n + 3 }
        (okRsp ([Config.freeByte n, Config.freeByte (n + 1)] ++
          [if cnt < 256 then BitVec.ofNat 8 cnt else Config.freeByte (n + 2)]), s1)
      else
        let (r, s1) := stopTarget tgt kind s
        (okRsp (toLE 2 r.1 ++ toLE 1 r.2), s1))

/-- STOP (0x0212), on an axis or a group. -/
def execStop (t : Nat) (h : Hdr) (tgt : Nat) (s : State) : Host.Outcome State Fault Refusal :=
  done (stopOp 0x0212 1 h tgt (s.begin t))

/-- QUICKSTOP (0x0213), on an axis or a group. -/
def execQuickstop (t : Nat) (h : Hdr) (tgt : Nat) (s : State) : Host.Outcome State Fault Refusal :=
  done (stopOp 0x0213 2 h tgt (s.begin t))

/-! ### JOG -/

/-- Target of the distance jog that a new distance jog replaces, less the present set-point: of one that waits for the coming position
cycle, or of the running one (R242). -/
def jogOrigin (p : Prof) : Int :=
  let run := if p.kind = .jog ∧ ¬ p.plan.ended then p.goal - p.sp.p else 0
  match p.jog with
  | some j => if j.kind = 1 then run + j.value else 0
  | none => run

/-- Direction of a jog from where it would start (R242). -/
def jogDir (x : Axis) (j : JogReq) : Int := signOf (if j.kind = 0 then j.value else jogOrigin x.prof + j.value)

/-- The jog as it waits: its distance counts from where it starts, beyond that of a waiting distance jog that it replaces; after a
waiting velocity jog it counts from the set-point and not from the jog that runs (R242). -/
def jogWaits (p : Prof) (j : JogReq) : JogReq :=
  match p.jog with
  | some w =>
    if j.kind = 0 then j
    else if w.kind = 1 then { j with value := w.value + j.value }
    else { j with value := j.value - (if p.kind = .jog ∧ ¬ p.plan.ended then p.goal - p.sp.p else 0) }
  | none => j

/-- The payload of JOG (R438). -/
def jogBytes (j : JogReq) : List Byte :=
  toLE 1 j.axis ++ toLE 1 j.kind ++ toLE 2 0 ++ toLE 2 j.vFrac ++ toLE 2 j.aFrac ++ toLE 2 j.dFrac ++ toLE 2 j.jFrac ++
    toLE 4 0 ++ toLE 8 j.value

/-- JOG (R229, R238, R242, R252, R438). -/
def execJog (t : Nat) (h : Hdr) (j : JogReq) (s : State) : Host.Outcome State Fault Refusal :=
  done (runOp 0x0214 24 false false h (jogBytes j) (s.begin t)
    (fun s => match axisOf? j.axis with
      | none => [(true, stBadId, 0)]
      | some a =>
        let x := s.ax a
        let d := jogDir x j
        let grp := match s.groupOf a with | some g => s.grpBusy g | none => false
        [(s.scrap, stLifecycle, 0), (decide (1 < j.kind), stRange, 1),
         (decide (x.mode = 4) && ((decide (d = 1) && swActive s a .pos) || (decide (d = -1) && swActive s a .neg)), stRange, 16),
         (decide (x.mode ≠ 4), stState, 0), (x.prof.stopping, stState, 0), (grp, stBusy, 0)])
    (fun _ s => match axisOf? j.axis with
      | none => ({ status := stBadId }, s)
      | some a =>
        (okRsp [], s.modProf a (fun p =>
          let p1 := if p.kind = .stop ∨ p.kind = .qstop then { p with kind := .idle, plan := {}, stillRun := 0 } else p
          { p1 with jog := some (jogWaits p1 j)
                    jogUntil := if j.kind = 0 ∧ j.value ≠ 0 then some (s.time.lt + s.pn pAxProfJogTimeoutMs a.val * 1000000) else none }))))

/-- JOG_TIMEOUT: a velocity jog that is not repeated in time ramps to rest (R242). -/
def execJogTimeout (t : Nat) (ax : AxisId) (s : State) : Host.Outcome State Fault Refusal :=
  let s := s.begin t
  let p := (s.ax ax).prof
  match p.jogUntil with
  | some d =>
    if d ≤ s.time.lt ∧ (s.ax ax).mode = 4 then
      let s1 := s.modProf ax (fun p =>
        { axRamp s ax (limitsOf p.lim) p with kind := .jogv, jogUntil := none, jog := none })
      done (s1.raise fJogTimeout ax.val)
    else done s
  | none => done s

/-! ### Events of the profile engine -/

/-- MOVE_START_AT_DUE: a waiting entry is released at its START_N (R218). -/
def execMoveStartAtDue (t : Nat) (tgt : Nat) (s : State) : Host.Outcome State Fault Refusal :=
  let s := s.begin t
  let due := fun (p : Prof) => p.waiting && (match p.queue with
    | e :: _ => e.1.startAt && decide (s.startNs e.1.startN ≤ s.ft)
    | [] => false)
  match tgtAxis? tgt, tgtGrp? tgt with
  | some a, _ => if due (s.ax a).prof then done (s.modProf a (fun p => { p with released := true })) else done s
  | none, some g =>
    if due (s.grps.get g).prof then done (s.modGrp g (fun x => { x with prof := { x.prof with released := true } })) else done s
  | none, none => done s

/-- STANDSTILL: the set-point has rested and the axis has been slow for 8 position cycles; at level 4 torque goes off (R237). -/
def execStandstill (t : Nat) (ax : AxisId) (s : State) : Host.Outcome State Fault Refusal :=
  let s := s.begin t
  let p := (s.ax ax).prof
  if 8 ≤ p.stillRun then
    let s1 := s.modProf ax (fun p => { p with stopDeadline := none })
    done (if p.offAtStill then axisOff ax 4 s1 else s1)
  else done s

/-- STOP_TIMEOUT: standstill was not reached in time (R237). The unit is the group for a stop along its path (R239). -/
def execStopTimeout (t : Nat) (ax : AxisId) (s : State) : Host.Outcome State Fault Refusal :=
  let s := s.begin t
  let past : Option Nat → Bool := fun o => match o with | some d => decide (d ≤ s.time.lt) | none => false
  let x := s.ax ax
  if past x.prof.stopDeadline ∧ x.prof.stillRun < 8 then
    done ((axisOff ax 4 (s.modProf ax (fun p => { p with stopDeadline := none }))).raise fStopTimeout ax.val)
  else match s.groupOf ax with
    | some g =>
      if past (s.grps.get g).prof.stopDeadline ∧ (s.members g).any (fun a => decide ((s.ax a).prof.stillRun < 8)) then
        let s1 := s.modGrp g (fun x => { x with prof := { x.prof with stopDeadline := none } })
        done ((forAxes (s1.members g) (fun a s => axisOff a 4 s) s1).raise fStopTimeout (0x80 + g.val))
      else done s
    | none => done s

end Sys2Proof.Machine
end

