-- ==== Sys2Proof/Machine/ParamOps.lean ====
section
/-! DEFINITION. Reading, writing, checking and applying parameters (14_host_mailbox.md, R434-R444; 15_parameters.md,
R447-R464). -/

namespace Sys2Proof.Machine

/-! ### Identifiers and values -/

/-- The row that a request names, unless its instances or its ID do not exist (R434, R447). -/
def idRow (id count : Nat) : Option PRow :=
  match rowOf (id / 256 % 65536) with
  | some r => if id / 2 ^ 24 = 0 ∧ id % 256 < r.count ∧ id % 256 + count ≤ r.count then some r else none
  | none => none

/-- Bytes of one value of a row with elements. -/
def PRow.valueSize (r : PRow) : Nat := r.n * r.sz

/-- Bytes of the fixed objects: `can[c].objects` has 128 entries of 16 bytes (R528). -/
def canObjectsSize : Nat := 2048

/-- The list of values in a request has the length that its ID asks for (R428). Fields take `head` bytes before it. -/
def valuesFit (r : PRow) (head count length : Nat) (vals : List Byte) : Bool :=
  if r.n = 0 then
    if r.key = pCycCbImage then decide (length = 12 + vals.length)
    else decide (length = head + canObjectsSize ∧ vals.length = canObjectsSize)
  else decide (length = head + count * r.valueSize ∧ vals.length = count * r.valueSize)

/-- The elements that a request writes. -/
def reqElems (r : PRow) (count : Nat) (vals : List Byte) : List Int :=
  if r.n = 0 then vals.map (fun (b : Byte) => (b.toNat : Int)) else elemsOf r vals (count * r.n)

/-- Payload offset of the first value out of range (R451). -/
def badValue (r : PRow) (count : Nat) (vals : List Byte) : Option Nat :=
  if r.key = pCanObjects then (if canObjectsOk vals then none else some 8)
  else (firstBad r 0 (reqElems r count vals)).map (fun i => if r.n = 0 then 8 else 8 + i / r.n * r.valueSize)

/-- Values by instance. -/
def instVals (r : PRow) (inst count : Nat) (vals : List Byte) : List (Nat × List Int) :=
  if r.n = 0 then [(inst, reqElems r 1 vals)]
  else (List.range count).map (fun j => (inst + j, ((reqElems r count vals).drop (j * r.n)).take r.n))

/-! ### PARAM_GET -/

/-- PARAM_GET (R434, R438, R450, R453). A Bulk object travels in the region, cut to its length. Log 105 (DEDUCED). -/
def execParamGet (t : Nat) (h : Hdr) (id count bank : Nat) (s : State) : Host.Outcome State Fault Refusal :=
  done (runOp 0x0101 6 true false h (toLE 4 id ++ toLE 1 count ++ toLE 1 bank) (s.begin t)
    (fun s => match idRow id (max 1 count) with
      | none => [(true, stBadId, 0)]
      | some r =>
        let bytes := if r.n = 0 then 1 + 48 else count * r.valueSize
        [(decide (1 ≤ count ∧ count ≤ 32 ∧ 48 < bytes) && !h.bulk, stBadLength, 0), (s.scrap, stLifecycle, 0),
         (decide (count = 0 ∨ 32 < count ∨ (r.n = 0 ∧ count ≠ 1)), stRange, 4), (decide (2 < bank), stRange, 5)])
    (fun _ s => match idRow id (max 1 count) with
      | none => ({ status := stBadId }, s)
      | some r =>
        let inst := id % 256
        let data := ((List.range count).map (fun j => valueBytes r (readParam s r (inst + j) bank))).flatten
        let size := if r.n = 0 then min data.length 65535 else r.valueSize
        if h.bulk then ({ status := stOk, body := toLE 2 size ++ toLE 2 0, bulk := some (data.take h.length) }, s)
        else (okRsp (toLE 2 size ++ toLE 2 0 ++ data), s)))

/-! ### PARAM_SET -/

/-- What a NOW parameter does at the write: `ax.lnk.enable` lets the link go or fall, `ax.fb.index_arm` arms the index
(R65, R194). Log 171 (DEDUCED). -/
def nowEffect (key inst : Nat) (v : Int) (s : State) : State :=
  match axisOf? inst with
  | none => s
  | some a =>
    if key = pAxLnkEnable then (if v = 0 then toDown a s else linkEnable a s)
    else if key = pAxFbIndexArm then s.modAxis a (fun x => { x with fb := { x.fb with indexArmed := decide (v = 1) } })
    else s

/-- One value of PARAM_SET; one written in the last 5 ns before the tile window opens acts from the frame of the next cycle (R9, R436,
R454, R610, R611). -/
def setOne (r : PRow) (inst : Nat) (v : List Int) (s : State) : State :=
  match r.app with
  | .now =>
    let s1 := if s.inGap ∧ s.cyc.liveHold.isNone then { s with cyc := { s.cyc with liveHold := some s.prm.live } } else s
    nowEffect r.key inst (v.headD 0) (s1.setLive r.key inst v)
  | .cycle =>
    if s.cyc.cycling then { s with prm := { s.prm with cyclePend := alPut (r.key * 256 + inst) v s.prm.cyclePend } }
    else s.setLive r.key inst v
  | .reset => { s with prm := { s.prm with resetStored := bankSet s.prm.resetStored r.key inst v } }
  | .commit | .ro => s

/-- A staged half of the PWM test pair whose GEN is that of the running pair (R119, R120). Log 107 (DEDUCED). -/
def testRange (s : State) (r : PRow) (vals : List (Nat × List Int)) : Option Nat :=
  if r.key = pAxPwmTestPeriod ∨ r.key = pAxPwmTestOn then
    vals.findIdx? (fun e => match axisOf? e.1 with
      | some a => decide ((s.ax a).mode = 6 ∧ fieldOf (e.2.headD 0).toNat 32 16 = (s.ax a).mod.pair.1)
      | none => false)
  else none

/-- STATE refusals of PARAM_SET by parameter (R118, R120, R436, R456, R463). -/
def setState (s : State) (r : PRow) (vals : List (Nat × List Int)) : Bool :=
  decide (r.app = .commit ∨ r.app = .ro) ||
    (decide (r.key = pAxLnkEnable) && vals.any (fun e => decide (e.2.headD 0 = 0) &&
      (match axisOf? e.1 with | some a => (s.ax a).enabled || s.axisOn a | none => false))) ||
    (decide (r.key = pAxPwmTestPeriod ∨ r.key = pAxPwmTestOn) && vals.any (fun e =>
      match axisOf? e.1 with | some a => decide ((s.ax a).mode ≠ 6) | none => false))

/-- PARAM_SET (R9, R434, R436, R451, R454, R460, R463, R611). -/
def execParamSet (t : Nat) (h : Hdr) (id count : Nat) (vals : List Byte) (s : State) : Host.Outcome State Fault Refusal :=
  done (runOp 0x0102 8 true false h (toLE 4 id ++ toLE 1 count ++ toLE 3 0 ++ vals) (s.begin t)
    (fun s => match idRow id (max 1 count) with
      | none => [(true, stBadId, 0)]
      | some r =>
        let l := instVals r (id % 256) count vals
        [(decide (1 ≤ count ∧ count ≤ 32) && !valuesFit r 8 count h.length vals, stBadLength, 0), (s.scrap, stLifecycle, 0),
         (decide (count = 0 ∨ 32 < count), stRange, 4), ((badValue r count vals).isSome, stRange, (badValue r count vals).getD 0),
         ((testRange s r l).isSome, stRange, 8 + 8 * (testRange s r l).getD 0),
         (setState s r l, stState, 0), (decide (r.key / 256 = 0x07) && s.acq.armed, stBusy, 0)])
    (fun _ s => match idRow id (max 1 count) with
      | none => ({ status := stBadId }, s)
      | some r => (okRsp [], (instVals r (id % 256) count vals).foldl (fun s e => setOne r e.1 e.2 s) s)))

/-! ### TRACE_SETUP -/

/-- Value of a pair: its low bytes, in the parameter's type. -/
def pairVal (r : PRow) (v : Nat) : List Int := elemsOf r (toLE 8 (v : Int)) 1

/-- The row of a pair, if it is a parameter of class acq. -/
def pairRow (id : Nat) : Option PRow := if id / 65536 = 0x07 then idRow id 1 else none

/-- TRACE_SETUP: its pairs as one PARAM_SET (R438, R451, R460). -/
def execTraceSetup (t : Nat) (h : Hdr) (pairs : List (Nat × Nat)) (s : State) : Host.Outcome State Fault Refusal :=
  let pay := (pairs.map (fun p => toLE 4 (p.1 : Int) ++ toLE 8 (p.2 : Int))).flatten
  done (runOp 0x0501 1 true true h pay (s.begin t)
    (fun s =>
      let badId := pairs.findIdx? (fun p => (pairRow p.1).isNone)
      let badVal := pairs.findIdx? (fun p => match pairRow p.1 with
        | some r => (firstBad r 0 (pairVal r p.2)).isSome || decide (2 ^ (8 * r.sz) ≤ p.2 ∧ ¬ r.signed)
        | none => false)
      [(badId.isSome, stBadId, 12 * badId.getD 0), (decide (h.length ≠ 12 * pairs.length), stBadLength, 0), (s.scrap, stLifecycle, 0),
       (badVal.isSome, stRange, 12 * badVal.getD 0 + 4), (s.acq.armed, stBusy, 0)])
    (fun _ s => (okRsp [], pairs.foldl (fun s p => match pairRow p.1 with
      | some r => setOne r (p.1 % 256) (pairVal r p.2) s
      | none => s) s)))

/-! ### PARAM_STAGE -/

def State.setUnder (s : State) (key inst : Nat) (v : List Int) : State :=
  { s with prm := { s.prm with undercoat := bankSet s.prm.undercoat key inst v } }

/-- Bytes of the object that a segment continues. -/
def State.segOf (s : State) (id : Nat) : List Byte := alGet [] id s.prm.segs

/-- A segment of an object: offset 0 starts afresh, the last one completes it (R435). -/
def stageSegment (h : Hdr) (id ofs : Nat) (vals : List Byte) (s : State) : State :=
  let obj : List Byte := (if ofs = 0 then [] else s.segOf id) ++ vals
  if h.more then { s with prm := { s.prm with segs := alPut id obj s.prm.segs } }
  else
    ({ s with prm := { s.prm with segs := alDel id s.prm.segs } }).setUnder (id / 256) (id % 256)
      (obj.map (fun (b : Byte) => (b.toNat : Int)))

/-- Bytes that `cyc.cb_image` may hold (R337). -/
def cbImageMax : Nat := 73728

/-- PARAM_STAGE (R320, R434, R435, R436, R442, R450, R451, R455). A Bulk object travels in the bulk area alone. A segment out of order, or one that passes the limit of the object, is refused
and discards the object. -/
def execParamStage (t : Nat) (h : Hdr) (id count ofs : Nat) (vals : List Byte) (s : State) : Host.Outcome State Fault Refusal :=
  let image := decide (id / 256 = pCycCbImage)
  let pay := toLE 4 id ++ toLE 1 count ++ toLE 3 0 ++ (if image then toLE 4 ofs else []) ++ vals
  let outOf := fun (s : State) => image && decide ((ofs ≠ 0 ∧ ofs ≠ (s.segOf id).length) ∨ cbImageMax < ofs + vals.length)
  let s0 := s.begin t
  let r := runOp 0x0103 8 true false h pay s0
    (fun s => match idRow id (max 1 count) with
      | none => [(true, stBadId, 0)]
      | some r =>
        [(decide (1 ≤ count ∧ count ≤ 32) && !valuesFit r 8 count h.length vals, stBadLength, 0), (decide (r.n = 0) && !h.bulk, stBadLength, 0),
         (s.scrap, stLifecycle, 0), (image && decide (s.life.lc ≠ 1), stLifecycle, 0), (decide (count = 0 ∨ 32 < count ∨ (r.n = 0 ∧ count ≠ 1)), stRange, 4),
         (outOf s, stRange, 8), ((badValue r count vals).isSome, stRange, (badValue r count vals).getD 0),
         (decide (r.app ≠ .commit), stState, 0), (s.prm.pend.isSome || s.prm.frozen, stBusy, 0)])
    (fun _ s => match idRow id (max 1 count) with
      | none => ({ status := stBadId }, s)
      | some r =>
        if image then (okRsp [], stageSegment h id ofs vals s)
        else (okRsp [], (instVals r (id % 256) count vals).foldl (fun s e => s.setUnder r.key e.1 e.2) s))
  let runs := s0.canTake h && s0.isLocal h && lengthOk h 8 true false
  done (if runs ∧ outOf s0 ∧ s0.life.lc = 1 then { r with prm := { r.prm with segs := alDel id r.prm.segs } } else r)

/-! ### CHECK and DISCARD -/

/-- CHECK evaluates the undercoat and changes nothing (R440, R464). -/
def execCheck (t : Nat) (h : Hdr) (s : State) : Host.Outcome State Fault Refusal :=
  done (runOp 0x0110 0 false false h [] (s.begin t)
    (fun s => [(s.scrap, stLifecycle, 0)])
    (fun _ s => (match checkBank s s.prm.undercoat with | some f => failRsp f | none => okRsp [], s)))

/-- DISCARD: the undercoat becomes the topcoat again (R438, R442, R455). -/
def execDiscard (t : Nat) (h : Hdr) (s : State) : Host.Outcome State Fault Refusal :=
  done (runOp 0x0112 0 false false h [] (s.begin t)
    (fun s => [(s.scrap, stLifecycle, 0), (s.prm.pend.isSome || s.prm.frozen, stBusy, 0)])
    (fun _ s => (okRsp [], { s with prm := { s.prm with undercoat := s.prm.topcoat, segs := [] } })))

/-! ### What an APPLY changes when it takes effect -/

/-- An instance of a parameter differs between two banks. -/
def bankDiff (a b : Bank) (key inst : Nat) : Bool := decide (bankGet a key inst ≠ bankGet b key inst)

/-- Nominal `ax.mot` values that changed reset the estimates, the parameters in use and P; a changed nominal inertia those of
the inertia (R152, R153, R175). -/
def nominalReset (old : Bank) (a : AxisId) (s : State) : State :=
  let b := s.prm.topcoat
  let mot := [pAxMotRes, pAxMotLD, pAxMotLQ, pAxMotFlux].any (fun k => bankDiff old b k a.val)
  let jn := bankDiff old b pAxVelInertia a.val || mot
  let s1 := if mot then s.modAxis a (fun x => { x with cur := { x.cur with id :=
    { x.cur.id with est := s.nominal a, used := s.nominal a, p := [] } } }) else s
  if jn then s1.modAxis a (fun x => { x with vel := { x.vel with jEst := s.jNom a, jUsed := s.jNom a, jP := [], jB := 0 } }) else s1

/-- A change of the feedback source clears REFERENCED (R259). -/
def referenceReset (old : Bank) (a : AxisId) (s : State) : State :=
  if [pAxFbKind, pAxFbLines, pAxFbLinesDen, pAxFbDir].any (fun k => bankDiff old s.prm.topcoat k a.val) then
    s.modAxis a (fun x => { x with home := { x.home with referenced := false } })
  else s

/-- The custom-block image in force and the initial data of the blocks that an axis selects (R320, R321). Log 114 (DEDUCED). -/
def installBlocks (s : State) : State :=
  let img := (s.par pCycCbImage 0).map (fun x => BitVec.ofInt 8 x)
  let blocks := if img.isEmpty then [] else cbBlocks img
  let prog := if img.isEmpty then [] else (List.range (cbHeader img).2.1).map (fun j => cbCode img (0x2000 + j))
  let s1 := { s with tiles := { s.tiles with image := img, prog := prog, absent := s.tiles.absent && img.isEmpty } }
  forAxes allAxes (fun a s =>
    (selected s.prm.topcoat a.val).foldl (fun s p => match blocks[p.2]? with
      | some b => s.modAxis a (fun x => { x with priv :=
          ((List.range b.stWords).zip (cbInit img b)).foldl (fun l e => alSet 0 (b.stOfs + e.1) e.2 l) x.priv })
      | none => s) s) s1

/-- Causeway ports that the topcoat disables are DOWN (R339). -/
def portsOff (s : State) : State :=
  allPorts.foldl (fun s p => if s.p1 pFabPortEnable p.val = 0 ∧ (s.port p).st ≠ 0 then portConditionsEnd p (s.port p) (dropPort p s) else s) s

/-- The FAB domain follows `fab.port[p].enable` (R15): off, the node is OFF; on again, it listens (R366, R369).
Log 116 (DEDUCED). -/
def fabDomain (s : State) : State :=
  let any := allPorts.any (fun p => decide (s.p1 pFabPortEnable p.val ≠ 0))
  if ¬ any ∧ s.domOn .fab then (s.setDom .fab false).modFab (fun f => { f with st := 0, rho := 0, corr := 0, leader := false, ttNow := 0xF })
  else if any ∧ ¬ s.domOn .fab ∧ s.domOn .sup ∧ ¬ s.power.lost.contains 10 then
    (s.setDom .fab true).modFab (fun f => { f with st := 1, ftValid := false, listenSince := some s.time.lt, heard := none })
  else s

/-- A new fabric cycle length numbers the cycles anew: the cycle in progress is the whole number of cycles in FT (R361).
Log 117 (DEDUCED). -/
def renumber (s : State) : State :=
  let cyc : Int := max 1 s.cycleNs
  { s with time := { s.time with anchors := s.time.anchors.map (fun (a : Anchor) => { a with n := (a.f / (cyc * 65536)).toNat }) } }

/-- This node takes part in the choice of the NT source (R386). -/
def State.ntCandidate (s : State) : Bool :=
  (decide (s.p1 pTimeNtSource 0 = 1) && decide (s.time.portState = 9)) ||
    (decide (s.p1 pTimeNtSource 0 = 2) && s.time.ppsiOk)

/-- The PTP port goes on and off with `time.ptp_mode`; on, and with another mode or domain, it starts in LISTENING (R391, R404). A node that
no longer takes part is not the NT source (R386). Log 263 (DEDUCED). -/
def ptpMode (old : Bank) (s : State) : State :=
  let s1 :=
    if s.p1 pTimePtpMode 0 = 0 then { s with time := { s.time with portState := 0, master := none, ptpSync := none, ptpReq := none, ptpPath := 0 } }
    else if s.time.portState = 0 ∨ bankDiff old s.prm.topcoat pTimePtpMode 0 ∨ bankDiff old s.prm.topcoat pTimePtpDomain 0 then
      { s with time := { s.time with portState := 4, master := none, ptpSync := none, ptpReq := none, ptpPath := 0, lastSync := some s.time.lt } }
    else s
  { s1 with time := { s1.time with isSource := s1.time.isSource && s1.ntCandidate } }

/-- Timed outputs whose mode is off are low, and a program runs in mode 1 alone; PPSO that is off is low (R397, R401). -/
def timedPads (s : State) : State :=
  let s1 := (List.finRange 4).foldl (fun s i => s.modTq i (fun c =>
    let m := s.p1 pTimeTqMode i.val
    if m = 0 then { c with prog := none, pulseEnd := none, pad := false } else if m = 1 then c else { c with prog := none })) s
  if s.p1 pTimePpsOut 0 = 0 then { s1 with time := { s1.time with ppso := false, ppsoEnd := none } } else s1

/-- A changed source or origin of a tide starts its state and its records anew (R285, R297). -/
def tideSources (old : Bank) (s : State) : State :=
  (List.finRange 4).foldl (fun s i =>
    if bankDiff old s.prm.topcoat pTideSource i.val ∨ bankDiff old s.prm.topcoat pTideOriginNode i.val then
      ((s.modTide i (fun x => { x with st := 0, diverged := 0, agreed := false, fetched := none, adopt := false, rec_ := none, next := none
                                       recOld := none, seqRx := none, noRec := 0 })).clearCond fTideStale (0x40 + i.val)).clearCond
        fTideDiverged (0x40 + i.val)
    else s) s

/-- APPLY takes effect in fabric cycle `n`, control cycle `k`: the whole undercoat becomes the topcoat (R441).
Log 112 (DEDUCED). -/
def applyTake (n k : Nat) (s : State) : State :=
  match s.prm.pend with
  | none => s
  | some p =>
    let old := s.prm.topcoat
    let fabCyc := s.differs pFabCycleNs 0
    let map := formMap s s.prm.undercoat
    let gen : Nat := (s.prm.applyGen + 1) % 2 ^ 32
    let s1 := { s with prm := { s.prm with topcoat := s.prm.undercoat, topcoatValid := true, applyGen := gen, pend := none, frozen := false }
                       tiles := { s.tiles with map := map } }
    let s2 := installBlocks (forAxes allAxes (fun a s => referenceReset old a (nominalReset old a s)) s1)
    let s3 := (List.finRange 2).foldl (fun s c =>
      if [pCanMode, pCanRateNominal, pCanRateData, pCanSpNominal, pCanSpData, pCanObjects].any (fun key => bankDiff old s.prm.topcoat key c.val)
      then canConfigure c s else s) s2
    let s4 := emuSource (tideSources old (timedPads (ptpMode old (fabDomain (portsOff (if fabCyc then renumber s3 else s3))))))
    let s5 := if s4.cyc.cycling then refreshTiles s4 else tileDomains s4
    let res := toLE 4 (gen : Int) ++ toLE 4 (n : Int) ++ toLE 2 (k : Int)
    let s6 := s5.postEvent 0x8020 p.tag 0xFF res
    match p.persist, p.req with
    | true, some q => { s6 with prm := { s6.prm with persist := some q, persistSet := s6.prm.topcoat, persistResult := (gen, n, k) } }
    | _, _ => s6.finish? p.req (okRsp res)

/-! ### APPLY -/

/-- The undercoat passes CHECK and no state refusal stands against it (R440, R465). -/
def State.applyOk (s : State) : Bool := (checkBank s s.prm.undercoat).isNone && !s.applyState

/-- The APPLY places axes on the tile of a running replay (R559). -/
def State.replayClash (s : State) : Bool :=
  match s.rcd.replay with
  | some r => ((formMap s s.prm.undercoat).getD r.tile.val []).any (fun x => decide (x ≠ 255))
  | none => false

/-- START payload (log 71): kind 0 switch, 1 apply, 2 load; 0 request, 1 commit, 2 cancel; timetable; origin; N; tag; persist;
offset; map of acknowledgements; data. -/
def startPayload (kind commit tt origin n tag persist ofs map : Nat) (data : List Byte) : List Byte :=
  toLE 1 (kind : Int) ++ toLE 1 (commit : Int) ++ toLE 1 (tt : Int) ++ toLE 1 (origin : Int) ++ toLE 4 (n : Int) ++ toLE 2 (tag : Int) ++
    toLE 1 (persist : Int) ++ [0] ++ toLE 4 (ofs : Int) ++ toLE 32 (map : Int) ++ data

/-- Send a startup frame of this node round the circuit; false when no port leads anywhere. -/
def sendStartup (type : Nat) (payload : List Byte) (s : State) : Bool × State :=
  match s.launchPort s.startOk with
  | some p => (true, s.sendFab p (sealFrame (frameHead type 0 0xFF s.fab.addr 0 (s.fabN % 2 ^ 32) 0 payload) false))
  | none => (false, s)

/-- The node's own bit of an acknowledgement map. -/
def State.ownBit (s : State) : Nat := 2 ^ s.fab.addr

/-- A fabric-wide apply that waits: the undercoat is frozen (R443). -/
def pendFabric (q : Option ReqRef) (persist : Bool) (n origin tag : Nat) (ack : Bool) (s : State) : State :=
  let p : PendApply := { req := q, persist := persist, fabric := true, n := n, prepared := false, origin := origin, tag := tag, members := []
                         acked := if ack then [s.fab.addr] else [], ownAck := ack, decision := 0 }
  { s with prm := { s.prm with pend := some p, frozen := true } }

/-- APPLY (R441-R443, R465, R611). With WHEN 1 the origin runs its CHECK on acceptance, as a member of its own (R443). Log 108 (DEDUCED). Log 109 (DEDUCED). Log 111 (DEDUCED). Log 113 (DEDUCED). Log 115 (DEDUCED). -/
def execApply (t : Nat) (h : Hdr) (when_ n : Nat) (s : State) : Host.Outcome State Fault Refusal :=
  done (runOp 0x0111 8 false false h (toLE 1 when_ ++ toLE 3 0 ++ toLE 4 n) (s.begin t)
    (fun s =>
      let ahead := extendN s.fabN n - s.fabN
      let chk := decide (when_ ≠ 1) && (checkBank s s.prm.undercoat).isSome
      [(s.scrap, stLifecycle, 0), (decide (1 < when_), stRange, 0),
       (decide (when_ = 1 ∧ (ahead < 17 ∨ 2 ^ 31 < ahead)), stRange, 4),
       (decide (when_ = 1 ∧ s.startupMode ∧ s.fab.st ≠ 4), stState, 0),
       ((checkBank s s.prm.undercoat).isNone && s.applyState, stState, 0),
       (!chk && (s.prm.pend.isSome || s.prm.frozen || (h.persist && s.prm.persist.isSome) || s.replayClash), stBusy, 0)])
    (fun q s =>
      if when_ = 1 then
        let ok := (checkBank s s.prm.undercoat).isNone
        let at_ := (extendN s.fabN n).toNat
        let s1 := pendFabric (some q) h.persist at_ s.fab.addr h.tag ok s
        if s.startupMode then
          let (sent, s2) := sendStartup 0x24
            (startPayload 1 0 0xFF s.fab.addr (at_ % 2 ^ 32) h.tag 0 0 (if ok then s.ownBit else 0) []) s1
          ({ status := stPending },
           if sent then s2 else { s2 with prm := { s2.prm with pend := s2.prm.pend.map (fun p =>
             { p with members := [s.fab.addr], decision := if ok then 1 else 2 }) } })
        else ({ status := stPending }, s1)
      else match checkBank s s.prm.undercoat with
      | some f => (failRsp f, s)
      | none =>
        let p : PendApply := { req := some q, persist := h.persist, fabric := false, n := 0, prepared := false, origin := s.fab.addr
                               tag := h.tag, members := [], acked := [], ownAck := false, decision := 0 }
        let s1 := { s with prm := { s.prm with pend := some p }
                           cyc := { s.cyc with stopDue := s.cyc.stopDue || (s.cyc.cycling && s.stopsCycling) } }
        ({ status := stPending }, if s.cyc.cycling then s1 else tileDomains s1)))

/-- APPLY_PREPARED: the coefficients are formed and the tiles that the APPLY places axes on are in regulation (R17); a module that does not cycle applies at once (R441, R611). -/
def execApplyPrepared (t : Nat) (s : State) : Host.Outcome State Fault Refusal :=
  let s := s.begin t
  match s.prm.pend with
  | some p =>
    if p.prepared ∨ ¬ s.tilesPowered then done s
    else
      let s1 := { s with prm := { s.prm with pend := some { p with prepared := true, n := if p.fabric then p.n else s.time.lt } } }
      if ¬ p.fabric ∧ ¬ s.cyc.cycling then done (applyTake s.fabN 0 s1) else done s1
  | none => done s

/-- APPLY_TAKE_EFFECT: the first position cycle that starts after the preparation (R441), or at once without cycling (R611). -/
def execApplyTakeEffect (t : Nat) (s : State) : Host.Outcome State Fault Refusal :=
  let s := s.begin t
  match s.prm.pend with
  | some p =>
    if p.fabric ∨ ¬ p.prepared then done s
    else if ¬ s.cyc.cycling then done (applyTake s.fabN 0 s)
    else if s.cyc.posCyc ∧ ¬ s.cyc.opened ∧ s.ftOf p.n ≤ s.cyc.start then done (applyTake s.cyc.n s.cyc.k s)
    else done s
  | none => done s

/-- The bytes of the custom-block image of a bank (R320). -/
def bankImage (b : Bank) : List Byte := (bankGet b pCycCbImage 0).map (fun x => BitVec.ofInt 8 x)

/-- APPLY_PERSIST_DONE: the store of the topcoat that took effect ends (R14, R320, R441, R457). -/
def execApplyPersistDone (t : Nat) (ok : Bool) (s : State) : Host.Outcome State Fault Refusal :=
  let s := s.begin t
  match s.prm.persist with
  | some q =>
    let set := s.prm.persistSet
    let s1 := { s with prm := { s.prm with persist := none, persistSet := [] } }
    let (gen, n, k) := s.prm.persistResult
    if ok then
      done (({ s1 with prm := { s1.prm with stored := some set }, tiles := { s1.tiles with storedImage := bankImage set } }).finish q
        (okRsp (toLE 4 (gen : Int) ++ toLE 4 (n : Int) ++ toLE 2 (k : Int))))
    else done ((s1.finish q { status := stTimeout }).raise fFlashStore 0xFF)
  | none => done s

/-! ### APPLY at a fabric cycle -/

/-- FABRIC_APPLY_DECISION: at N - 8 the origin decides by the acknowledgements of its members (R277, R443). In startup mode the
returned START frame has decided. -/
def execFabricApplyDecision (t : Nat) (s : State) : Host.Outcome State Fault Refusal :=
  let s := s.begin t
  match s.prm.pend with
  | some p =>
    if p.fabric ∧ p.origin = s.fab.addr ∧ p.decision = 0 ∧ p.n ≤ s.fabN + 8 ∧ ¬ s.startupMode then
      let all := !p.members.isEmpty && p.members.all (fun a => p.acked.contains a)
      done { s with prm := { s.prm with pend := some { p with decision := if all then 1 else 2 } } }
    else done s
  | none => done s

/-- The apply is cancelled on this node: it unfreezes and keeps its topcoat (R444). -/
def applyCancel (p : PendApply) (s : State) : State :=
  let s1 := { s with prm := { s.prm with pend := none, frozen := false } }
  let lost := (sortBy id (p.members.filter (fun a => !p.acked.contains a))).headD 0
  (s1.postEvent 0x8021 p.tag 0xFF (toLE 1 (p.origin : Int) ++ toLE 3 0 ++ toLE 4 (p.n : Int))).finish? p.req
    { status := stTimeout, detail := lost }

/-- FABRIC_APPLY_SWITCH: at S(N) every member with COMMIT applies its own undercoat; where the APPLY stops cycling, once the cycle in
progress at S(N) has ended (R50, R443, R444, R611). -/
def execFabricApplySwitch (t : Nat) (s : State) : Host.Outcome State Fault Refusal :=
  let s := s.begin t
  match s.prm.pend with
  | some p =>
    if ¬ p.fabric ∨ s.fabN < p.n then done s
    else if p.decision = 1 ∧ p.ownAck then
      if s.cyc.cycling ∧ s.stopsCycling then done s
      else done (applyTake s.fabN (if s.cyc.cycling ∧ s.cyc.n = s.fabN then s.cyc.k else 0) s)
    else if p.decision = 2 ∨ p.origin = s.fab.addr then done (applyCancel p s)
    else
      let s1 := { s with prm := { s.prm with pend := none, frozen := false } }
      done (if p.ownAck then s1.raise fApplyUndecided 0xFF else s1)
  | none => done s

/-- A request of another origin reaches this node: it freezes and acknowledges if its own CHECK passes. Of two origins the lower
address goes on, at the other origin and at every member (R443, R444). Log 265 (DEDUCED). -/
def applyRequest (origin tag n : Nat) (s : State) : State :=
  let member := fun (s : State) => pendFabric none false n origin tag s.applyOk s
  match s.prm.pend with
  | none => if s.prm.frozen then s else member s
  | some p =>
    if p.fabric ∧ p.decision = 0 ∧ origin < p.origin then
      member (({ s with prm := { s.prm with pend := none, frozen := false } }).finish? p.req { status := stBusy })
    else s

/-- The decision of the origin reaches a member (R443, R444). -/
def applyDecide (origin tag n decision : Nat) (s : State) : State :=
  match s.prm.pend with
  | some p =>
    if p.fabric ∧ p.origin = origin ∧ p.tag = tag ∧ p.n % 2 ^ 32 = n % 2 ^ 32 ∧ origin ≠ s.fab.addr ∧ p.decision = 0 then
      if decision = 2 then applyCancel p s
      else { s with prm := { s.prm with pend := some { p with decision := 1 } } }
    else s
  | none => s

/-- A member's acknowledgement reaches the origin up to N - 9 (R443). Log 110 (DEDUCED). -/
def applyAcked (addr tag n : Nat) (s : State) : State :=
  match s.prm.pend with
  | some p =>
    if p.fabric ∧ p.origin = s.fab.addr ∧ p.tag = tag ∧ p.n % 2 ^ 32 = n % 2 ^ 32 ∧ p.decision = 0 ∧ s.fabN + 9 ≤ p.n ∧ ¬ p.acked.contains addr then
      { s with prm := { s.prm with pend := some { p with acked := p.acked ++ [addr] } } }
    else s
  | none => s

end Sys2Proof.Machine
end

