-- ==== Sys2Proof/Machine/Sync.lean ====
section
/-! DEFINITION. The sync berth's payload and what a node takes from the payloads of others (12_causeway.md, R355-R360; 10_tides.md,
R277-R280; 14_host_mailbox.md, R443), and loading and switching timetables (R353-R359). -/

namespace Sys2Proof.Machine

/-! ### Payload (R360) -/

/-- The fields of one tide. -/
def tideFields (s : State) (i : TideId) : List Byte :=
  let x := s.tides.get i
  let src := s.pn pTideSource i.val
  let kind := if src = 0 then 0 else if src = 1 then 1 else 2
  let (code, chg) : Nat × Nat := match x.pend with
    | some c =>
      if c.origin ∧ c.decision ≠ 0 then (c.decision + 1, c.n % 2 ^ 32)
      else if c.ownAck then (1, c.crc) else (0, 0)
    | none => (0, 0)
  let (gen, crc) : Nat × Nat := match x.defn with | some d => (d.gen, d.crc) | none => (0, 0)
  toLE 2 ((packBits [(8, s.pn pTideOriginNode i.val), (2, kind), (3, code)] : Nat) : Int) ++ toLE 2 0 ++ toLE 4 (gen : Int) ++
    toLE 4 (crc : Int) ++ toLE 4 (chg : Int)

/-- APPLY_CODE, APPLY_ORIGIN, APPLY_TAG and APPLY_N: the origin's request up to N - 9 and then its decision, a member's ACK up to
N - 9 (R443). -/
def applyFields (s : State) : Nat × Nat × Nat × Nat :=
  match s.prm.pend with
  | some p =>
    let early := decide (s.fabN + 9 ≤ p.n)
    let code :=
      if ¬ p.fabric then 0
      else if p.origin = s.fab.addr then (if p.decision ≠ 0 then p.decision + 2 else if early ∧ ¬ p.members.isEmpty then 1 else 0)
      else if p.ownAck ∧ early then 2 else 0
    if code = 0 then (0, 0, 0, 0) else (code, p.origin, p.tag, p.n % 2 ^ 32)
  | none => (0, 0, 0, 0)

/-- TT_REQ as the berth carries it in cycle N of the request; startup mode is 0x0F (log 73). -/
def State.ttReqNow (s : State) : Nat × Nat :=
  match s.fab.ttReq with
  | some (tt, n) => if s.fabN = n then (tt, n % 2 ^ 32) else (0xFF, 0)
  | none => (0xFF, 0)

/-- TT_ACK in cycle N + 1. -/
def State.ttAckNow (s : State) : Nat :=
  match s.fab.ttPend, s.fab.ttAck with
  | some p, some tt => if ¬ p.startup ∧ s.fabN = p.n + 1 then tt else 0xFF
  | _, _ => 0xFF

/-- TT_LOADED. -/
def State.ttLoaded (s : State) : Nat := natSum ((List.range 8).map (fun i => if (s.table i).isSome then 2 ^ i else 0))

/-- SFLAGS: SYNCED in STARTUP and RUN; COLDSTARTER where the node may start the fabric (log 74). -/
def syncFlags (s : State) : Nat :=
  packBits [(1, b2n (decide (s.fab.st = 4 ∨ s.fab.st = 5))), (1, b2n (decide (s.p1 pModColdstartAllowed 0 = 1))), (1, b2n s.isHarbour),
    (1, b2n (allAxes.any (fun a => (s.ax a).enabled))), (1, b2n s.cyc.cycling)]

/-- The 96 bytes of this node's SYNC payload (R360). -/
def syncPayload (s : State) : List Byte :=
  let (req, reqN) := s.ttReqNow
  let (code, origin, tag, n) := applyFields s
  let crc : Nat := if s.startupMode then 0 else match s.fab.tables.find? (fun e => decide (e.1 = s.fab.ttNow)) with
    | some e => e.2.crc
    | none => 0
  toLE 1 (s.fab.st : Int) ++ toLE 1 (syncFlags s : Int) ++ toLE 1 (s.fab.ttNow : Int) ++ toLE 1 (req : Int) ++ toLE 4 (reqN : Int) ++
    toLE 1 (s.ttAckNow : Int) ++ toLE 1 (s.ttLoaded : Int) ++ toLE 2 0 ++ toLE 4 (crc : Int) ++
    toLE 1 (code : Int) ++ toLE 1 (origin : Int) ++ toLE 2 (tag : Int) ++ toLE 4 (n : Int) ++
    ((List.finRange 4).map (tideFields s)).flatten ++
    toLE 4 (satS 32 (shrHalfUp (s.fab.mid.getD 0) 8)) ++ toLE 4 (satS 32 (shrHalfUp (s.fab.rho * 10 ^ 12) 48))

/-! ### What a node takes from a payload -/

/-- The node whose timetable decides: that of the discovery in force, else the one that reports HARBOUR (R359). -/
def State.fromHarbour (s : State) (addr : Nat) (p : List Byte) : Bool :=
  match s.fab.harbourAddr with
  | some h => decide (h = addr)
  | none => bitOf (getU p 1 1) 2

/-- The tide fields: acknowledgements up to N - 9 at the origin, the decision at a member (R277). -/
def syncTide (addr : Nat) (p : List Byte) (i : TideId) (s : State) : State :=
  let ctrl := getU p (24 + 16 * i.val) 2
  let code := fieldOf ctrl 10 3
  let chg := getU p (36 + 16 * i.val) 4
  match (s.tides.get i).pend with
  | some c =>
    if c.origin then
      if code = 1 ∧ chg = c.crc ∧ c.decision = 0 ∧ s.fabN + 9 ≤ c.n ∧ ¬ c.acked.contains addr then
        s.modTide i (fun x => { x with pend := some { c with acked := c.acked ++ [addr] } })
      else s
    else if s.pn pTideOriginNode i.val = addr ∧ (code = 2 ∨ code = 3) ∧ chg = c.n % 2 ^ 32 ∧ c.decision = 0 then
      s.modTide i (fun x => { x with pend := some { c with decision := code - 1 } })
    else s
  | none => s

/-- The APPLY fields (R443). -/
def syncApply (addr : Nat) (p : List Byte) (s : State) : State :=
  let code := getU p 16 1
  let origin := getU p 17 1
  let tag := getU p 18 2
  let n := getU p 20 4
  if code = 1 ∧ origin = addr then
    let at_ := (extendN s.fabN n).toNat
    if s.fabN + 9 ≤ at_ then applyRequest origin tag at_ s else s
  else if code = 2 ∧ origin = s.fab.addr then applyAcked addr tag n s
  else if (code = 3 ∨ code = 4) ∧ origin = addr then applyDecide origin tag n (code - 2) s
  else s

/-- The timetable fields: a request of the harbour node, an acknowledgement in N + 1, and the harbour's TT_NOW (R357, R359). -/
def syncTable (addr : Nat) (p : List Byte) (s : State) : State :=
  let harbour := s.fromHarbour addr p
  let req := getU p 3 1
  let ack := getU p 8 1
  let now := getU p 2 1
  let s1 :=
    if harbour ∧ req ≠ 0xFF ∧ s.fab.ttPend.isNone ∧ getU p 4 4 = s.fabN % 2 ^ 32 then
      { s with fab := { s.fab with ttPend := some { tt := req, n := s.fabN, members := [], acked := [], req := none, commit := false, startup := false, own := false } } }
    else s
  let s2 := match s1.fab.ttPend with
    | some t =>
      if ¬ t.startup ∧ ack = t.tt ∧ s.fabN = t.n + 1 ∧ ¬ t.acked.contains addr then
        { s1 with fab := { s1.fab with ttPend := some { t with acked := t.acked ++ [addr] } } }
      else s1
    | none => s1
  if harbour ∧ now ≠ s.fab.ttNow then { s2 with fab := { s2.fab with ttFollow := some now } } else s2

/-- TT_LOADED of a node that has been sent the whole timetable (R355). -/
def syncLoaded (addr : Nat) (p : List Byte) (s : State) : State :=
  match s.fab.ttLoad with
  | some l =>
    let sending := s.fab.ferryOut.any (fun m => decide (m.kind = 5 ∧ m.peer = addr))
    if bitOf (getU p 9 1) l.tt ∧ ¬ sending ∧ ¬ l.acked.contains addr then
      { s with fab := { s.fab with ttLoad := some { l with acked := l.acked ++ [addr] } } }
    else s
  | none => s

/-- A sync payload of another node, as consumed in this cycle (R347, R360). -/
def takeSync (addr : Nat) (p : List Byte) (s : State) : State :=
  if addr = s.fab.addr then s
  else
    let s1 := { s with fab := { s.fab with rx := s.fab.rx ++ [⟨addr, p⟩] } }
    syncLoaded addr p (syncTable addr p (syncApply addr p ((List.finRange 4).foldl (fun s i => syncTide addr p i s) s1)))

/-! ### Timetables held -/

/-- The node holds a timetable from now on; with `persist` it stores it too (R14, R355). -/
def holdTable (body : List Byte) (persist : Bool) (s : State) : State :=
  let tt := getU body 0 1
  { s with fab := { s.fab with
      tables := alPut tt ⟨body, crc32 body⟩ s.fab.tables
      storedTables := if persist then alPut tt body s.fab.storedTables else s.fab.storedTables } }

/-! ### TIMETABLE_LOAD: the rules of R354 -/

/-- Links as the census found them: node index and port to node index and port. -/
structure NetLink where
  a : Nat
  pa : PortId
  b : Nat
  pb : PortId
  deriving DecidableEq, Repr

/-- The port of a discovered node is in the circuit. -/
def NodeInfo.usable (x : NodeInfo) (p : PortId) : Bool := decide (fieldOf x.ports (3 * p.val) 3 = 3)

/-- Ports of a node in the order in which its census left on them: after the parent port; at the harbour node ascending. -/
def outPorts (i : Nat) (x : NodeInfo) : List PortId :=
  if i = 0 then allPorts.filter x.usable else ((portsAfter (portOf x.parent)).take 3).filter x.usable

/-- Children of node i in visit order: the nodes one deeper before the next one that is no deeper. -/
def childrenOf (l : List NodeInfo) (i : Nat) : List Nat :=
  let d := (l.map NodeInfo.depth).getD i 0
  let rest := (List.range l.length).filter (fun j => decide (i < j))
  let own := rest.takeWhile (fun j => decide (d < (l.map NodeInfo.depth).getD j 0))
  own.filter (fun j => decide ((l.map NodeInfo.depth).getD j 0 = d + 1))

/-- The links of the discovered topology; of a ring the closing link leads from the last node to the harbour's last port. -/
def netLinks (l : List NodeInfo) (ring : Bool) : List NetLink :=
  let tree := ((List.range l.length).map (fun i => match l[i]? with
    | some x => ((outPorts i x).zip (childrenOf l i)).map (fun e =>
        ⟨i, e.1, e.2, portOf (match l[e.2]? with | some y => y.parent | none => 0)⟩)
    | none => [])).flatten
  match ring, l.getLast?, l.head? with
  | true, some z, some h =>
    match (outPorts (l.length - 1) z).getLast?, (outPorts 0 h).getLast? with
    | some p, some q => tree ++ [⟨l.length - 1, p, 0, q⟩]
    | _, _ => tree
  | _, _, _ => tree

/-- Other end of a port. -/
def netPeer (net : List NetLink) (i : Nat) (p : PortId) : Option (Nat × PortId) :=
  net.findSome? (fun k =>
    if k.a = i ∧ k.pa = p then some (k.b, k.pb) else if k.b = i ∧ k.pb = p then some (k.a, k.pa) else none)

/-- The directed links of a circuit from a node and port on, with the delay of each in 0.25 ns, until the circuit is back at
its first link (R344). -/
def netWalk (l : List NodeInfo) (net : List NetLink) : Nat → Nat × PortId → Nat × PortId → Bool → List (Nat × PortId × Nat)
  | 0, _, _, _ => []
  | k + 1, first, (i, p), started =>
    if started ∧ (i, p) = first then []
    else match netPeer net i p with
      | some (j, q) =>
        let delay := match l[i]? with | some x => x.delays.getD p.val 0 | none => 0
        let ok := fun (r : PortId) => (netPeer net j r).isSome
        (i, p, delay) :: netWalk l net k first (j, nextPort ok q) true
      | none => []

/-- Circuit of the frames that node i launches (R344). -/
def netCircuit (l : List NodeInfo) (net : List NetLink) (i : Nat) : List (Nat × PortId × Nat) :=
  let ok := fun (r : PortId) => (netPeer net i r).isSome
  let high := (allPorts.filter ok).getLast?
  let par := portOf (match l[i]? with | some x => x.parent | none => 0)
  let inn := if i ≠ 0 then high.map (fun _ => par) else high
  match inn with
  | some q => netWalk l net (2 * l.length + 2) (i, nextPort ok q) (i, nextPort ok q) false
  | none => []

/-- Occupancy intervals of a berth in units of 0.05 ns: link, start, end (R354 rule 4). -/
def berthIntervals (w : Int) (b : Berth) (c : List (Nat × PortId × Nat)) : List ((Nat × PortId) × Int × Int) :=
  let occ : Int := 64 * ((b.len : Int) + 27)
  let o : Int := 20 * (b.ofs : Int)
  ((c.foldl (fun (acc : List ((Nat × PortId) × Int × Int) × Int × Int) h =>
    let (out, lo, hi) := acc
    let d : Int := 5 * (h.2.2 : Int)
    (out ++ [((h.1, h.2.1), o + lo - w, o + hi + occ + w)], lo + d + 1216, hi + d + 1280)) ([], 0, 0)).1)

/-- The first berth whose interval meets an earlier berth's on a link, or reaches the link window. -/
def timingBad (w limit : Int) (l : List NodeInfo) (net : List NetLink) (berths : List Berth) : Option Nat :=
  let all := (List.range berths.length).map (fun i => match berths[i]? with
    | some b => berthIntervals w b (netCircuit l net (l.findIdx (fun x => decide (x.addr = b.owner))))
    | none => [])
  let meets := fun (x y : (Nat × PortId) × Int × Int) => decide (x.1 = y.1 ∧ x.2.1 < y.2.2 ∧ y.2.1 < x.2.2)
  (List.range berths.length).find? (fun i =>
    let mine := all.getD i []
    mine.any (fun x => decide (limit < x.2.2)) ||
      (List.range i).any (fun j => mine.any (fun x => (all.getD j []).any (meets x))) ||
      (List.range mine.length).any (fun a => (List.range a).any (fun b =>
        match mine[a]?, mine[b]? with | some x, some y => meets x y | _, _ => false)))

/-- Rule 2 for one berth. -/
def berthFieldsOk (body : List Byte) (cyc : Nat) (addrs : List Nat) (b : Berth) : Bool :=
  let slots := slotsOf body b
  let recs := b.sources.length
  let lenOk :=
    if b.kind = 1 then decide (b.len = 96)
    else if b.kind = 2 then decide (b.len = 32 * (recs + b.count))
    else if b.kind = 3 then decide (8 ≤ b.len ∧ b.len ≤ 8192)
    else decide (72 ≤ b.len ∧ b.len ≤ 8192)
  decide (1 ≤ b.kind ∧ b.kind ≤ 4 ∧ b.ofs < cyc ∧ b.len ≤ 8192 ∧ 8 ≤ b.len) && lenOk && addrs.contains b.owner && decide (b.first + b.count ≤ slotCount body) &&
    (decide (b.kind = 2) || decide (b.count = 0)) &&
    slots.all (fun k => decide (k.pos % 32 = 0 ∧ 32 * recs ≤ k.pos ∧ k.pos + 32 ≤ b.len) && addrs.contains k.node &&
      decide (k.source < 32 ∨ (0x40 ≤ k.source ∧ k.source ≤ 0x43)))

/-- SYNC berths of a timetable: offset, length and owner. -/
def syncBerths (body : List Byte) : List (Nat × Nat × Nat) :=
  ((berthsOf body).filter (fun b => decide (b.kind = 1))).map (fun b => (b.ofs, b.len, b.owner))

/-- The first rule of R354 that a timetable fails, with the berth; 0xFFFF names none. -/
def tableBad (s : State) (body : List Byte) : Option (Nat × Nat) :=
  let cyc := s.cycleNs
  let berths := berthsOf body
  let idx := List.range berths.length
  let addrs := s.fab.nodes.map NodeInfo.addr
  let shape := decide (getU body 0 1 ≤ 7 ∧ 1 ≤ berthCount body ∧ berthCount body ≤ 512 ∧ slotCount body ≤ 256 ∧ body.length = ttSize body)
  let owns := fun (k a : Nat) => (berths.filter (fun b => decide (b.kind = k ∧ b.owner = a))).length
  let others := (s.fab.tables.filter (fun e => decide (e.1 ≠ getU body 0 1))).map (fun e => e.2.body)
  if getU body 8 4 ≠ cyc ∨ getU body 12 4 ≠ s.fab.topoCrc ∨ s.fab.nodes.isEmpty then some (1, 0xFFFF)
  else if ¬ shape then some (2, 0xFFFF)
  else match idx.find? (fun i => match berths[i]? with | some b => !berthFieldsOk body cyc addrs b | none => true) with
    | some i => some (2, i)
    | none =>
      match idx.find? (fun i => match berths[i]? with | some b => decide (b.kind = 1) && decide (1 < owns 1 b.owner) | none => false) with
      | some i => some (3, i)
      | none =>
        if addrs.any (fun a => decide (owns 1 a ≠ 1 ∨ owns 4 a = 0)) ∨
            others.any (fun o => decide (sortBy (fun e => e.2.2) (syncBerths o) ≠ sortBy (fun e => e.2.2) (syncBerths body))) then some (3, 0xFFFF)
        else
          let w : Int := 20 * ((s.pn pFabPrecisionLimitNs 0 + 40 : Nat) : Int)
          let limit : Int := 20 * ((cyc : Int) - 2000)
          let net := netLinks s.fab.nodes s.fab.ringTable
          let nets := if s.fab.ringTable then net :: (List.range net.length).map (fun i => net.eraseIdx i) else [net]
          (nets.findSome? (fun n => timingBad w limit s.fab.nodes n berths)).map (fun i => (4, i))

/-! ### Distribution in startup mode -/

/-- Bytes of a timetable that one START frame carries. -/
def loadChunk : Nat := 8144

/-- The next START frame of a load; alone, the node has all the acknowledgements there are (R355, log 71). -/
def sendLoad (s : State) : State :=
  match s.fab.ttLoad with
  | some l =>
    let body := (s.table l.tt).getD []
    let part := (body.drop l.ofs).take loadChunk
    (sendStartup 0x24 (startPayload 2 0 l.tt s.fab.addr 0 0 (b2n l.persist) l.ofs s.ownBit part) s).2
  | none => s

/-- A timetable is accepted at the harbour node: it holds it and sends it to every other node (R355). -/
def distribute (body : List Byte) (persist : Bool) (q : Option ReqRef) (s : State) : State :=
  let tt := getU body 0 1
  let s1 := holdTable body persist s
  let l : TtLoad := { tt := tt, acked := [s.fab.addr], req := q, since := s.fabN, persist := persist }
  let s2 := { s1 with fab := { s1.fab with ttLoad := some l } }
  if s.startupMode then sendLoad s2
  else
    ((s.fab.nodes.map NodeInfo.addr).filter (fun a => decide (a ≠ s.fab.addr))).foldl (fun s a =>
      let (m, s) := s.nextMsg
      s.ferrySend a 5 m (body ++ [if persist then 1 else 0]) none (0, 0)) s2

/-- TIMETABLE_LOAD (R354, R355). Log 216 (DEDUCED). Log 217 (DEDUCED). -/
def execTimetableLoad (t : Nat) (h : Hdr) (body : List Byte) (s : State) : Host.Outcome State Fault Refusal :=
  done (runOp 0x0702 32 true true h body (s.begin t)
    (fun s => [(s.scrap, stLifecycle, 0), (!s.isHarbour, stState, 0), (decide (s.fab.st ≠ 4 ∧ s.fab.st ≠ 5), stState, 0),
               (s.fab.ttLoad.isSome && (tableBad s body).isNone, stBusy, 0)])
    (fun q s => match tableBad s body with
      | some (rule, berth) => ({ status := stCheckFailed, detail := rule, body := toLE 2 (berth : Int) }, s)
      | none => ({ status := stPending }, distribute body h.persist (some q) s)))

/-- TIMETABLE_LOAD_TIMEOUT: 256 fabric cycles without every report (R355). -/
def execTimetableLoadTimeout (t : Nat) (s : State) : Host.Outcome State Fault Refusal :=
  let s := s.begin t
  match s.fab.ttLoad with
  | some l =>
    if l.since + 256 ≤ s.fabN then
      done (({ s with fab := { s.fab with ttLoad := none } }).finish? l.req { status := stTimeout })
    else done s
  | none => done s

/-- TIMETABLE_REPEAT: the timetable in force as a broadcast, every 256 cycles while a discovered node's sync berth is missing (R355). -/
def execTimetableRepeat (t : Nat) (s : State) : Host.Outcome State Fault Refusal :=
  let s := s.begin t
  let gone := s.fab.nodes.any (fun n => !s.heardNodes.contains n.addr)
  if s.isHarbour ∧ s.fab.st = 5 ∧ gone ∧ s.fab.lastRepeat + 256 ≤ s.fabN then
    let (m, s1) := ({ s with fab := { s.fab with lastRepeat := s.fabN } }).nextMsg
    done (s1.ferrySend 0xFF 5 m (s.ttBody ++ [0]) none (0, 0))
  else done s

/-! ### Switching (R357-R359) -/

/-- A switch from startup mode begins: the START frame asks every node (R358). Alone, the node commits at once. -/
def startSwitch (tt : Nat) (q : Option ReqRef) (s : State) : State :=
  let n := s.fabN + 8
  let (sent, s1) := sendStartup 0x24 (startPayload 0 0 tt s.fab.addr (n % 2 ^ 32) 0 0 0 s.ownBit []) s
  { s1 with fab := { s1.fab with ttPend := some { tt := tt, n := n, members := [], acked := [], req := q, commit := !sent, startup := true, own := true } } }

/-- A node lacks the timetable: this one, or in RUN one that reports it so (R357). -/
def State.lacksTable (s : State) (tt : Nat) : Bool :=
  (s.table tt).isNone || (!s.startupMode && s.fab.rxPrev.any (fun r => !bitOf (getU r.payload 9 1) tt))

/-- A node reports ENABLED (R359). -/
def State.anyEnabled (s : State) : Bool :=
  allAxes.any (fun a => (s.ax a).enabled) || s.fab.rxPrev.any (fun r => bitOf (getU r.payload 1 1) 3)

/-- TIMETABLE_SWITCH (R357-R359); 0xFF is startup mode. -/
def execTimetableSwitch (t : Nat) (h : Hdr) (tt : Nat) (s : State) : Host.Outcome State Fault Refusal :=
  done (runOp 0x0703 1 false false h (toLE 1 (tt : Int)) (s.begin t)
    (fun s => [(s.scrap, stLifecycle, 0), (decide (7 < tt ∧ tt ≠ 0xFF), stRange, 0), (decide (tt ≤ 7) && s.lacksTable tt, stRange, 0),
               (!s.isHarbour || decide (s.fab.st ≠ 4 ∧ s.fab.st ≠ 5), stState, 0), (decide (tt = 0xFF) && s.anyEnabled, stState, 0),
               (s.fab.ttPend.isSome, stBusy, 0)])
    (fun q s =>
      let to_ := if tt = 0xFF then 0xF else tt
      if s.startupMode then
        if tt = 0xFF then (okRsp [], s) else ({ status := stPending }, startSwitch tt (some q) s)
      else
        let n := s.fabN + 1
        ({ status := stPending }, { s with fab := { s.fab with
          ttReq := some (to_, n)
          ttPend := some { tt := to_, n := n, members := [], acked := [], req := some q, commit := false, startup := false, own := true } } })))

/-- TIMETABLE_SWITCH_AT: at S(N + 2), or at S(N) of a committed START, the timetable changes; a switch without every
acknowledgement is abandoned (R357, R358). -/
def execTimetableSwitchAt (t : Nat) (s : State) : Host.Outcome State Fault Refusal :=
  let s := s.begin t
  match s.fab.ttPend with
  | none => done s
  | some p =>
    let due := if p.startup then p.n else p.n + 2
    if s.fabN < due then done s
    else
      let ok := if p.startup then p.commit
        else !p.members.isEmpty && p.members.all (fun a => p.acked.contains a)
      if ok then done ((setTimetable p.tt s).finish? p.req (okRsp []))
      else
        let s1 := { s with fab := { s.fab with ttPend := none, ttReq := none, ttAck := none } }
        done (if p.own then (s1.finish? p.req { status := stTimeout }).raise fTtAbandon 0xFF else s1)

/-- A load that every node reports ends; one without a request goes on to the switch of R352. Log 215 (DEDUCED). -/
def loadCheck (s : State) : State :=
  match s.fab.ttLoad with
  | some l =>
    if s.fab.nodes.all (fun x => l.acked.contains x.addr) then
      let s1 := ({ s with fab := { s.fab with ttLoad := none } }).finish? l.req (okRsp [])
      if l.req.isNone ∧ s.startupMode ∧ s.fab.ttPend.isNone then startSwitch l.tt none s1 else s1
    else s
  | none => s

end Sys2Proof.Machine
end

