-- ==== Sys2Proof/Machine/Startup.lean ====
section
/-! DEFINITION. Links, probes, coldstart, discovery, START frames and the start of a fabric cycle (12_causeway.md, R338-R352,
R358, R366-R371). -/

namespace Sys2Proof.Machine

/-! ### Ports (R339-R341) -/

/-- The FAB domain works and the node takes part: every state but OFF and STANDALONE (R366). -/
def State.fabLive (s : State) : Bool := s.domOn .fab && decide (s.fab.st ≠ 0 ∧ s.fab.st ≠ 7)

/-- PORT_LOCK: an enabled port whose receiver locks leaves DOWN, unless a record holds it there (R339, R467). -/
def execPortLock (t : Nat) (port : PortId) (s : State) : Host.Outcome State Fault Refusal :=
  let s := s.begin t
  if s.fabLive ∧ (s.port port).st = 0 ∧ s.p1 pFabPortEnable port.val = 1 ∧ ¬ s.unitMasked (0x68 + port.val) then
    done (s.modPort port (fun x => { ({} : Port) with st := 1, crcErrors := x.crcErrors, stomped := x.stomped, table := x.table }))
  else done s

/-- LINK_DOWN: lost lock, 32 code violations in 1 ms or 4 probe intervals without an accepted probe (R339, R371). -/
def execLinkDown (t : Nat) (port : PortId) (why : PortLoss) (s : State) : Host.Outcome State Fault Refusal :=
  let s := s.begin t
  let x := s.port port
  let due : Bool := match why with | .probes => decide (4 ≤ x.missed) | _ => true
  if x.st = 0 ∨ ¬ due then done s
  else
    let s1 := dropPort port s
    let s2 := if x.st = 3 then ({ s1 with fab := { s1.fab with ring := false } }).raise fLinkDown (0x68 + port.val) else s1
    done (portConditionsEnd port x s2)

/-- The discovered table makes this link BLOCKED: it marks it, names another neighbour, or, where the node holds one, does not know the
link (R339, R341). Log 257 (DEDUCED). -/
def State.tableBlocks (s : State) (x : Port) : Bool :=
  match x.table with
  | some (uid, blocked) => blocked || decide (uid ≠ x.nUid)
  | none => !s.fab.nodes.isEmpty

/-- A port becomes ACTIVE; a closed ring closes again when all its links are back (R341, R371). -/
def portActivate (p : PortId) (s : State) : State :=
  let s1 := (s.modPort p (fun x => { x with st := 3 })).clearCond fLinkDown (0x68 + p.val)
  let whole := allPorts.all (fun q => match (s1.port q).table with | some (_, b) => b || s1.portActive q | none => true)
  { s1 with fab := { s1.fab with ring := s1.fab.ringTable && whole } }

/-- Address that the table gives the neighbour. -/
def State.peerAddr (s : State) (p : PortId) : Nat :=
  match s.fab.nodes.find? (fun n => decide (n.uid = (s.port p).nUid)) with
  | some n => n.addr
  | none => 0xFF

/-- A stamp in probes, in ns; none is the most negative number (log 75). -/
def probeStamp (x : Option Int) : Int := match x with | some v => satS 64 (shrHalfUp v 16) | none => -(2 ^ 63)

/-- The 40 bytes of a probe's payload (R340). READY is set from UP on unless the table blocks the link (log 75). -/
def State.readyAt (s : State) (p : PortId) : Bool := decide ((s.port p).st = 2 ∨ (s.port p).st = 3) && !s.tableBlocks (s.port p)

def probePayload (s : State) (p : PortId) : List Byte :=
  let x := s.port p
  let flags := packBits [(1, b2n (s.readyAt p)), (1, b2n s.fab.ftValid), (1, b2n (decide (x.st = 3))),
    (1, b2n (decide (x.st = 4)))]
  toLE 8 (s.host.ident.uid : Int) ++ toLE 8 (probeStamp x.txStamp) ++ toLE 8 (probeStamp x.rxStamp) ++ toLE 8 (s.fab.leaderUid : Int) ++
    toLE 1 (flags : Int) ++ toLE 1 (s.fab.st : Int) ++ toLE 1 (s.fab.addr : Int) ++ toLE 1 (s.peerAddr p : Int) ++ toLE 4 0

/-- Marks of probes and COLDSTART frames among the frames launched in a cycle. -/
def probeMark (p : PortId) : Nat := 0x1000 + p.val
def coldMark : Nat := 0x2000

/-- PROBE_SEND: 200 ns after the start of the link window, or every 1 ms of LT without fabric time (R340). A ready port becomes
ACTIVE with that window (R341). -/
def execProbeSend (t : Nat) (port : PortId) (stamp : Nat) (s : State) : Host.Outcome State Fault Refusal :=
  let s := s.begin t
  let x := s.port port
  let due :=
    if s.fab.ftValid then !s.fab.launched.contains (probeMark port) && s.ftReached (s.fabN + 1) (-1800)
    else match x.probeAt with | some a => decide (a + 1000000 ≤ s.time.lt) | none => true
  if ¬ s.fabLive ∨ x.st = 0 ∨ ¬ due then done s
  else
    let s1 := if x.st = 2 ∧ x.ready ∧ ¬ s.tableBlocks x then portActivate port s else s
    let body := sealFrame (frameHead 0x20 0 0xFF s1.fab.addr 0 (s1.fabN % 2 ^ 32) 0 (probePayload s1 port)) false
    let s2 := s1.sendFab port body
    let s3 := s2.modPort port (fun x => { x with
      txPrev := x.txStamp, txStamp := some (s2.ftFine8 stamp), probeAt := some s2.time.lt, readySent := s1.readyAt port
      probes := if x.seen then x.probes else 0, missed := if x.seen ∨ x.probeAt.isNone then 0 else x.missed + 1, seen := false })
    done { s3 with fab := { s3.fab with launched := probeMark port :: s3.fab.launched } }

/-- The own probe that the peer's stamps answer: the latest that left at least 2,000 ns before the arrival (log 75). -/
def answeredTx (x : Port) (arrival : Int) : Option Int :=
  match x.txStamp, x.txPrev with
  | some a, p => if a + 2000 * 65536 ≤ arrival then some a else p
  | none, p => p

/-- Delay and clock offset of an exchange (R340), if all four stamps are there. -/
def probeSample (x : Port) (arrival tTx tRx : Int) : Option (Int × Int) :=
  match answeredTx x arrival, x.rxStamp with
  | some t1, some t4 =>
    if tTx = -(2 ^ 63) ∨ tRx = -(2 ^ 63) then none
    else
      let a := tRx * 65536 - t1
      let b := t4 - tTx * 65536
      some (divHalfUp (a + b) 2, divHalfUp (a - b) 2)
  | _, _ => none

/-- Mean of the delay samples kept. -/
def meanI (l : List Int) : Option Int := if l.isEmpty then none else some (divHalfUp (l.foldl (· + ·) 0) l.length)

/-- A sample joins the mean when it lies within 4 ns of it (R340). -/
def addSample (x : Port) (d theta : Int) : Port :=
  let keep : Bool := match x.d with | some m => decide (absI (d - m) ≤ 4 * 65536) | none => true
  if keep then
    let l := (d :: x.samples).take 16
    { x with samples := l, d := meanI l, theta := theta }
  else { x with theta := theta }

/-- ALIGN ends after 8 exchanges, unless the link is too long (R339, R340). -/
def alignEnd (p : PortId) (s : State) : State :=
  let x := s.port p
  if x.st ≠ 1 ∨ x.probes < 8 then s
  else if 1000 * 65536 < x.d.getD 0 then
    if x.delayRep then s else (s.modPort p (fun x => { x with delayRep := true })).raise fLinkDelay (0x68 + p.val)
  else
    let first := !allPorts.any (fun q => decide (2 ≤ (s.port q).st))
    let s1 := s.modPort p (fun x => { x with st := 2, delayRep := false })
    let s2 := if x.delayRep then s1.clearCond fLinkDelay (0x68 + p.val) else s1
    if first ∧ s.fab.st = 1 then { s2 with fab := { s2.fab with listenSince := some s.time.lt } } else s2

/-- Admission of an UP port. A node that holds no table takes its address and the states of its ports from its neighbours (R341). -/
def admitPort (p : PortId) (leader flags peerAddr : Nat) (s : State) : State :=
  let x := s.port p
  if x.st ≠ 2 then s
  else if s.fab.ftValid ∧ bitOf flags 1 ∧ leader ≠ s.fab.leaderUid then
    (s.modPort p (fun x => { x with st := 5 })).raise fLinkForeign (0x68 + p.val)
  else if s.tableBlocks x then s.modPort p (fun x => { x with st := 4 })
  else if x.table.isNone ∧ s.fab.nodes.isEmpty ∧ peerAddr ≠ 0xFF then
    let s1 := if s.fab.addr = 0xFF then { s with fab := { s.fab with addr := peerAddr } } else s
    if bitOf flags 2 then portActivate p s1
    else if bitOf flags 3 then s1.modPort p (fun x => { x with st := 4 })
    else s1
  else s.modPort p (fun x => { x with ready := x.ready || (bitOf flags 0 && x.readySent) })

/-- PROBE_RX: consumed, never forwarded (R340, R341). -/
def execProbeRx (t : Nat) (port : PortId) (f : CFrame) (s : State) : Host.Outcome State Fault Refusal :=
  let s := s.begin t
  if ¬ s.fabLive ∨ (s.port port).st = 0 then done s
  else
    let k := frameState f
    let s1 := countFrame port k s
    let p := fPayload f.body
    if k ≠ 0 ∨ fType f.body ≠ 0x20 ∨ p.length ≠ 40 then done s1
    else
      let arrival := s1.ftFine8 f.stamp
      let leader := getU p 24 8
      let x := s1.port port
      let sample := probeSample x arrival (getS p 8 8) (getS p 16 8)
      let x1 : Port := match sample with
        | some (d, th) => { addSample x d th with probes := x.probes + 1 }
        | none => { x with probes := 0 }
      let x2 : Port := { x1 with seen := true, rxStamp := some arrival, nUid := getU p 0 8, nAddr := getU p 34 1, nLeader := leader }
      done (admitPort port leader (getU p 32 1) (getU p 35 1) (alignEnd port (s1.modPort port (fun _ => x2))))

/-! ### Coldstart (R369, R370) -/

/-- COLDSTART_ENTRY: 4 ms of listening without a frame, or without a port UP (R369). A cycling node keeps its fabric time (R32, R368). Log 262 (DEDUCED). -/
def execColdstartEntry (t : Nat) (s : State) : Host.Outcome State Fault Refusal :=
  let s := s.begin t
  let up := allPorts.any s.portUp
  let waited : Bool := match s.fab.listenSince with | some a => decide (a + 4000000 ≤ s.time.lt) | none => false
  let quiet : Bool := match s.fab.heard with | some a => decide (a + 4000000 ≤ s.time.lt) | none => true
  if s.fab.st = 1 ∧ waited ∧ (¬ up ∨ (s.p1 pModColdstartAllowed 0 = 1 ∧ quiet)) then
    let a : Anchor := ⟨s.time.lt / max 1 s.cycleNs, s.time.lt, (s.time.lt : Int) * 65536, 0⟩
    if s.cyc.cycling then done { s with fab := { s.fab with st := 2, corr := 0, corrNow := 0, corrPrev := 0, coldSent := 0 } }
    else done { s with fab := { s.fab with st := 2, rho := 0, corr := 0, corrNow := 0, corrPrev := 0, coldSent := 0 }, time := { s.time with anchors := [a] } }
  else done s

/-- Payload of a COLDSTART frame (R369). -/
def coldPayload (uid cyc hops : Nat) : List Byte := toLE 8 (uid : Int) ++ toLE 4 (cyc : Int) ++ toLE 1 (hops : Int) ++ toLE 3 0

/-- Lateness of a launch against S(n) plus an offset, in 2^-8 ns (R342). -/
def State.lateness (s : State) (ofs : Int) : Nat := ((s.ftFine s.time.lt - (s.startOf s.fabN + ofs) * 65536) / 256).toNat

/-- COLDSTART_SEND: at S(n) of every cycle on every UP port; the eighth frame makes a coldstarter the leader, after a return to
startup mode too (R369, R370). -/
def execColdstartSend (t : Nat) (s : State) : Host.Outcome State Fault Refusal :=
  let s := s.begin t
  let f := s.fab
  if ¬ s.fabLive ∨ f.launched.contains coldMark ∨ ¬ (f.st = 2 ∨ (f.st = 4 ∧ f.leader ∧ s.startupMode)) then done s
  else
    let b := sealFrame (frameHead 0x21 0 0xFF f.addr 0 (s.fabN % 2 ^ 32) (s.lateness 0)
      (coldPayload s.host.ident.uid s.cycleNs 0)) false
    let s1 := (allPorts.filter s.portUp).foldl (fun s p => s.sendFab p b) s
    let s2 := { s1 with fab := { s1.fab with launched := coldMark :: f.launched, coldSent := f.coldSent + 1 } }
    done (if f.st = 4 ∧ f.coldSent + 1 = 8 then { s2 with fab := { s2.fab with leaderUid := s.host.ident.uid, relead := false } }
    else if f.st = 2 ∧ 8 ≤ f.coldSent + 1 then
      { s2 with fab := { s2.fab with st := 4, leader := true, leaderUid := s.host.ident.uid, ftValid := true, startupRun := 0 } }
    else s2)

/-- A COLDSTART frame goes on once per UID and cycle while HOPS is below 32 (R370). -/
def coldForward (port : PortId) (stamp : Nat) (b : List Byte) (s : State) : State :=
  let p := fPayload b
  let hops := getU p 12 1
  if 32 ≤ hops then s
  else
    let b1 := b.take 16 ++ p.take 12 ++ toLE 1 ((hops + 1 : Nat) : Int) ++ p.drop 13 ++ toLE 4 0
    (allPorts.filter (fun q => decide (q ≠ port) && s.portUp q)).foldl (fun s q => relay port q stamp b1 s) s

/-- Arrival of a COLDSTART frame of this fabric as the leader's deviation (R362). -/
def coldDev (port : PortId) (f : CFrame) (s : State) : State :=
  let n := (extendN s.fabN (fCycle f.body)).toNat
  if n = s.fabN then
    let d := s.deviation f.stamp n 0 (s.corrAt port f.body)
    let pos := s.ftFine8 f.stamp - s.startOf n * 65536
    { s with fab := { s.fab with devs := s.fab.devs ++ [(0x100, d, pos)] } }
  else s

/-- What a COLDSTART frame does to the node by its state (R368, R369). The frame that leads into JOIN does not step the offset;
the next one does. Log 261 (DEDUCED). -/
def coldTake (port : PortId) (f : CFrame) (uid : Nat) (s : State) : State :=
  let own := s.host.ident.uid
  let st := s.fab.st
  let join := fun (s : State) => { s with fab := { s.fab with st := 3, stepped := false, joinRun := 0, leaderUid := uid, coldSent := 0, leader := false
                                                              ftValid := false } }
  if st = 1 then join s
  else if st = 2 then (if uid < own then join s else s)
  else if st = 3 then
    if uid < s.fab.leaderUid then join s
    else if uid ≠ s.fab.leaderUid then s
    else if s.fab.stepped then coldDev port f s
    else
      let s1 := takeTime f.stamp (extendN s.fabN (fCycle f.body)).toNat 0 (s.corrAt port f.body) s
      if s.cyc.cycling then coldDev port f s1 else s1
  else if st = 4 then
    let best := if s.fab.leader then own else if s.fab.relead then 2 ^ 64 else s.fab.leaderUid
    if uid < best then coldDev port f { s with fab := { s.fab with leaderUid := uid, leader := false, relead := false } }
    else if uid = s.fab.leaderUid ∧ ¬ s.fab.leader then coldDev port f s
    else s
  else s

/-- COLDSTART_RX (R368-R370). -/
def execColdstartRx (t : Nat) (port : PortId) (f : CFrame) (s : State) : Host.Outcome State Fault Refusal :=
  let s := s.begin t
  if ¬ s.fabLive ∨ ¬ s.portUp port then done s
  else
    let k := frameState f
    let s1 := countFrame port k s
    let p := fPayload f.body
    let uid := getU p 0 8
    let key := (uid, fCycle f.body)
    if k ≠ 0 ∨ fType f.body ≠ 0x21 ∨ p.length ≠ 16 ∨ uid = s.host.ident.uid ∨ s.fab.coldSeen.contains key then done s1
    else
      let s2 := { s1 with fab := { s1.fab with coldSeen := (key :: s1.fab.coldSeen).take 64, heard := some s1.time.lt } }
      let s3 := coldForward port f.stamp f.body s2
      if getU p 8 4 ≠ s.cycleNs then
        let s4 := if s.fab.st = 1 ∨ (s.fab.st = 2 ∧ uid < s.host.ident.uid) then { s3 with fab := { s3.fab with st := 3, stepped := false, leaderUid := uid } } else s3
        done (if s4.fab.st = 3 ∧ (s.openSlots.all (fun i => decide (¬ ((s.frec i).code = fCycleMismatch ∧ (s.frec i).state = 1))))
          then s4.raise fCycleMismatch 0xFF else s4)
      else
        let s4 := if s.openSlots.any (fun i => decide ((s.frec i).code = fCycleMismatch)) then s3.clearCond fCycleMismatch 0xFF else s3
        done (coldTake port f uid s4)

/-! ### Discovery (R348-R352) -/

/-- Port states of this node's census entry: an UP port counts as UP until the census closes it (log 72). -/
def State.censusPorts (s : State) : Nat :=
  packBits (allPorts.map (fun p =>
    let x := s.port p
    (3, if x.closing then 4 else if s.portUp p then 2 else x.st)))

/-- The 24-byte entry of this node (R349). -/
def censusEntry (s : State) (depth parent : Nat) : List Byte :=
  toLE 8 (s.host.ident.uid : Int) ++ toLE 1 (s.p1 pModNodeIdFixed 0) ++ toLE 1 (depth : Int) ++ toLE 1 (parent : Int) ++
    toLE 1 (b2n (allAxes.any (fun a => (s.ax a).enabled)) : Int) ++ toLE 2 (s.censusPorts : Int) ++ toLE 2 0 ++
    (allPorts.map (fun p => toLE 2 (satU 16 (shrHalfUp ((s.port p).d.getD 0) 14)))).flatten

/-- Head of a CENSUS payload: harbour's UID, the sender's depth and the number of the census (log 72). -/
def censusHead (uid depth no : Nat) : List Byte := toLE 8 (uid : Int) ++ toLE 1 (depth : Int) ++ toLE 1 (no : Int) ++ toLE 6 0

/-- The circuit of a census: UP ports that are not FOREIGN, less the links that it has closed (R349). -/
def State.censusOk (s : State) (p : PortId) : Bool := s.portUp p && !(s.port p).closing

/-- A census as a visited node knows it: harbour UID and number. -/
def censusKey (p : List Byte) : Nat := getU p 0 8 + 2 ^ 64 * getU p 9 1

/-- Entries of a CENSUS payload. -/
def censusEntries (p : List Byte) : List (List Byte) := chunks 24 ((p.length - 16) / 24) (p.drop 16)

/-- The node's own entry with its present port states: a link found closing later is marked in it (log 72). -/
def censusUpdate (s : State) (p : List Byte) : List Byte :=
  p.take 16 ++ ((censusEntries p).map (fun e =>
    if getU e 0 8 = s.host.ident.uid then e.take 12 ++ toLE 2 (s.censusPorts : Int) ++ e.drop 14 else e)).flatten

/-- The port counts as one through which the node has sent the census. -/
def censusSent (q : PortId) (s : State) : State :=
  match s.fab.census with
  | some (u, sent) => { s with fab := { s.fab with census := some (u, q.val :: sent) } }
  | none => s

/-- Send a CENSUS on with a new payload, REFLECTED or not (R349, R370). -/
def sendCensus (port q : PortId) (f : CFrame) (reflected : Bool) (p : List Byte) (s : State) : State :=
  let b := f.body.take 1 ++ [if reflected then 2 else 0] ++ bytesAt f.body 2 4 ++ toLE 2 (p.length : Int) ++ bytesAt f.body 8 8 ++ p ++ toLE 4 0
  censusSent q (relay port q f.stamp b s)

/-- The harbour node starts a census; alone it has none to send (R349). -/
def startCensus (q : Option ReqRef) (s : State) : State :=
  let s0 := allPorts.foldl (fun s p => s.modPort p (fun x => { x with closing := false })) s
  let no := (s.fab.censusNo + 1) % 256
  let head := censusHead s.host.ident.uid 0 no
  let s1 := { s0 with fab := { s0.fab with discover := some q, parent := none, censusNo := no, census := some (censusKey head, []) } }
  match s1.launchPort s1.portUp with
  | some p => censusSent p (s1.sendFab p (sealFrame (frameHead 0x22 0 0xFF s1.fab.addr 0 (s1.fabN % 2 ^ 32) 0 head) false))
  | none => s1

/-- FABRIC_DISCOVER (R348). -/
def execFabricDiscover (t : Nat) (h : Hdr) (s : State) : Host.Outcome State Fault Refusal :=
  done (runOp 0x0701 0 false false h [] (s.begin t)
    (fun s => [(s.scrap, stLifecycle, 0), (!s.isHarbour || decide (s.fab.st ≠ 4) || !s.startupMode, stState, 0), (s.fab.discover.isSome, stBusy, 0)])
    (fun q s => ({ status := stPending }, startCensus (some q) s)))

/-- Entry of a node in an ASSIGN payload (log 72). -/
def assignEntry (uid addr ports : Nat) : List Byte := toLE 8 (uid : Int) ++ toLE 1 (addr : Int) ++ [0] ++ toLE 2 (ports : Int)

def assignEntries (p : List Byte) : List NodeInfo :=
  (chunks 12 (p.length / 12) p).map (fun e => { uid := getU e 0 8, addr := getU e 8 1, ports := getU e 10 2 })

/-- A topology is a single simple ring when every node has two ports in the circuit. -/
def ringOf4 (l : List NodeInfo) : Bool :=
  !l.isEmpty && l.all (fun x => decide ((allPorts.filter x.usable).length = 2))

/-- A node takes its address and its port states (R351). `harbour` sent the table. A new TOPO_CRC discards the timetables. -/
def applyAssign (p : List Byte) (harbour : Nat) (nodes : List NodeInfo) (s : State) : State :=
  let crc := crc32 p
  let own := nodes.find? (fun x => decide (x.uid = s.host.ident.uid))
  let ring := ringOf4 nodes
  let s1 := { s with fab := { s.fab with
    nodes := nodes, topoCrc := crc, ring := ring, ringTable := ring, harbourAddr := some harbour, missing := [], lostRep := false
    addr := (match own with | some x => x.addr | none => s.fab.addr)
    tables := if s.fab.topoCrc ≠ 0 ∧ s.fab.topoCrc ≠ crc then [] else s.fab.tables } }
  match own with
  | some x => allPorts.foldl (fun s q =>
      let code := fieldOf x.ports (3 * q.val) 3
      if code = 3 ∧ s.portUp q then portActivate q (s.modPort q (fun y => { y with table := some (y.nUid, false) }))
      else if code = 4 ∧ s.portUp q then s.modPort q (fun y => { y with st := 4, table := some (y.nUid, true) })
      else s) s1
  | none => s1

/-- Addresses of R350: fixed ones stay; every other node in visit order takes the lowest that no node holds. -/
def assignAddrs (fixed : List Nat) : List Nat → List Nat → List Nat
  | [], _ => []
  | f :: r, taken =>
    if f ≠ 0xFF then f :: assignAddrs fixed r taken
    else
      let a := ((List.range 255).find? (fun a => !taken.contains a)).getD 0xFF
      a :: assignAddrs fixed r (a :: taken)

/-- Nodes of a census, the harbour node first: fixed address, depth, parent, ENABLED, port states, delays. -/
def censusNode (e : List Byte) : NodeInfo × Nat × Bool :=
  ({ uid := getU e 0 8, addr := getU e 8 1, ports := getU e 12 2, depth := getU e 9 1, parent := getU e 10 1
     delays := (List.range 4).map (fun i => getU e (16 + 2 * i) 2) }, getU e 8 1, decide (getU e 11 1 ≠ 0))

/-- Result of FABRIC_DISCOVER (R351, R438): nodes, topology, largest depth, TOPO_CRC. -/
def discoverRsp (s : State) : Rsp :=
  let depth := (s.fab.nodes.map NodeInfo.depth).foldl max 0
  okRsp (toLE 2 (s.fab.nodes.length : Int) ++ toLE 1 (b2n s.fab.ringTable : Int) ++ toLE 1 (depth : Int) ++ toLE 4 (s.fab.topoCrc : Int))

/-- The discovery ends with OK; the automatic one goes on with the stored timetable (R351, R352). -/
def discoverEnd (s : State) : State :=
  match s.fab.discover with
  | none => s
  | some q =>
    let s1 := { s with fab := { s.fab with discover := none } }
    match q with
    | some q => s1.finish q (discoverRsp s1)
    | none =>
      match s1.fab.storedTables.find? (fun e => decide (e.1 = s1.pn pFabTimetable 0)) with
      | some (_, body) => if getU body 12 4 = s1.fab.topoCrc ∧ s1.fab.ttLoad.isNone then distribute body false none s1 else s1
      | none => s1

/-- The harbour node judges a census that has returned, and assigns (R350, R351). -/
def censusDone (p : List Byte) (s : State) : State :=
  let entries := (censusEntry s 0 0) :: censusEntries p
  let l := entries.map censusNode
  let fixed := (l.map (fun e => e.2.1)).filter (fun a => decide (a ≠ 0xFF))
  let twice := (List.range fixed.length).any (fun i => (fixed.take i).contains (fixed.getD i 0))
  let bad := decide (255 < l.length) || l.any (fun e => decide (32 < e.1.depth)) || twice || l.any (fun e => e.2.2)
  if bad then
    let q := s.fab.discover.getD none
    ((({ s with fab := { s.fab with discover := none } }).finish? q { status := stCheckFailed }).raise fDiscoverFail 0xFF)
  else
    let code := fun (x : NodeInfo) (i : Nat) => fieldOf x.ports (3 * i) 3
    let ups := fun (x : NodeInfo) => ((List.range 4).filter (fun i => decide (code x i = 2 ∨ code x i = 4))).length
    let closings := natSum (l.map (fun e => ((List.range 4).filter (fun i => decide (code e.1 i = 4))).length))
    let ring := l.all (fun e => decide (ups e.1 = 2)) && decide (closings = 2)
    let ports := fun (x : NodeInfo) => packBits ((List.range 4).map (fun i =>
      (3, let c := code x i; if c = 2 then 3 else if c = 4 then (if ring then 3 else 4) else c)))
    let addrs := assignAddrs fixed (l.map (fun e => e.2.1)) fixed
    let nodes := (l.zip addrs).map (fun e => { e.1.1 with addr := e.2, ports := ports e.1.1 })
    let pay := ((sortBy NodeInfo.addr nodes).map (fun x => assignEntry x.uid x.addr x.ports)).flatten
    let s1 := applyAssign pay (addrs.headD 0xFF) nodes s
    let s2 := { s1 with fab := { s1.fab with depth := (nodes.map NodeInfo.depth).foldl max 0 } }
    let (sent, s3) := sendStartup 0x23 pay s2
    if sent then s3 else discoverEnd s3

/-- A frame of this node's is back: its next port would be the one on which it left (R344). -/
def State.isBack (s : State) (ok : PortId → Bool) (port : PortId) : Bool := decide (s.launchPort ok = some (nextPort ok port))

/-- CENSUS_RX (R348, R349). -/
def execCensusRx (t : Nat) (port : PortId) (f : CFrame) (s : State) : Host.Outcome State Fault Refusal :=
  let s := s.begin t
  if ¬ s.fabLive ∨ ¬ s.portUp port then done s
  else
    let k := frameState f
    let s := countFrame port k s
    let p := fPayload f.body
    let uid := getU p 0 8
    let own := s.host.ident.uid
    if k ≠ 0 ∨ fType f.body ≠ 0x22 ∨ p.length < 16 then done s
    else
      let s := { s with fab := { s.fab with heard := some s.time.lt } }
      let lower : Bool := match s.fab.census with
        | some (u, _) => decide (u % 2 ^ 64 < uid) && (s.fab.discover.isSome || decide (u % 2 ^ 64 ≠ own))
        | none => false
      let sent : Option (List Nat) := match s.fab.census with | some (u, l) => if u = censusKey p then some l else none | none => none
      let onward := fun (p : List Byte) (s : State) =>
        if uid = own ∧ s.isBack s.censusOk port then censusDone p s
        else sendCensus port (nextPort s.censusOk port) f false p s
      if bitOf (getU f.body 1 1) 1 then
        let s1 := s.modPort port (fun x => { x with closing := true })
        done (onward (censusUpdate s1 p) s1)
      else match sent with
        | some l =>
          if l.contains port.val then done (if uid = own ∧ s.fab.discover.isNone then s else onward p s)
          else
            let s1 := s.modPort port (fun x => { x with closing := true })
            done (sendCensus port port f true (censusUpdate s1 p) s1)
        | none =>
          if lower then done s
          else
            let s0 := match s.fab.discover with
              | some q => ({ s with fab := { s.fab with discover := none } }).finish? q { status := stBusy }
              | none => s
            let s1 := allPorts.foldl (fun s q => s.modPort q (fun x => { x with closing := false })) s0
            let depth := getU p 8 1 + 1
            let s2 := { s1 with fab := { s1.fab with parent := some port.val, depth := depth, census := some (censusKey p, []) } }
            done (sendCensus port (nextPort s2.censusOk port) f false
              (censusHead uid depth (getU p 9 1) ++ p.drop 16 ++ censusEntry s2 depth port.val) s2)

/-- CENSUS_RETURN: the census is back at the harbour node (R350). -/
def execCensusReturn (t : Nat) (f : CFrame) (s : State) : Host.Outcome State Fault Refusal :=
  let s := s.begin t
  let p := fPayload f.body
  if frameState f = 0 ∧ fType f.body = 0x22 ∧ 16 ≤ p.length ∧ getU p 0 8 = s.host.ident.uid ∧ s.fab.discover.isSome ∧ s.fabLive then done (censusDone p s)
  else done s

/-- ASSIGN_RX: a node takes the table; at the harbour node the discovery ends (R351). -/
def execAssignRx (t : Nat) (port : PortId) (f : CFrame) (s : State) : Host.Outcome State Fault Refusal :=
  let s := s.begin t
  if ¬ s.fabLive ∨ ¬ s.portUp port then done s
  else
    let k := frameState f
    let s := countFrame port k s
    let p := fPayload f.body
    if k ≠ 0 ∨ fType f.body ≠ 0x23 then done s
    else
      let nodes := assignEntries p
      let s1 := if s.fab.discover.isSome ∨ (s.fab.topoCrc = crc32 p ∧ s.fab.census.isNone) then s
        else
          let a := applyAssign p (fOwner f.body) nodes s
          { a with fab := { a.fab with census := none } }
      if s1.fab.discover.isSome ∧ s1.isBack s1.startOk port then done (discoverEnd { s1 with fab := { s1.fab with census := none } })
      else done (relay port (nextPort s1.startOk port) f.stamp f.body s1)

/-- AUTO_DISCOVERY: a root node after 64 fabric cycles in STARTUP (R352). -/
def execAutoDiscovery (t : Nat) (s : State) : Host.Outcome State Fault Refusal :=
  let s := s.begin t
  if s.p1 pFabHarbour 0 = 1 ∧ s.fab.st = 4 ∧ s.startupMode ∧ 64 ≤ s.fab.startupRun ∧ ¬ s.fab.autoDone ∧ s.fab.discover.isNone then
    done (startCensus none { s with fab := { s.fab with autoDone := true } })
  else done s

/-! ### START frames (R358, R443) -/

/-- Every discovered node has its bit in a map. -/
def State.mapFull (s : State) (map : Nat) : Bool := s.fab.nodes.all (fun x => bitOf map x.addr)

/-- A START frame of this node is back (R355, R358, R443). -/
def startBack (p : List Byte) (s : State) : State :=
  let kind := getU p 0 1
  let commit := getU p 1 1
  let tt := getU p 2 1
  let n := getU p 4 4
  let map := getU p 16 32
  let full := s.mapFull map
  if commit ≠ 0 then s
  else if kind = 0 then
    match s.fab.ttPend with
    | some t =>
      if t.startup ∧ t.own ∧ t.tt = tt ∧ t.n % 2 ^ 32 = n then
        if full then
          (sendStartup 0x24 (startPayload 0 1 tt s.fab.addr n 0 0 0 s.ownBit [])
            { s with fab := { s.fab with ttPend := some { t with commit := true } } }).2
        else
          (({ s with fab := { s.fab with ttPend := none } }).finish? t.req { status := stTimeout }).raise fTtAbandon 0xFF
      else s
    | none => s
  else if kind = 1 then
    match s.prm.pend with
    | some a =>
      if a.fabric ∧ a.origin = s.fab.addr ∧ a.decision = 0 ∧ a.n % 2 ^ 32 = n then
        let all := s.fab.nodes.map NodeInfo.addr
        let a1 := { a with members := all, acked := all.filter (fun x => bitOf map x), decision := if full then 1 else 2 }
        (sendStartup 0x24 (startPayload 1 (if full then 1 else 2) 0xFF s.fab.addr n a.tag 0 0 s.ownBit [])
          { s with prm := { s.prm with pend := some a1 } }).2
      else s
    | none => s
  else
    match s.fab.ttLoad with
    | some l =>
      if l.tt = tt ∧ getU p 12 4 = l.ofs ∧ full then
        let next := l.ofs + loadChunk
        if next < ((s.table tt).getD []).length then sendLoad { s with fab := { s.fab with ttLoad := some { l with ofs := next } } }
        else { s with fab := { s.fab with ttLoad := some { l with acked := s.fab.nodes.map NodeInfo.addr } } }
      else s
    | none => s

/-- Bytes of a timetable that arrive in startup frames. -/
def startLoad (p : List Byte) (s : State) : Bool × State :=
  let from_ := getU p 3 1
  let ofs := getU p 12 4
  let old := (s.fab.ferryIn.find? (fun m => decide (m.kind = 0x24 ∧ m.peer = from_))).map (fun m => m.data)
  let have_ := if ofs = 0 then [] else old.getD []
  if ofs ≠ have_.length then (decide (ofs < have_.length) , s)
  else
    let body := have_ ++ p.drop 48
    let rest := s.fab.ferryIn.filter (fun m => !decide (m.kind = 0x24 ∧ m.peer = from_))
    let m : FerryMsg := ⟨from_, 0x24, 0, body, 0, 0, none, 0, none, (0, 0), false⟩
    let s1 := { s with fab := { s.fab with ferryIn := rest ++ [m] } }
    (true, if 32 ≤ body.length ∧ body.length = ttSize body then
      holdTable body (decide (getU p 10 1 = 1)) { s1 with fab := { s1.fab with ferryIn := rest } }
    else s1)

/-- A START frame of another node: this node's answer to it, and whether its bit is set. -/
def startTake (p : List Byte) (s : State) : Bool × State :=
  let kind := getU p 0 1
  let commit := getU p 1 1
  let tt := getU p 2 1
  let origin := getU p 3 1
  let n := (extendN s.fabN (getU p 4 4)).toNat
  let tag := getU p 8 2
  if kind = 0 then
    if commit = 0 then
      if (s.table tt).isSome then
        (true, { s with fab := { s.fab with ttPend := some { tt := tt, n := n, members := [], acked := [], req := none, commit := false, startup := true, own := false } } })
      else (false, s)
    else
      match s.fab.ttPend with
      | some t =>
        if t.startup ∧ t.tt = tt ∧ t.n = n ∧ s.fabN < n then (true, { s with fab := { s.fab with ttPend := some { t with commit := true } } })
        else (false, s)
      | none => (false, s)
  else if kind = 1 then
    if commit = 0 then
      let s1 := applyRequest origin tag n s
      let ack : Bool := match s1.prm.pend with
        | some a => a.fabric && decide (a.origin = origin ∧ a.n = n) && a.ownAck
        | none => false
      (ack, s1)
    else (true, applyDecide origin tag n commit s)
  else if bitOf (getU p 16 32) s.fab.addr then (true, s) else startLoad p s

/-- START_FRAME_RX (R344, R358, R443). A node that the frame visits again answers the same. -/
def execStartFrameRx (t : Nat) (port : PortId) (f : CFrame) (s : State) : Host.Outcome State Fault Refusal :=
  let s := s.begin t
  if ¬ s.fabLive ∨ ¬ s.portUp port then done s
  else
    let k := frameState f
    let s := countFrame port k s
    let p := fPayload f.body
    if k ≠ 0 ∨ fType f.body ≠ 0x24 ∨ p.length < 48 then done s
    else if fOwner f.body = s.fab.addr then
      if s.isBack s.startOk port then done (startBack p s)
      else done (relay port (nextPort s.startOk port) f.stamp f.body s)
    else
      let (bit_, s1) := startTake p s
      let map := getU p 16 32
      let map1 := if bit_ ∧ ¬ bitOf map s.fab.addr then map + s.ownBit else map
      let b := f.body.take 16 ++ p.take 16 ++ toLE 32 (map1 : Int) ++ p.drop 48 ++ toLE 4 0
      done (relay port (nextPort s1.startOk port) f.stamp b s1)

/-! ### The start of a fabric cycle -/

/-- A node without neighbours ends its own discovery (R349-R351). -/
def loneWork (s : State) : State :=
  if s.fab.discover.isSome ∧ (s.launchPort s.portUp).isNone then censusDone (censusHead s.host.ident.uid 0 s.fab.censusNo) s else s

/-- FABRIC_CYCLE_START: the anchor moves on, and what belongs to a fabric cycle starts anew (R363, R379, R381; R277, R284, R357,
R359, R365, R372, R443). -/
def execFabricCycleStart (t : Nat) (s : State) : Host.Outcome State Fault Refusal :=
  let s := s.begin t
  let a := nextAnchor s
  if s.time.lt < a.lt ∨ ¬ s.domOn .sup then done s
  else
    let f := s.fab
    let s1 := { s with
      time := { s.time with anchors := (a :: s.time.anchors).take 5 }
      fab := { f with
        corrPrev := f.corrNow, corrNow := f.corr, corr := 0, synced := false, devs := [], devsPrev := f.devs
        rx := [], rxPrev := f.rx, consumed := [], launched := [], withdrawn := decide (0 < f.outOfW)
        startupRun := if f.st = 4 then f.startupRun + 1 else f.startupRun } }
    let s2 := (List.finRange 4).foldl (fun s i => tideBoundary i (tideCompare i (tideAck 16 i s))) (recordsGovern s1)
    done (loneWork (loadCheck (followTable (missingCounts (snapshotMembers s2)))))

end Sys2Proof.Machine
end

