-- ==== Sys2Proof/Machine/Time.lean ====
section
/-! DEFINITION. Network time, timed outputs and the pulse per second (13_time.md, R383-R404). NT and FT are in 2^-16 ns, rates
in 2^-48. -/

namespace Sys2Proof.Machine

/-- One second in 2^-16 ns. -/
def secFine : Int := 65536000000000

/-- FT and NT now. -/
def State.ftNow (s : State) : Int := s.ftFine s.time.lt
def State.ntNow (s : State) : Int := s.ntOf s.ftNow

/-- TIME_GET: all at one instant (R438). SCRAP still serves it (R562). -/
def execTimeGet (t : Nat) (h : Hdr) (s : State) : Host.Outcome State Fault Refusal :=
  done (runOp 0x0601 0 false false h [] (s.begin t)
    (fun _ => [])
    (fun _ s =>
      let nt := s.ntNow
      let utc : Bool × Int := match s.time.nt with | some r => (r.utcValid, r.utcOffset) | none => (false, 0)
      let flags := packBits [(1, b2n s.fab.ftValid), (1, b2n s.ntValid), (1, b2n utc.1)]
      (okRsp (toLE 8 s.ft ++ toLE 8 (s.time.lt : Int) ++ toLE 8 (nt / secFine) ++ toLE 4 (nt % secFine / 65536) ++ toLE 2 (nt % 65536) ++
        toLE 2 (flags : Int) ++ toLE 2 utc.2), s)))

/-! ### Timed outputs (R397-R400) -/

/-- The first edge of a program whose instant lies at or after `from_`, in ns of its scale. -/
def edgeFrom (p : TqProg) (from_ : Int) : Nat := (-((-(from_ - p.t0)) / (max 1 p.period : Nat))).toNat

/-- A program from its edge k on; none when its count is used up. -/
def progAt (p : TqProg) (k : Nat) : Option TqProg := if p.count ≠ 0 ∧ p.count ≤ k then none else some { p with k := k }

/-- An instant of FT in ns, as ns of a program's scale, rounded up. -/
def State.scaleCeil (s : State) (nt : Bool) (ft : Int) : Int := if nt then -((-(s.ntOf (ft * 65536))) / 65536) else ft

/-- T0 of TIMED_OUTPUT in ns of its scale. Log 223 (DEDUCED). -/
def tqStart (p : TqReq) : Int := if p.scale = 1 then p.t0 * 10 ^ 9 + p.t0ns else p.t0

/-- RANGE refusals of TIMED_OUTPUT (R398). -/
def tqRange (s : State) (p : TqReq) : List (Bool × Nat × Nat) :=
  let now := if p.scale = 1 then s.ntNow else s.ftNow
  let start := decide (p.kind ≠ 2)
  [(decide (2 < p.kind), stRange, 1), (start && decide (1 < p.scale), stRange, 2), (start && decide (p.scale = 1) && !s.ntValid, stRange, 2),
   (start && decide (1 < p.polarity), stRange, 3), (start && decide (p.kind = 0 ∧ p.count ≠ 1), stRange, 4),
   (start && decide (tqStart p * 65536 < now + 2000 * 65536), stRange, 8), (start && decide (p.scale = 1 ∧ 999999999 < p.t0ns), stRange, 16),
   (start && decide (p.period < 100), stRange, 20), (start && decide (p.width < 10 ∨ p.period < p.width + 10), stRange, 28)]

/-- The payload of TIMED_OUTPUT (R438). -/
def tqBytes (p : TqReq) : List Byte :=
  toLE 1 p.channel ++ toLE 1 p.kind ++ toLE 1 p.scale ++ toLE 1 p.polarity ++ toLE 4 p.count ++ toLE 8 p.t0 ++ toLE 4 p.t0ns ++
    toLE 8 p.period ++ toLE 4 p.width

/-- TIMED_OUTPUT (R397-R399). -/
def execTimedOutput (t : Nat) (h : Hdr) (p : TqReq) (s : State) : Host.Outcome State Fault Refusal :=
  let ch : Fin 4 := ⟨p.channel % 4, by omega⟩
  done (runOp 0x0602 32 false false h (tqBytes p) (s.begin t)
    (fun s => [(decide (3 < p.channel), stBadId, 0), (s.scrap, stLifecycle, 0)] ++ tqRange s p ++ [(decide (s.p1 pTimeTqMode p.channel ≠ 1), stState, 0)])
    (fun _ s =>
      if p.kind = 2 then (okRsp [], s.modTq ch (fun c => { c with prog := none }))
      else
        let g : TqProg := { once := decide (p.kind = 0), nt := decide (p.scale = 1), t0 := tqStart p, period := p.period, width := p.width
                            lowPulse := decide (p.polarity = 1), count := p.count, k := 0 }
        let first := fun (c : TqChan) => match c.pulseEnd with
          | some e => edgeFrom g (s.scaleCeil g.nt e)
          | none => 0
        (okRsp [], s.modTq ch (fun c => { c with prog := progAt g (first c), pad := if c.pulseEnd.isNone then g.lowPulse else c.pad }))))

/-- All TQ pads are low (R399). -/
def tqLow (s : State) : State :=
  (List.finRange 4).foldl (fun s i => s.modTq i (fun c => { c with prog := none, pulseEnd := none, pad := false })) s

/-- A pulse of fixed width from the start of a cycle (R397). -/
def tqCyclePulse (start now : Int) (c : TqChan) : TqChan :=
  if start ≤ now ∧ now < start + 100 then { c with prog := none, pad := true, pulseLow := false, pulseEnd := some (start + 100) }
  else { c with prog := none }

/-- TQ_EDGE: the running pulse ends, or the next one starts (R396-R399). -/
def execTqEdge (t : Nat) (ch : Fin 4) (s : State) : Host.Outcome State Fault Refusal :=
  let s := s.begin t
  let mode := s.p1 pTimeTqMode ch.val
  let c := s.time.tq.get ch
  if s.power.refStopped ∨ ¬ s.domOn .sup then done s
  else if mode = 0 then done (s.modTq ch (fun c => { c with prog := none, pulseEnd := none, pad := false }))
  else
    let over_ : Bool := match c.pulseEnd with | some e => decide (e ≤ s.ft) | none => false
    if over_ then done (s.modTq ch (fun c =>
      { c with pulseEnd := none, pad := (match c.prog with | some p => p.lowPulse | none => c.pulseLow), pulseLow := false }))
    else if c.pulseEnd.isSome then done s
    else if mode = 2 then
      done (if s.cyc.cycling then s.modTq ch (tqCyclePulse s.cyc.start s.ft) else s)
    else if mode = 3 then done (s.modTq ch (tqCyclePulse (s.startOf s.fabN) s.ft))
    else match c.prog with
      | none => done s
      | some p =>
        let now := if p.nt then s.ntNow else s.ftNow
        let edge := p.t0 + p.k * p.period
        if edge * 65536 ≤ now then
          let rise := if p.nt then s.ft else edge
          done (s.modTq ch (fun c => { c with prog := progAt p (p.k + 1), pad := !p.lowPulse, pulseLow := p.lowPulse, pulseEnd := some (rise + p.width) }))
        else done s

/-- An NT step moves the NT programs of a channel: edges passed over are dropped and counted (R400). -/
def tqStep (sN : Int) (i : Fin 4) (s : State) : State :=
  match (s.time.tq.get i).prog with
  | some p =>
    if ¬ p.nt then s
    else
      let k := max p.k (edgeFrom p (-((-(s.ntOf sN + 2000 * 65536)) / 65536)))
      let last := if p.count = 0 then k else min k p.count
      let lost := last - p.k
      let s1 := s.modTq i (fun c => { c with prog := progAt p k })
      if 0 < lost then
        ({ s1 with time := { s1.time with tqDropped := min (s1.time.tqDropped + lost) 65535 } }).raise fTqSkip (0xB8 + i.val)
      else s1
  | none => s

/-- PPSO_EDGE: high for 100 ms from each whole second of NT or FT (R396, R401). -/
def execPpsoEdge (t : Nat) (s : State) : Host.Outcome State Fault Refusal :=
  let s := s.begin t
  let mode := s.p1 pTimePpsOut 0
  let ends : Bool := match s.time.ppsoEnd with | some e => decide (e ≤ s.ft) | none => false
  if ends ∨ (mode = 0 ∧ s.time.ppsoEnd.isNone) then done { s with time := { s.time with ppso := false, ppsoEnd := none } }
  else if s.time.ppsoEnd.isSome then done s
  else
    let now := if mode = 1 then s.ntNow else s.ftNow
    if now % secFine < 2 * 65536 ∧ (mode = 2 ∨ s.ntValid) ∧ mode ≠ 0 then
      done { s with time := { s.time with ppso := true, ppsoEnd := some (s.ft + 100000000) } }
    else done s

/-! ### The NT source (R386-R390) -/

/-- The comparison data of a record: class, accuracy, variance, identity, steps, address; smaller is better (R386). -/
def ntRank (quality gmId steps addr : Nat) : List Nat := [fieldOf quality 0 8, fieldOf quality 8 8, fieldOf quality 16 16, gmId, steps, addr]

/-- Lexicographic order of ranks. -/
def rankLess : List Nat → List Nat → Bool
  | a :: l, b :: r => decide (a < b) || (decide (a = b) && rankLess l r)
  | [], _ :: _ => true
  | _, [] => false

/-- GM_QUALITY of a PPSI source: clockClass 248, accuracy unknown (R386, log 82). -/
def ppsQuality : Nat := 248 + 256 * 0xFE + 65536 * 0xFFFF

/-- This node's own comparison data: quality, identity and STEPS. -/
def State.ntOwn (s : State) : Nat × Nat × Nat :=
  match s.p1 pTimeNtSource 0, s.time.master with
  | 1, some m => (m.quality, m.gmId, m.steps + 1)
  | _, _ => (ppsQuality, 0, 1)

def State.ntOwnRank (s : State) : List Nat := let o := s.ntOwn; ntRank o.1 o.2.1 o.2.2 s.fab.addr

def NtRec.rank (r : NtRec) : List Nat := ntRank r.gmQuality r.gmId r.steps r.source

/-- The newest record: the last that waits, or the one in force. -/
def State.ntNewest (s : State) : Option NtRec := s.time.ntLater.getLast? <|> s.time.ntNext <|> s.time.nt

/-- A record waits for its cycle behind those that take effect before it (R385). -/
def queueNt (r : NtRec) (s : State) : State :=
  let l := (s.time.ntNext.toList ++ s.time.ntLater).filter (fun x => decide (x.applyN < r.applyN)) ++ [r]
  { s with time := { s.time with ntNext := l.head?, ntLater := l.drop 1 } }

/-- Records of another source still arrive: one came within the last 2 intervals (R385, R386). -/
def State.ntFresh (s : State) : Bool := match s.time.ntSent with | some n => decide (s.fabN < n + 32) | none => false

/-- A candidate becomes the source unless a better one sends records; its frequency term then starts at 0 (R386, R387). -/
def claimSource (s : State) : State :=
  let beaten : Bool := match s.ntNewest with
    | some r => decide (r.source ≠ s.fab.addr) && s.ntFresh && !rankLess s.ntOwnRank r.rank
    | none => false
  let src := s.ntCandidate && !beaten
  if src ∧ ¬ s.time.isSource then { s with time := { s.time with isSource := true, servoF := 0, lastMeas := none } }
  else { s with time := { s.time with isSource := src } }

/-- 500 ppm in 2^-48. -/
def ppm500 : Int := 140737488355

/-- A measurement of the source node (R387, R388). The time since a measurement before the first one is 0. Log 264 (DEDUCED). -/
def ntMeasure (e : Int) (s0 : State) : State :=
  let s := claimSource s0
  let now := s.ftNow
  if ¬ s.time.isSource then s
  else
    let big := s.ntValid && decide (s.p1 pTimeJumpLimitNs 0 * 65536 < absI e)
    let refuse := big && !s.time.jumpAccepted
    let jump := big && s.time.jumpAccepted
    let step := jump || (!s.ntValid && s.time.stepDue.isNone && s.time.ntNext.isNone)
    let x := if refuse then 0 else e
    let tu := match s.time.lastMeas with | some m => now - m | none => 0
    let f := clamp (-ppm500) ppm500 (s.time.servoF - divHalfUp (x * tu * 2 ^ 48) (secFine * secFine * 1024))
    let sl := clamp (-ppm500) ppm500 (f - divHalfUp (x * 2 ^ 48) (secFine * 8))
    let s1 := { s with time := { s.time with
      servoF := f, servoS := sl, lastMeas := some now, lastE := x
      jumpPending := s.time.jumpPending || refuse
      jumpAccepted := s.time.jumpAccepted && !jump
      stepDue := if step then some e else s.time.stepDue } }
    if refuse then s1.raise fJumpRefused 0xFF else s1

/-- TIME_ACCEPT_JUMP: at the source while a step is refused; at a PPSI source also while NT is not valid, since it names the
seconds that R402 waits for (R388, R402, log 83). -/
def execTimeAcceptJump (t : Nat) (h : Hdr) (seconds : Nat) (s : State) : Host.Outcome State Fault Refusal :=
  done (runOp 0x0603 8 false false h (toLE 8 (seconds : Int)) (s.begin t)
    (fun s =>
      let pps := decide (s.p1 pTimeNtSource 0 = 2)
      [(s.scrap, stLifecycle, 0), (!(s.time.isSource && (s.time.jumpPending || (pps && !s.ntValid))), stState, 0)])
    (fun _ s =>
      let pps := decide (s.p1 pTimeNtSource 0 = 2)
      (okRsp [], { s with time := { s.time with jumpAccepted := s.time.jumpPending, ppsiSeconds := if pps then some seconds else none } })))

/-- PPSI_EDGE (R402). The first edge only starts the count of seconds. -/
def execPpsiEdge (t : Nat) (s : State) : Host.Outcome State Fault Refusal :=
  let s := s.begin t
  let now := s.ftNow
  match s.time.ppsiLast with
  | none => done { s with time := { s.time with ppsiLast := some now } }
  | some l =>
    if -100000 * 65536 ≤ now - l - secFine ∧ now - l - secFine < 100000 * 65536 then
      let s1 := { s with time := { s.time with ppsiLast := some now, ppsiOk := true } }
      if s.p1 pTimeNtSource 0 = 2 then
        let nt := s1.ntNow
        match s1.time.ppsiSeconds with
        | some sec => done (ntMeasure (nt - (sec : Int) * secFine) { s1 with time := { s1.time with ppsiSeconds := none } })
        | none => done (if s1.ntValid then ntMeasure (nt - divHalfUp nt secFine * secFine) s1 else claimSource s1)
      else done s1
    else
      done (({ s with time := { s.time with ppsiOk := false, ppsiBad := incSat 32 s.time.ppsiBad } }).raise fPpsBad 0xFF)

/-! ### IEEE 1588 (R391, R392) -/

/-- The own clock of a master-capable port, with the default attributes of IEEE 1588 (log 82). -/
def State.ownClock (s : State) : List Nat := [128, 248, 0xFE, 0xFFFF, 128, s.host.ident.uid]

/-- Port state by the best master algorithm: 9 SLAVE, 6 MASTER, 7 PASSIVE (R392, R404). -/
def ptpDecide (s : State) (m : Master) : Nat :=
  let mode := s.p1 pTimePtpMode 0
  if mode = 1 then 9
  else if mode = 2 then (if rankLess m.rank s.ownClock then 9 else 6)
  else match s.time.nt with
    | none => 9
    | some r =>
      let mine := ntRank m.quality m.gmId (m.steps + 1) s.fab.addr
      if r.source = s.fab.addr ∨ rankLess mine r.rank then 9 else if rankLess r.rank mine then 6 else 7

/-- NT at an ingress stamp of the Ethernet MAC's cell in 0.125 ns of LT, at the medium side of the PHY (R25, R382). -/
def State.ntStamp (s : State) (stamp : Nat) : Int := s.ntOf (s.ftFine8 stamp - s.p1 pTimeEthRxLatNs 0 * 65536)

/-- NT of what leaves now, at the medium side of the PHY (R25, R382). -/
def State.ntEgress (s : State) : Int := s.ntOf (s.ftNow + s.p1 pTimeEthTxLatNs 0 * 65536)

/-- What a MASTER port announces: the grandmaster, UTC offset and leap flags of the NT record in force, or its own clock (R391, R392). -/
def State.announced (s : State) : PtpSend :=
  match s.time.nt with
  | some r => if r.valid then .announce r.gmId r.gmQuality r.steps r.utcOffset r.leap61 r.leap59 else .announce s.host.ident.uid ppsQuality 0 0 false false
  | none => .announce s.host.ident.uid ppsQuality 0 0 false false

/-- In boundary mode the port's state follows the NT record in force: without a foreign master it is PASSIVE (R392). -/
def boundaryPort (s : State) : State :=
  if s.p1 pTimePtpMode 0 ≠ 3 ∨ ¬ s.ntValid then s
  else
    let st := match s.time.master with | some m => ptpDecide s m | none => 7
    let s1 := { s with time := { s.time with portState := st, lastSync := if st = 9 ∧ s.time.portState ≠ 9 then some s.time.lt else s.time.lastSync } }
    { s1 with time := { s1.time with isSource := s1.time.isSource && s1.ntCandidate } }

/-- The path delay of an exchange: half of what the two ways take together (IEEE 1588). -/
def ptpDelay (t1 t2 t3 t4 : Int) : Int := divHalfUp ((t2 - t1) + (t4 - t3)) 2

/-- An answer leaves on the host's Ethernet port. -/
def ptpAnswer (k : PtpSend) (s : State) : State :=
  if s.host.ethUp then { s with out := { s.out with ptp := s.out.ptp ++ [k] } } else s

/-- PTP_MESSAGE_RX (R25, R386, R387, R391, R392): a Sync is measured by its stamp, the origin timestamp and the path delay. Messages of
another domain, and all while PTP is off, are discarded. Log 258 (DEDUCED). -/
def execPtpMessageRx (t : Nat) (m : PtpMsg) (s : State) : Host.Outcome State Fault Refusal :=
  let s := s.begin t
  let dom := s.pn pTimePtpDomain 0
  if s.p1 pTimePtpMode 0 = 0 then done s
  else match m with
    | .announce d rank steps gm q utc l61 l59 =>
      if d ≠ dom then done s
      else
        let x : Master := { rank := rank, steps := steps, gmId := gm, quality := q, utcOffset := utc, leap61 := l61, leap59 := l59 }
        let best := match s.time.master with
          | some o => if o.gmId = gm ∨ rankLess rank o.rank then x else o
          | none => x
        let st := ptpDecide s best
        done { s with time := { s.time with
          master := some best, portState := st, lastSync := if st = 9 ∧ s.time.portState ≠ 9 then some s.time.lt else s.time.lastSync
          isSource := s.time.isSource && (decide (s.p1 pTimeNtSource 0 ≠ 1) || decide (st = 9)) } }
    | .sync d stamp origin corr =>
      if d ≠ dom ∨ s.time.portState ≠ 9 then done s
      else
        let t2 := s.ntStamp stamp
        let t1 := origin + corr
        let s1 := ({ s with time := { s.time with lastSync := some s.time.lt, ptpSync := some (t1, t2) } }).clearCond fPtpLost 0xFF
        done (if s.p1 pTimeNtSource 0 = 1 then ntMeasure (t2 - t1 - s.time.ptpPath) s1 else s1)
    | .delayResp d t4 =>
      match s.time.ptpSync, s.time.ptpReq with
      | some (t1, t2), some t3 =>
        if d ≠ dom ∨ s.time.portState ≠ 9 ∨ s.p1 pTimePtpDelay 0 ≠ 0 then done s
        else done { s with time := { s.time with ptpPath := ptpDelay t1 t2 t3 t4, ptpReq := none } }
      | _, _ => done s
    | .pdelayResp d stamp t2 t3 =>
      match s.time.ptpReq with
      | some t1 =>
        if d ≠ dom ∨ s.p1 pTimePtpDelay 0 ≠ 1 then done s
        else done { s with time := { s.time with ptpPath := ptpDelay t1 t2 t3 (s.ntStamp stamp), ptpReq := none } }
      | none => done s
    | .delayReq d peer stamp =>
      if d ≠ dom then done s
      else if peer then done (if s.p1 pTimePtpDelay 0 = 1 then ptpAnswer (.pdelayResp (s.ntStamp stamp) s.ntEgress) s else s)
      else done (if s.time.portState = 6 ∧ s.p1 pTimePtpDelay 0 = 0 then ptpAnswer (.delayResp (s.ntStamp stamp)) s else s)
    | .managementGet => done (ptpAnswer .managementResp s)
    | .other => done { s with time := { s.time with ptpUnsupported := incSat 32 s.time.ptpUnsupported } }

/-- PTP_MESSAGE_SEND: a MASTER port announces and syncs, a SLAVE port, or any peer-to-peer port, asks for the delay and keeps the instant at
which the request left; answers leave with what they answer (R25, R391). A master-capable port that has listened for 3 announce intervals
without a foreign master is MASTER. Log 263 (DEDUCED). -/
def execPtpMessageSend (t : Nat) (k : PtpKind) (s : State) : Host.Outcome State Fault Refusal :=
  let s0 := s.begin t
  let waited : Bool := match s0.time.lastSync with | some l => decide (l + 6000000000 ≤ s0.time.lt) | none => true
  let alone := decide (s0.p1 pTimePtpMode 0 = 2 ∧ s0.time.portState = 4 ∧ s0.time.master = none) && waited
  let s := if alone then { s0 with time := { s0.time with portState := 6 } } else s0
  let may : Bool := match k with
    | .announce | .sync => decide (s.time.portState = 6)
    | .delayReq => decide (s.time.portState = 9 ∨ (s.p1 pTimePtpDelay 0 = 1 ∧ s.p1 pTimePtpMode 0 ≠ 0))
  let m : PtpSend := match k with | .announce => s.announced | .sync => .sync s.ntEgress | .delayReq => .delayReq
  let req : Option Int := if k = .delayReq then some s.ntEgress else s.time.ptpReq
  done (if may ∧ s.host.ethUp then { s with out := { s.out with ptp := s.out.ptp ++ [m] }, time := { s.time with ptpReq := req } } else s)

/-- PTP_LOST: a SLAVE port without Sync for 3 announce intervals of 2 s (R403, log 82). -/
def execPtpLost (t : Nat) (s : State) : Host.Outcome State Fault Refusal :=
  let s := s.begin t
  let old : Bool := match s.time.lastSync with | some l => decide (l + 6000000000 ≤ s.time.lt) | none => true
  if s.time.portState = 9 ∧ old then
    done (({ s with time := { s.time with portState := 4, master := none, ptpSync := none, ptpReq := none, ptpPath := 0
                                          isSource := s.time.isSource && decide (s.p1 pTimeNtSource 0 ≠ 1) } }).raise fPtpLost 0xFF)
  else done s

/-! ### NT records (R384, R385) -/

/-- Offset of a record at an instant: NT less FT. -/
def NtRec.offsetAt (r : NtRec) (t : Int) : Int := r.o + shrHalfUp (r.slew * (t - r.sN)) 48

/-- The 56 bytes of a record. -/
def ntBytes (r : NtRec) : List Byte :=
  let flags := packBits [(1, b2n r.valid), (1, b2n r.step), (1, b2n r.utcValid), (1, b2n r.leap61), (1, b2n r.leap59)]
  toLE 4 (r.gen : Int) ++ toLE 4 (r.applyN : Int) ++ toLE 8 (r.o / secFine) ++ toLE 4 (r.o % secFine / 65536) ++ toLE 2 (r.o % 65536) ++
    toLE 2 (flags : Int) ++ toLE 8 r.slew ++ toLE 2 r.utcOffset ++ toLE 1 (r.source : Int) ++ [0] ++ toLE 8 (r.gmId : Int) ++
    toLE 4 (r.gmQuality : Int) ++ toLE 2 (r.steps : Int) ++ toLE 6 0

/-- The record in bytes, as it takes effect at S(APPLY_N). -/
def ntParse (s : State) (b : List Byte) : NtRec :=
  let n := (extendN s.fabN (getU b 4 4)).toNat
  let fl := getU b 22 2
  { gen := getU b 0 4, applyN := n, o := getS b 8 8 * secFine + (getU b 16 4 : Int) * 65536 + (getU b 20 2 : Int)
    valid := bitOf fl 0, step := bitOf fl 1, utcValid := bitOf fl 2, leap61 := bitOf fl 3, leap59 := bitOf fl 4
    slew := clamp (-ppm500) ppm500 (getS b 24 8), utcOffset := getS b 32 2, source := getU b 34 1, gmId := getU b 36 8
    gmQuality := getU b 44 4, steps := getU b 48 2, sN := s.startOf n * 65536 }

/-- A record of another node arrives: ignored when its APPLY_N has passed or its GEN is not newer (R385). The worse of two sources
stops (R386). -/
def takeNtRecord (b : List Byte) (s : State) : State :=
  let r := ntParse s b
  let newer : Bool := match s.ntNewest with
    | some o => decide (r.gen ≠ o.gen) && serialLater 32 o.gen r.gen
    | none => true
  if r.source = s.fab.addr then s
  else
    let s1 := { s with time := { s.time with isSource := s.time.isSource && rankLess s.ntOwnRank r.rank } }
    if r.applyN ≤ s.fabN ∨ ¬ newer then s1 else queueNt r { s1 with time := { s1.time with ntSent := some s.fabN } }

/-- Fabric cycles from now to the first own FERRY berth that a message can take: the present one while such a berth is still to leave. -/
def State.ferryWait (s : State) : Nat :=
  let own := (List.range s.berths.length).filter (fun i => match s.berths[i]? with
    | some b => decide (b.kind = 4 ∧ b.owner = s.fab.addr)
    | none => false)
  if own.any (fun i => !s.fab.launched.contains i) && !s.fab.withdrawn then 0 else 1

/-- A broadcast goes ahead of every ferry message that waits. -/
def ferryFirst (kind msg : Nat) (data : List Byte) (s : State) : State :=
  { s with fab := { s.fab with ferryOut := ⟨0xFF, kind, msg, data, 0, 0, none, 0, none, (0, 0), false⟩ :: s.fab.ferryOut } }

/-- NT_RECORD_SEND: the source's record every 16 fabric cycles, and at once after a step is decided (R385, R388). -/
def execNtRecordSend (t : Nat) (s : State) : Host.Outcome State Fault Refusal :=
  let s := s.begin t
  let tm := s.time
  let due := tm.stepDue.isSome || (match tm.ntSent with | some n => decide (n + 16 ≤ s.fabN) | none => true)
  if ¬ tm.isSource ∨ ¬ due ∨ ¬ (s.ntValid ∨ tm.stepDue.isSome) then done s
  else
    let base := s.ntNewest
    let n := s.fabN + 8 + (if s.fab.st = 5 then s.ferryWait else 0)
    let sN := s.startOf n * 65536
    let o0 : Int := match base with | some r => r.offsetAt sN | none => 0
    let (q, gm, steps) := s.ntOwn
    let utc : Bool × Int × Bool × Bool := match s.p1 pTimeNtSource 0, tm.master with
      | 1, some m => (true, m.utcOffset, m.leap61, m.leap59)
      | _, _ => (false, 0, false, false)
    let gen := match base with | some r => (r.gen + 1) % 2 ^ 32 | none => 1
    let r : NtRec := { gen := gen, applyN := n, o := o0 - tm.stepDue.getD 0, valid := true, step := tm.stepDue.isSome, utcValid := utc.1
                       leap61 := utc.2.2.1, leap59 := utc.2.2.2, slew := tm.servoS, utcOffset := utc.2.1, source := s.fab.addr, gmId := gm
                       gmQuality := q, steps := steps, sN := sN }
    let s1 := queueNt r { s with time := { tm with ntSent := some s.fabN, stepDue := none } }
    done (if s.fab.st = 5 then ferryFirst 6 0xFFF1 (ntBytes { r with applyN := n % 2 ^ 32 }) s1 else s1)

/-- Seconds of NT at an instant. -/
def State.ntSeconds (s : State) : Nat := (s.ntNow / secFine).toNat

/-- NT_RECORD_APPLY: the record takes effect at S(APPLY_N) (R385, R388-R390, R400). -/
def execNtRecordApply (t : Nat) (s : State) : Host.Outcome State Fault Refusal :=
  let s := s.begin t
  match s.time.ntNext with
  | some r =>
    if s.fabN < r.applyN then done s
    else
      let was := s.ntValid
      let s1 := boundaryPort { s with time := { s.time with nt := some r, ntNext := s.time.ntLater.head?, ntLater := s.time.ntLater.drop 1 } }
      let s2 := if r.step then (List.finRange 4).foldl (fun s i => tqStep r.sN i s) s1 else s1
      let s3 := if r.step ∧ s.time.jumpPending then
          ({ s2 with time := { s2.time with jumpPending := false } }).clearCond fJumpRefused 0xFF
        else s2
      let s4 := if r.valid ∧ ¬ was then { s3 with time := { s3.time with keepSeconds := s3.ntSeconds, keepCorrected := some s.time.lt } } else s3
      let held := s.time.holdover && s.ntFresh
      done (if held then ({ s4 with time := { s4.time with holdover := false } }).clearCond fNtHoldover 0xFF else s4)
  | none => done s

/-- NT_HOLDOVER: without a candidate NT runs free, with slew 0 from the next APPLY_N (R386). -/
def execNtHoldover (t : Nat) (s : State) : Host.Outcome State Fault Refusal :=
  let s := s.begin t
  let late : Bool := match s.time.ppsiLast with | some l => decide (2 * secFine < s.ftNow - l) | none => true
  let cand := s.ntCandidate && !(decide (s.p1 pTimeNtSource 0 = 2) && late)
  let s1 := if s.time.isSource ∧ ¬ cand then { s with time := { s.time with isSource := false } } else s
  match s.time.nt with
  | some r =>
    if r.valid ∧ ¬ cand ∧ ¬ s.ntFresh ∧ s.time.ntNext.isNone ∧ ¬ s.time.holdover then
      let n := r.applyN + 16 * ((s.fabN - r.applyN) / 16 + 1)
      let sN := s.startOf n * 65536
      let next : NtRec := { r with applyN := n, o := r.offsetAt sN, sN := sN, slew := 0, step := false }
      done (({ s1 with time := { s1.time with ntNext := some next, holdover := true } }).raise fNtHoldover 0xFF)
    else done s1
  | none => done s1

/-- KEEP_SECONDS_CORRECT: the KEEP counter follows NT every 10 min (R390). -/
def execKeepSecondsCorrect (t : Nat) (s : State) : Host.Outcome State Fault Refusal :=
  let s := s.begin t
  let due : Bool := match s.time.keepCorrected with | some c => decide (c + 600000000000 ≤ s.time.lt) | none => true
  done (if s.ntValid ∧ due then { s with time := { s.time with keepSeconds := s.ntSeconds, keepCorrected := some s.time.lt } } else s)

end Sys2Proof.Machine
end

