-- ==== Sys2Proof/Machine/Mailbox.lean ====
section
/-! DEFINITION. The operand forms of mailbox requests (R426, R434, R435, R438) and the service pass that takes them
(14_host_mailbox.md, R424, R428). -/

namespace Sys2Proof.Machine

/-- The header of a request entry (R426). Log 91 (DEDUCED). -/
def entryHdr (ring : Fin 4) (via : Option (Nat × Nat)) (e : List Byte) : Hdr :=
  let flags := getU e 6 1
  let bulk := bitOf flags 0
  { ring := ring, via := via, tag := getU e 2 2, length := getU e 4 2, bulk := bulk, persist := bitOf flags 1
    more := bitOf flags 2, target := getU e 7 1, bulkOfs := if bulk then getU e 8 2 else 0 }

/-- The payload of MOVE_QUEUE; group points follow the fields (R438, log 13). -/
def parseMove (p : List Byte) : MoveReq :=
  let f := getU p 3 1
  { tgt := getU p 0 1, kind := getU p 1 1, blend := getU p 2 1, replace := bitOf f 0, startAt := bitOf f 1, endRun := bitOf f 2
    reservedFlags := f / 8, vFrac := getU p 4 2, aFrac := getU p 6 2, dFrac := getU p 8 2, jFrac := getU p 10 2, startN := getU p 12 4
    tol := getU p 16 8, target := getS p 24 8, centre0 := getS p 32 8, centre1 := getS p 40 8, turns := getU p 48 1
    points := (chunks 8 ((p.length - 49) / 8) (p.drop 49)).map ofLES }

def parseJog (p : List Byte) : JogReq :=
  { axis := getU p 0 1, kind := getU p 1 1, vFrac := getU p 4 2, aFrac := getU p 6 2, dFrac := getU p 8 2, jFrac := getU p 10 2
    value := getS p 16 8 }

def parseLatch (p : List Byte) : LatchReq :=
  { axis := getU p 0 1, mask := getU p 1 1, win0Start := getS p 8 8, win0End := getS p 16 8, win1Start := getS p 24 8
    win1End := getS p 32 8 }

def parseGear (p : List Byte) : GearReq :=
  { axis := getU p 0 1, kind := getU p 1 1, table := getU p 2 1, land := getU p 3 1, master := getU p 4 4, num := getS p 8 4
    den := getU p 12 4, len := getU p 16 8, mSpec := getU p 24 8, mAbs := getU p 32 1, pTarget := getS p 40 8, xS := getS p 48 8 }

def parseCam (p : List Byte) : CamReq :=
  { table := getU p 0 1, n := getU p 4 4, rise := getS p 8 8, segOfs := getU p 16 4
    ys := (chunks 8 ((p.length - 20) / 8) (p.drop 20)).map ofLES }

def parseTq (p : List Byte) : TqReq :=
  { channel := getU p 0 1, kind := getU p 1 1, scale := getU p 2 1, polarity := getU p 3 1, count := getU p 4 4, t0 := getS p 8 8
    t0ns := getU p 16 4, period := getU p 20 8, width := getU p 28 4 }

def parsePairs (p : List Byte) : List (Nat × Nat) := (chunks 12 (p.length / 12) p).map (fun c => (getU c 0 4, getU c 4 8))

/-- PARAM_STAGE: a segment of an object carries its offset behind the header fields (R435). Log 106 (DEDUCED). -/
def stageOfs (p : List Byte) : Nat × List Byte :=
  if getU p 0 4 / 256 = pCycCbImage then (getU p 8 4, p.drop 12) else (0, p.drop 8)

/-- An opcode that R438 does not name (R428). -/
def unknownOp (opc : Nat) (t : Nat) (h : Hdr) (p : List Byte) (s : State) : Host.Outcome State Fault Refusal :=
  let s := s.begin t
  if s.canTake h then
    done ((s.noteCmd opc h p).respond (refOf h opc) h.bulkOfs { status := stUnknownOp })
  else done s

/-- One request is carried out: `p` is its payload, from the entry or from the bulk region (R438, log 13). -/
def runRequest (opc t : Nat) (h : Hdr) (p : List Byte) (s : State) : Host.Outcome State Fault Refusal :=
  let u := getU p
  if opc = 0x0101 then execParamGet t h (u 0 4) (u 4 1) (u 5 1) s
  else if opc = 0x0102 then execParamSet t h (u 0 4) (u 4 1) (p.drop 8) s
  else if opc = 0x0103 then execParamStage t h (u 0 4) (u 4 1) (stageOfs p).1 (stageOfs p).2 s
  else if opc = 0x0110 then execCheck t h s
  else if opc = 0x0111 then execApply t h (u 0 1) (u 4 4) s
  else if opc = 0x0112 then execDiscard t h s
  else if opc = 0x0201 then execAxisEnable t h (u 0 4) s
  else if opc = 0x0202 then execAxisDisable t h (u 0 4) s
  else if opc = 0x0203 then execModeSet t h (u 0 1) (u 1 1) s
  else if opc = 0x0210 then execMoveQueue t h (parseMove p) s
  else if opc = 0x0211 then execMoveFlush t h (u 0 1) s
  else if opc = 0x0212 then execStop t h (u 0 1) s
  else if opc = 0x0213 then execQuickstop t h (u 0 1) s
  else if opc = 0x0214 then execJog t h (parseJog p) s
  else if opc = 0x0220 then execHome t h (u 0 1) s
  else if opc = 0x0230 then execLatchArm t h (parseLatch p) s
  else if opc = 0x0301 then execTideDefine t h p s
  else if opc = 0x0302 then execTideSchedule t h (u 0 1) (u 4 4) s
  else if opc = 0x0303 then execGearEngage t h (parseGear p) s
  else if opc = 0x0304 then execCamLoad t h (parseCam p) s
  else if opc = 0x0401 then execFaultRead t h (u 0 2) (u 2 2) s
  else if opc = 0x0402 then execFaultAck t h (u 0 2) s
  else if opc = 0x0403 then execFaultInject t h (u 0 1) (u 2 2) (u 4 2) (u 8 4) s
  else if opc = 0x0501 then execTraceSetup t h (parsePairs p) s
  else if opc = 0x0502 then execTraceArm t h (u 0 1) s
  else if opc = 0x0503 then execTraceRead t h (u 0 8) s
  else if opc = 0x0510 then execRecordFreeze t h (u 0 1) s
  else if opc = 0x0511 then execReplayRun t h (u 0 4) (u 4 4) (u 8 4) s
  else if opc = 0x0601 then execTimeGet t h s
  else if opc = 0x0602 then execTimedOutput t h (parseTq p) s
  else if opc = 0x0603 then execTimeAcceptJump t h (u 0 8) s
  else if opc = 0x0701 then execFabricDiscover t h s
  else if opc = 0x0702 then execTimetableLoad t h p s
  else if opc = 0x0703 then execTimetableSwitch t h (u 0 1) s
  else if opc = 0x0801 then execBistRun t h (u 0 1) s
  else if opc = 0x0802 then execLifecycleAdvance t h (u 0 1) (p.drop 1) s
  else if opc = 0x0803 then execDebugChallenge t h (u 0 1) s
  else if opc = 0x0804 then execDebugResponse t h p s
  else if opc = 0x0810 then execFwUpdateBegin t h (u 0 4) (u 4 4) s
  else if opc = 0x0811 then execFwUpdateData t h (u 0 4) (p.drop 4) s
  else if opc = 0x0812 then execFwUpdateEnd t h (u 0 1) s
  else if opc = 0x0901 then execSafetyConfig t h p s
  else unknownOp opc t h p s

/-- The payload of an entry: inline bytes, or the named bulk region (R426). -/
def State.entryPayload (s : State) (h : Hdr) (e : List Byte) : List Byte :=
  if h.bulk then memReadN s.host.mem (0xC000 + h.bulkOfs) (min h.length (0x4000 - h.bulkOfs))
  else (e.drop 8).take h.length

/-- The lowest-numbered ring that holds an entry which may be taken (R424). Log 103 (DEDUCED). -/
def State.nextRing (s : State) : Option (Fin 4) :=
  (List.finRange 4).find? (fun i =>
    let r := s.host.rings.get i
    decide (r.reqProd ≠ r.reqCons) && decide (0 < r.rspRoom) && decide (r.pending < 16))

/-- The oldest request of another node on the lowest-numbered ring that has one. -/
def State.nextRemote (s : State) : Option RemoteReq :=
  (List.finRange 4).findSome? (fun i => s.host.remoteIn.find? (fun m => decide (m.ring = i)))

/-- It goes before an entry of a ring with a higher number (R424, R429). Log 104 (DESIGN CHOICE). -/
def State.remoteFirst (s : State) : Option RemoteReq :=
  match s.nextRemote, s.nextRing with
  | some m, some i => if m.ring < i then some m else none
  | m, none => m
  | none, _ => none

/-- A request of another node is carried out; its response returns there (R429). -/
def runRemote (t : Nat) (m : RemoteReq) (s : State) : Host.Outcome State Fault Refusal :=
  let e := m.data.take 64
  let h := entryHdr m.ring (some (m.src, m.msg)) e
  let p := if h.bulk then (m.data.drop 64).take h.length else (e.drop 8).take h.length
  runRequest (getU e 0 2) t h p { s with host := { s.host with remoteIn := s.host.remoteIn.erase m } }

/-- Fault code of a memory error (R13, R487). -/
def memCode : MemErr → Nat
  | .dramCe => fDramCe
  | .dramUe => fDramUe
  | .ringUe _ _ => fRingUe
  | .supCe => fSupEccCe
  | .supUe => fSupEccUe

/-- A memory error reaches the collector; one in the recorder's ring may end a replay (R13, R559). -/
def memError (e : MemErr) (s : State) : State :=
  let s1 := s.raise (memCode e) 0xFF
  match e with
  | .ringUe n k => replayError n k s1
  | _ => s1

/-- The memory errors that the supervisory processor finds with a pass (R13). Log 233 (DESIGN CHOICE). -/
def memErrors (errs : List MemErr) (s : State) : State := errs.foldl (fun s e => memError e s) s

/-- MAILBOX_SERVICE_PASS: the supervisory processor takes the memory errors and one request (R13, R423, R424, R429). -/
def execMailboxServicePass (p : ServicePass) (s0 : State) : Host.Outcome State Fault Refusal :=
  let s := memErrors p.errs (s0.begin p.t)
  if s.host.hostState = 2 then
    match s.remoteFirst, s.nextRing with
    | some m, _ => runRemote p.t m s
    | none, some i =>
      let r := s.host.rings.get i
      let e := memReadN s.host.mem (0x1000 + 0x1000 * i.val + 64 * (r.reqCons.toNat % 64)) 64
      let h := entryHdr i none e
      runRequest (getU e 0 2) p.t h (s.entryPayload h e) (s.modRing i (fun r => { r with reqCons := r.reqCons + 1 }))
    | none, none => done (s.begin p.t)
  else done (s.begin p.t)

end Sys2Proof.Machine
end

