-- ==== Sys2Proof/Machine/Ferry.lean ====
section
/-! DEFINITION. Ferry messages and the berth frames of the circuit (12_causeway.md, R344-R347, R355, R356, R361, R368, R369). -/

namespace Sys2Proof.Machine

/-! ### Ferry messages (R356) -/

/-- KIND 1: the request of another node waits for the service pass that takes it at the priority of its ring (R429).
Log 104 (DESIGN CHOICE). -/
def ferryRequest (src msg : Nat) (data : List Byte) (s : State) : State :=
  { s with host := { s.host with remoteIn := s.host.remoteIn ++ [⟨ringOf (getU data 0 1), src, msg, data.drop 1⟩] } }

/-- KIND 2: the response to a request of a ring of this node is posted there, with its bulk results (R427, R429, log 41). -/
def ferryResponse (src : Nat) (data : List Byte) (s : State) : State :=
  let mine := fun (m : FerryMsg) => decide (m.kind = 1 ∧ m.peer = src ∧ m.msg = getU data 0 2)
  let e := (data.drop 2).take 64
  match (s.fab.remote ++ s.fab.ferryOut).find? mine with
  | some m =>
    match m.req with
    | some q =>
      let fin := bitOf (getU e 6 1) 4
      let was := s.fab.remote.any (fun m => mine m && m.again)
      let n := if bitOf (getU e 6 1) 0 then min (getU e 4 2) m.region.2 else 0
      let rest := s.fab.remote.filter (fun m => !mine m)
      let s1 := { s with fab := { s.fab with
        ferryOut := s.fab.ferryOut.filter (fun m => !mine m), remote := if fin then rest else rest ++ [{ m with again := true }] } }
      let s2 := s1.modRing (ringOf q.ring) (fun r =>
        { r with pending := if fin then (if was then r.pending - 1 else r.pending) else if was then r.pending else r.pending + 1 })
      (s2.writeMem (0xC000 + m.region.1) ((data.drop 66).take n)).postRsp q.ring e
    | none => s
  | none => s

/-- KIND 4: a definition that the origin schedules, a fetch at the origin, or the definition that was fetched (R277, R280, log 40). -/
def ferryTide (src : Nat) (data : List Byte) (s : State) : State :=
  let kind := getU data 0 1
  let idx := getU data 1 1
  let i : TideId := ⟨idx % 4, by omega⟩
  let x := s.tides.get i
  let origin := s.pn pTideOriginNode i.val
  if 3 < idx then s
  else if kind = 0 then
    if origin = s.fab.addr then
      let (m, s1) := s.nextMsg
      s1.ferrySend src 4 m (tideMsg (x.defn.getD noDef)) none (0, 0)
    else s
  else
    let body := (data.drop 1).take 544
    let n := (extendN s.fabN (getU data 545 4)).toNat
    if origin ≠ src then s
    else if kind = 1 then
      if x.pend.isNone then
        let crc := crc32 body
        let c : TideChange := { n := n, crc := crc, body := body, members := [], acked := [], req := none, origin := false, decision := 0
                                ownAck := false, new := formDef s x n crc body }
        tideAck 17 i (s.modTide i (fun x => { x with pend := some c }))
      else s
    else if kind = 2 ∧ x.st = 2 then
      s.modTide i (fun x => { x with fetched := some { n := n, gen := getU data 549 4, crc := getU data 593 4, body := body
                                                       p0 := getS data 553 16, v0 := getS data 569 16, t0 := getS data 585 8 } })
    else s

/-- KIND 5: a timetable and its persist byte (R355). Log 214 (DEDUCED). -/
def ferryTable (data : List Byte) (s : State) : State :=
  let n := ttSize data
  if getU data 0 1 ≤ 7 ∧ n ≤ data.length then holdTable (data.take n) (decide (getU data n 1 = 1)) s else s

/-- A message that has arrived whole. KIND 6 with MSG 0xFFF1 is an NT record (R385). -/
def ferryDeliver (src kind msg : Nat) (data : List Byte) (s : State) : State :=
  if kind = 1 then ferryRequest src msg data s
  else if kind = 2 then ferryResponse src data s
  else if kind = 4 then ferryTide src data s
  else if kind = 5 then ferryTable data s
  else if kind = 6 ∧ msg = 0xFFF1 then takeNtRecord data s
  else s

/-- An acknowledgement of the segment that a message waits for: the next one may leave, or the message has been sent whole. -/
def ferryAcked (src msg seg : Nat) (s : State) : State :=
  let mine := fun (m : FerryMsg) => decide (m.peer = src ∧ m.msg = msg ∧ m.seg = seg) && m.sentAt.isSome
  match s.fab.ferryOut.find? mine with
  | some m =>
    let len := match m.sentAt with | some (_, l) => l | none => 0
    if m.data.length ≤ m.ofs + len then
      { s with fab := { s.fab with ferryOut := s.fab.ferryOut.filter (fun m => !mine m)
                                   remote := if m.kind = 1 then s.fab.remote ++ [{ m with again := false }] else s.fab.remote } }
    else
      let on := { m with ofs := m.ofs + len, seg := m.seg + 1, sentAt := none, repeats := 0, again := false }
      { s with fab := { s.fab with ferryOut := s.fab.ferryOut.map (fun m => if mine m then on else m) } }
  | none => s

/-- A segment of a message: acknowledged when unicast, assembled in order, and delivered with the last one. Log 218 (DEDUCED). -/
def ferrySegment (dest src msg seg kind : Nat) (last : Bool) (d : List Byte) (s : State) : State :=
  let mine := fun (m : FerryMsg) => decide (m.peer = src ∧ m.msg = msg ∧ m.kind = kind)
  let seen := decide (msg ≠ 0xFFF1) && s.fab.ferrySeen.contains (src, msg)
  let cur := s.fab.ferryIn.find? mine
  let want := match cur with | some m => m.seg | none => 0
  let a := (src, msg, seg, kind)
  let s1 := if dest ≠ 255 ∧ (seen ∨ seg ≤ want) ∧ ¬ s.fab.ferryAcks.contains a then { s with fab := { s.fab with ferryAcks := s.fab.ferryAcks ++ [a] } } else s
  if seen ∨ seg ≠ want then s1
  else
    let data := (match cur with | some m => m.data | none => []) ++ d
    let rest := s.fab.ferryIn.filter (fun m => !mine m)
    if last then
      ferryDeliver src kind msg data { s1 with fab := { s1.fab with ferryIn := rest, ferrySeen := ((src, msg) :: s.fab.ferrySeen).take 64 } }
    else { s1 with fab := { s1.fab with ferryIn := rest ++ [⟨src, kind, msg, data, seg + 1, 0, none, 0, none, (0, 0), false⟩] } }

/-- Entries of a FERRY payload: acknowledgements of 8 bytes, fillers of KIND 0, and one segment up to the end (R356, log 42). -/
def ferryEntries : Nat → List Byte → List (List Byte)
  | 0, _ => []
  | k + 1, p =>
    if p.length < 8 then []
    else if bitOf (getU p 7 1) 1 then p.take 8 :: ferryEntries k (p.drop 8)
    else if getU p 6 1 = 0 then ferryEntries k (p.drop 8)
    else [p]

/-- One entry as this node takes it. -/
def ferryEntry (s : State) (e : List Byte) : State :=
  let dest := getU e 0 1
  let src := getU e 1 1
  let flags := getU e 7 1
  if (dest ≠ s.fab.addr ∧ dest ≠ 255) ∨ src = s.fab.addr then s
  else if bitOf flags 1 then ferryAcked src (getU e 2 2) (getU e 4 2) s
  else ferrySegment dest src (getU e 2 2) (getU e 4 2) (getU e 6 1) (bitOf flags 0) (e.drop 8) s

/-- The payload of a FERRY frame. -/
def ferryTake (p : List Byte) (s : State) : State := (ferryEntries (p.length / 8 + 1) p).foldl ferryEntry s

/-- FERRY_SEGMENT_RX (R356). -/
def execFerrySegmentRx (t : Nat) (payload : List Byte) (s : State) : Host.Outcome State Fault Refusal :=
  let s := s.begin t
  if s.fabLive then done (ferryTake payload s) else done s

/-- FERRY_RETRANSMIT: a segment without acknowledgement for 4 fabric cycles leaves again, up to 8 times; then the message is
abandoned (R356). -/
def execFerryRetransmit (t : Nat) (msg seg : Nat) (s : State) : Host.Outcome State Fault Refusal :=
  let s := s.begin t
  let due := fun (m : FerryMsg) => decide (m.msg = msg ∧ m.seg = seg) && !m.again &&
    (match m.sentAt with | some (n, _) => decide (n + 4 ≤ s.fabN) | none => false)
  match s.fab.ferryOut.find? due with
  | some m =>
    if 8 ≤ m.repeats then
      let s1 := { s with fab := { s.fab with ferryOut := s.fab.ferryOut.filter (fun m => !due m) } }
      match m.kind, m.req with
      | 1, some q => done (s1.respond q m.region.1 { status := stUnreachable })
      | _, _ => done s1
    else
      done { s with fab := { s.fab with ferryOut := s.fab.ferryOut.map (fun m =>
        if due m then { m with repeats := m.repeats + 1, again := true } else m) } }
  | none => done s

/-! ### Launching a berth (R344, R353, R356) -/

/-- Bytes of the segment that a message can send in `room` bytes: a new segment takes all of them, a repeated one keeps its
length, behind fillers (log 42). -/
def ferryFits (room : Nat) (m : FerryMsg) : Option Nat :=
  match m.sentAt with
  | none => if 8 < room then some (room - 8) else none
  | some (_, l) => if m.again ∧ l + 8 ≤ room ∧ (room - 8 - l) % 8 = 0 then some l else none

/-- A message after a segment of `l` bytes has left: a unicast one waits; a broadcast one goes on, three times in all. -/
def ferrySent (n l : Nat) (m : FerryMsg) : Option FerryMsg :=
  if m.peer ≠ 0xFF then some { m with sentAt := some (n, l), again := false }
  else if m.ofs + l < m.data.length then some { m with ofs := m.ofs + l, seg := m.seg + 1 }
  else if m.repeats < 2 then some { m with ofs := 0, seg := 0, repeats := m.repeats + 1 }
  else none

/-- The payload of an own FERRY berth of `len` bytes: acknowledgements first, then one segment. -/
def ferryPack (len : Nat) (s : State) : List Byte × State :=
  let k := min s.fab.ferryAcks.length (len / 8)
  let acks := ((s.fab.ferryAcks.take k).map (fun a =>
    toLE 1 (a.1 : Int) ++ toLE 1 (s.fab.addr : Int) ++ toLE 2 (a.2.1 : Int) ++ toLE 2 (a.2.2.1 : Int) ++ toLE 1 (a.2.2.2 : Int) ++ toLE 1 2)).flatten
  let room := len - 8 * k
  let s1 := { s with fab := { s.fab with ferryAcks := s.fab.ferryAcks.drop k } }
  match s.fab.ferryOut.findIdx? (fun m => (ferryFits room m).isSome) with
  | some i =>
    match s.fab.ferryOut[i]? with
    | some m =>
      let l := (ferryFits room m).getD 0
      let last := decide (m.data.length ≤ m.ofs + l)
      let head := toLE 1 (m.peer : Int) ++ toLE 1 (s.fab.addr : Int) ++ toLE 2 (m.msg : Int) ++ toLE 2 (m.seg : Int) ++ toLE 1 (m.kind : Int) ++
        toLE 1 (b2n last : Int)
      let after := (ferrySent s.fabN l m).toList
      (acks ++ List.replicate (room - 8 - l) 0 ++ head ++ padTo l (m.data.drop m.ofs),
       { s1 with fab := { s1.fab with ferryOut := s.fab.ferryOut.take i ++ after ++ s.fab.ferryOut.drop (i + 1) } })
    | none => (acks ++ List.replicate room 0, s1)
  | none => (acks ++ List.replicate room 0, s1)

/-- The payload of an own PROCESS berth: its records, then empty slots. The node takes the records of its own tides (R284, R353). -/
def processPack (b : Berth) (s : State) : List Byte × State :=
  let step := fun (e : List Byte × State) (src : Nat) =>
    let (r, s1) := e.2.sendRecord src
    (e.1 ++ r, if 0x40 ≤ src then takeRecord s1.fab.addr r s1 else s1)
  let (p, s1) := b.sources.foldl step ([], s)
  (padTo b.len p, s1)

/-- The payload of an own SAFETY berth: the messages that are ready, the newest where not all fit (R506, log 43). -/
def safetyPack (len : Nat) (s : State) : List Byte × State :=
  let q := s.safe.txQueue
  (padTo len (q.drop (q.length - len / 32)).flatten, { s with safe := { s.safe with txQueue := [] } })

/-- The payload of an own berth. -/
def berthPayload (b : Berth) (s : State) : List Byte × State :=
  if b.kind = 1 then (syncPayload s, s)
  else if b.kind = 2 then processPack b s
  else if b.kind = 3 then safetyPack b.len s
  else ferryPack b.len s

/-- An own berth is due: in RUN, not withdrawn, at its offset and before the link window (R344, R346, R365, R366). -/
def State.berthDue (s : State) (i : Nat) : Bool :=
  let b := berthOf s.ttBody i
  s.fabLive && decide (s.fab.st = 5 ∧ i < berthCount s.ttBody ∧ b.owner = s.fab.addr ∧ 1 ≤ b.kind ∧ b.kind ≤ 4) && !s.fab.withdrawn &&
    !s.fab.launched.contains i && s.ftReached s.fabN b.ofs && !s.ftReached (s.fabN + 1) (-2000)

/-- BERTH_LAUNCH (R344). -/
def execBerthLaunch (t : Nat) (berth : Nat) (s : State) : Host.Outcome State Fault Refusal :=
  let s := s.begin t
  if s.berthDue berth then
    let b := berthOf s.ttBody berth
    let (p, s1) := berthPayload b s
    let flags := if b.kind = 2 ∧ 0 < b.count then 1 else 0
    let frame := sealFrame (frameHead b.kind flags s.fab.ttNow s.fab.addr berth (s.fabN % 2 ^ 32) (s.lateness b.ofs) p) false
    let s2 := { s1 with fab := { s1.fab with launched := berth :: s1.fab.launched } }
    done (match s2.launchPort s2.portActive with
      | some q => s2.sendFab q frame
      | none => s2)
  else done s

/-! ### A berth frame arrives (R345-R347, R361) -/

/-- The berth that a frame names, when the node holds its timetable and the frame matches it in owner, kind and length. -/
def State.berthMatch (s : State) (b : List Byte) : Option Berth :=
  let i := getU b 4 2
  match s.table (getU b 2 1) with
  | some body =>
    let x := berthOf body i
    if i < berthCount body ∧ x.owner = fOwner b ∧ x.kind = fType b ∧ x.len = getU b 6 2 then some x else none
  | none => none

/-- LISTEN and JOIN: a SYNC frame leads into JOIN; the next one whose timetable the node holds gives it its time (R368, R369). -/
def berthJoin (port : PortId) (f : CFrame) (s : State) : State :=
  let b := f.body
  if s.fab.st = 1 ∧ fType b = 1 then
    { s with fab := { s.fab with st := 3, stepped := false, joinRun := 0, leader := false, ftValid := false, heard := some s.time.lt } }
  else if s.fab.st = 3 ∧ ¬ s.fab.stepped ∧ fType b = 1 then
    match s.berthMatch b with
    | some x =>
      let s1 := takeTime f.stamp (extendN s.fabN (fCycle b)).toNat x.ofs (s.corrAt port b) s
      { s1 with fab := { s1.fab with ttNow := getU b 2 1, heard := some s.time.lt } }
    | none => { s with fab := { s.fab with heard := some s.time.lt } }
  else { s with fab := { s.fab with heard := some s.time.lt } }

/-- The node writes its own records into its slots as they pass (R345). -/
def fillSlots (x : Berth) (b : List Byte) (s : State) : List Byte × State :=
  let mine := (slotsOf s.ttBody x).filter (fun k => decide (k.node = s.fab.addr ∧ k.pos + 32 ≤ x.len))
  mine.foldl (fun (e : List Byte × State) k =>
    let (r, s1) := e.2.sendRecord k.source
    (e.1.take (16 + k.pos) ++ r ++ e.1.drop (48 + k.pos), if 0x40 ≤ k.source then takeRecord s1.fab.addr r s1 else s1)) (b, s)

/-- The owner's frame has come back: of a PROCESS frame the owner reads the slots (R344, R347). -/
def berthReturn (k : Nat) (b : List Byte) (s : State) : State :=
  match s.berthMatch b with
  | some x =>
    if k = 0 ∧ getU b 2 1 = s.fab.ttNow ∧ x.kind = 2 then
      (slotsOf s.ttBody x).foldl (fun s e => takeRecord e.node (bytesAt (fPayload b) e.pos 32) s) s
    else s
  | none => s

/-- A frame goes on along the circuit, unless it reaches the egress in the link window (R344-R346). -/
def berthForward (port : PortId) (f : CFrame) (b : List Byte) (bad : Bool) (s : State) : State :=
  let window := (s.startOf (s.fabN + 1) - 2000) * 65536
  if s.portActive port ∧ s.ftFine8 f.stamp + 64 * 65536 < window then sendOn port (nextPort s.portActive port) f.stamp b bad s else s

/-- What a node takes from a frame of timetable `tt` and berth `i` that it consumes (R347, R551). -/
def berthTake (x : Berth) (tt i : Nat) (p : List Byte) (s : State) : State :=
  if x.kind = 1 then takeSync x.owner p s
  else if x.kind = 2 then
    (List.range x.sources.length).foldl (fun s j => takeRecord x.owner (bytesAt p (32 * j) 32) s) (s.noteBerth tt i p)
  else if x.kind = 3 then (chunks 32 (p.length / 32) p).foldl (fun s m => safeCopy .causeway m s) s
  else ferryTake p s

/-- The first visit of a good frame in its cycle: its deviation, and its payload when it lies inside the window (R347, R361). Log 212 (DEDUCED). -/
def berthVisit (port : PortId) (f : CFrame) (x : Berth) (s : State) : State :=
  let b := f.body
  let i := getU b 4 2
  let dev := s.deviation f.stamp s.fabN x.ofs (s.corrAt port b)
  let pos := s.ftFine8 f.stamp - s.startOf s.fabN * 65536
  let p := fPayload b
  let s1 := { s with fab := { s.fab with consumed := i :: s.fab.consumed
                                         devs := if x.kind = 1 ∧ bitOf (getU p 1 1) 0 then s.fab.devs ++ [(x.owner, dev, pos)] else s.fab.devs } }
  if absI dev < s.wLim then berthTake x (getU b 2 1) i p s1 else s1

/-- A berth frame of another node. A node without the frame's timetable takes timetables from FERRY frames (R355).
Log 222 (DEDUCED). -/
def berthOther (port : PortId) (f : CFrame) (k : Nat) (s : State) : State :=
  let b := f.body
  if (s.table (getU b 2 1)).isNone ∧ k = 0 ∧ fType b = 4 then
    let s1 := if fCycle b = s.fabN % 2 ^ 32 then berthForward port f b false s else s
    (ferryEntries (b.length / 8 + 1) (fPayload b)).foldl (fun s e => if getU e 6 1 = 5 then ferryEntry s e else s) s1
  else if fCycle b ≠ s.fabN % 2 ^ 32 then s
  else
    match s.berthMatch b with
    | some x =>
      let first := decide (k = 0 ∧ getU b 2 1 = s.fab.ttNow) && !s.fab.consumed.contains (getU b 4 2)
      let (b1, s1) := if first ∧ x.kind = 2 ∧ s.fab.st = 5 ∧ ¬ s.fab.withdrawn then fillSlots x b s else (b, s)
      let s2 := berthForward port f b1 (decide (k ≠ 0)) s1
      if first then berthVisit port f x s2 else s2
    | none => berthForward port f b (decide (k ≠ 0)) s

/-- An own frame: on its last arrival the owner absorbs it; before, at a node in mid-circuit, it goes on (R344, R345). -/
def berthOwn (port : PortId) (f : CFrame) (k : Nat) (s : State) : State :=
  if ¬ s.portActive port then s
  else if s.isBack s.portActive port then berthReturn k f.body s
  else
    match s.berthMatch f.body with
    | some x =>
      let i := getU f.body 4 2
      if k = 0 ∧ getU f.body 2 1 = s.fab.ttNow ∧ x.kind = 2 ∧ s.fab.st = 5 ∧ ¬ s.fab.withdrawn ∧ ¬ s.fab.consumed.contains i then
        let (b1, s1) := fillSlots x f.body s
        berthForward port f b1 false { s1 with fab := { s1.fab with consumed := i :: s1.fab.consumed } }
      else berthForward port f f.body (decide (k ≠ 0)) s
    | none => berthForward port f f.body (decide (k ≠ 0)) s

/-- BERTH_FRAME_RX (R344-R347, R361, R368, R369). -/
def execBerthFrameRx (t : Nat) (port : PortId) (f : CFrame) (s : State) : Host.Outcome State Fault Refusal :=
  let s := s.begin t
  let b := f.body
  let up := decide ((s.port port).st = 2 ∨ (s.port port).st = 3)
  if ¬ s.fabLive ∨ ¬ up then done s
  else
    let k := frameState f
    let s1 := countFrame port k s
    if k = 1 ∨ fType b < 1 ∨ 4 < fType b then done s1
    else
      let s2 := if k = 0 then berthJoin port f s1 else s1
      if fOwner b = s.fab.addr ∧ s.fab.addr ≠ 0xFF then
        done (if fCycle b = s2.fabN % 2 ^ 32 then berthOwn port f k s2 else s2)
      else done (berthOther port f k s2)

end Sys2Proof.Machine
end

