-- ==== Sys2Proof/Machine/Power.lean ====
section
/-! DEFINITION. Supplies, clocks, temperature, reset and the start of the module (01_construction.md, R15-R21; 21_electrical.md,
R591-R598; 14_host_mailbox.md, R431, R439; 20_lifecycle_selftest_ageing.md, R560, R572-R574). -/

namespace Sys2Proof.Machine

/-! ### What a reset leaves -/

/-- KEEP seconds now: the counter as it was last read or set, and the seconds of LT since (R390). Log 224 (DEDUCED). -/
def State.keepNow (s : State) : Nat := s.time.keepSeconds + (s.time.lt - s.time.keepCorrected.getD 0) / 1000000000

/-- Only KEEP is on (R15). -/
def keepOnly : Vector Bool 14 := #v[true, false, false, false, false, false, false, false, false, false, false, false, false, false]

/-- The state with SUP down: what KEEP, the flash, the fuses, the field die's EEPROM and the power management die's own memory
hold, the queue of commands, and what the pins carry (R14, R15, R476, R493, R560, R579). Log 139 (DEDUCED). -/
def powerDown (s : State) : State :=
  { pending := s.pending
    free := s.free
    time := { lt := s.time.lt, keepSeconds := s.keepNow }
    power := { on := keepOnly, vsysMv := s.power.vsysMv, vbakMv := s.power.vbakMv, rstLow := s.power.rstLow, temp := s.power.temp
               keepFault := s.power.keepFault }
    prm := { resetStored := s.prm.resetStored, stored := s.prm.stored }
    host := { ident := { s.host.ident with imageFallback := false, resetCause := 0 } }
    out := s.out
    flt := { errLow := true }
    cams := (s.cams.filter (fun e => e.2.flash.isSome)).map (fun e => (e.1, { flash := e.2.flash }))
    tiles := { storedImage := s.tiles.storedImage }
    fab := { storedTables := s.fab.storedTables }
    safe := { storedConfig := s.safe.storedConfig }
    life := { lc := s.life.lc, fuse := s.life.fuse, oemKey := s.life.oemKey, pwHash := s.life.pwHash, imgA := s.life.imgA
              imgB := s.life.imgB, active := s.life.active, newImage := s.life.newImage, rollback := s.life.rollback
              trial := s.life.trial }
    age := { daily := s.age.daily, dayMin := s.age.dayMin, short := s.age.short } }

/-- The last frames before a shutdown: ENABLE = 0 on every running link; SOA and SOB open first (R592). -/
def lastFrames (s : State) : State :=
  let s1 := s.openSafe
  let s2 := forAxes allAxes (fun a s => axisOff a 4 s) s1
  if s.cyc.cycling then forAxes allAxes (fun a s => sendFrame a (8 * s.time.lt) (offFrame a s)) s2 else s2

/-- A fault whose reaction resets the module is kept in KEEP (R19, R476). -/
def keepFault (code unit level : Nat) (s : State) : State :=
  { s with power := { s.power with keepFault := some (code, unit, level, s.keepNow) } }

/-! ### The start (R18, R431, R439, R560, R572-R574) -/

/-- The image that starts: running image and whether it is the fallback; none when both fail (R572). -/
def bootImage (s : State) (o : BootObs) : Option (Nat × Bool) :=
  let ok := fun (i : Nat) => if i = 0 then s.life.imgA.valid && o.imageAOk else s.life.imgB.valid && o.imageBOk
  let a := s.life.active
  if ok a then some (a, false) else if ok (1 - a) then some (1 - a, true) else none

/-- The identification block (R431), the lifecycle shadow (R560) and the trial (R573). Log 142 (DEDUCED). Log 274 (DEDUCED). -/
def bootIdent (cause : Nat) (o : BootObs) (s : State) : State :=
  let img := bootImage s o
  let run := match img with | some (i, _) => i | none => s.life.active
  let fallback : Bool := match img with | some (_, f) => f | none => false
  let fresh := s.life.newImage && !fallback && img.isSome
  let onTrial := fresh || (s.life.trial.isSome && !fallback && img.isSome)
  let v := (if run = 0 then s.life.imgA else s.life.imgB).version
  let lc := s.life.fuse
  { s with
    host := { s.host with
      hostState := if img.isNone then 3 else if o.ready then 2 else 1
      ident := { s.host.ident with
        fwMajor := v / 2 ^ 24 % 256, fwMinor := v / 2 ^ 16 % 256, fwPatch := v % 65536, image := run, imageFallback := fallback
        resetCause := if fresh then 3 else cause, bootCount := (s.host.ident.bootCount + 1) % 2 ^ 32 } }
    life := { s.life with
      lc := lc, debugOpen := decide (lc = 0 ∨ lc = 3), newImage := false
      trial := if onTrial then some s.time.lt else none, trialReady := if onTrial ∧ o.ready then some s.time.lt else none } }

/-- The collector restores the fault that KEEP holds into slot 0, as LATCHED (R474, R476). Log 138 (DEDUCED). -/
def restoreFault (s : State) : State :=
  let s1 := { s with flt := { s.flt with restored := true } }
  match s.power.keepFault with
  | none => s1
  | some (code, unit, level, sec) =>
    let at_ : Int := (sec : Int) * 1000000000
    let r : FltRec := { code := code, unit := unit, cls := code / 256, level := level, dflt := level, state := 2, fromReset := true
                        timeLt := true, first := at_, last := at_, cleared := at_ }
    { s1 with flt := { s1.flt with recs := [(0, r)], newest := 0, opened := 1 }, power := { s1.power with keepFault := none } }

/-- The domains come up in the order of R18; FAB with a port enabled (R15). The tiles follow from the map. -/
def domainsUp (s : State) : State :=
  let fab := allPorts.any (fun p => decide (s.p1 pFabPortEnable p.val ≠ 0))
  { s with power := { s.power with on := #v[true, true, true, true, false, false, false, false, false, true, fab, true, true, true] } }

/-- Tiles whose slice fails are masked; T4 takes the slots of the lowest working one (R334). -/
def bootSlices (fails : List (Fin 5)) (s : State) : State :=
  let s1 := fails.foldl (fun s i => maskTile i s) s
  let own := ((assignRows s.prm.undercoat).getD 4 []).any (fun x => decide (x ≠ 255))
  let first := (List.finRange 4).find? (fun i => decide (⟨i.val, by omega⟩ ∈ fails))
  let can := decide ((bank1 s.prm.undercoat pCycSpareMode 0) ≠ 0) && !decide ((4 : Fin 5) ∈ fails) && !own
  match first with
  | some i => if can then { s1 with tiles := { s1.tiles with spareOf := some i.val } } else s1
  | none => s1

/-- The stored set is loaded into both banks and checked; without one, or where it fails, the banks hold the defaults (R439).
The margins are re-planned in between (R581). Log 140 (DEDUCED). -/
def bootParams (o : BootObs) (s : State) : State :=
  let load := fun (b : Bank) (valid : Bool) (s : State) =>
    { s with prm := { s.prm with topcoat := b, undercoat := b, topcoatValid := valid, resetLive := s.prm.resetStored } }
  let b := s.prm.stored.getD []
  let s1 := bootSlices o.sliceFails (projectMargins (replan 8000 o.readings (load b false s)))
  let s2 := if s.prm.stored.isSome ∧ (checkBank s1 b).isNone then load b true s1
    else bootSlices o.sliceFails (load [] false { s1 with tiles := { s1.tiles with spareOf := none } })
  { s2 with tiles := { s2.tiles with map := formMap s2 s2.prm.topcoat } }

/-- The tiles that the stored set requires come up last (R18). -/
def bootTiles (s : State) : State :=
  (List.finRange 5).foldl (fun s i =>
    if tileWanted s i then
      (s.setDom (tileDom i) true).modTile i (fun x =>
        { x with powerDue := some (s.time.lt + 2 * s.pn pCycPeriodNs 0), regs := {}, scratch := [] })
    else s) s

/-- TILE_FAIL of the slices that failed: level 1 for the tile whose slots T4 took, else 3 (R334, R336, R487). -/
def sliceRecords (fails : List (Fin 5)) (s : State) : State :=
  fails.foldl (fun s i => s.raiseAt fTileFail (0x60 + i.val) (if s.tiles.spareOf = some i.val then 1 else 3)) s

/-- Custom blocks: the stored image is verified against the key store (R321). -/
def bootBlocks (s : State) : State :=
  let bad := s.life.oemKey.isEmpty || (!s.tiles.storedImage.isEmpty && !imageSigOk s s.tiles.storedImage)
  let s1 := installBlocks s
  if bad then ({ s1 with tiles := { s1.tiles with image := [], prog := [], absent := true } }).raise fCbAbsent 0xFF else s1

/-- Estimates start at their nominal values, and enabled links leave DOWN (R65, R152, R175). -/
def bootAxes (s : State) : State :=
  forAxes allAxes (fun a s => linkEnable a (s.modAxis a (fun x =>
    { x with cur := { x.cur with id := { x.cur.id with est := s.nominal a, used := s.nominal a } }
             vel := { x.vel with jEst := s.jNom a, jUsed := s.jNom a } }))) s

/-- Stored cam tables are loaded, their slopes recomputed on reading (R14). -/
def bootCams (s : State) : State :=
  { s with cams := s.cams.map (fun e => match e.2.flash with
    | some (n, rise, ys) => (e.1, { e.2 with n := n, rise := rise, ys := ys, stored := true })
    | none => e) }

/-- The Causeway at the start: LISTEN, or STANDALONE with no port enabled; stored timetables are held (R14, R366, R369). -/
def bootFab (s : State) : State :=
  let tables := s.fab.storedTables.map (fun e => (e.1, (⟨e.2, crc32 e.2⟩ : Timetable)))
  if s.domOn .fab then s.modFab (fun f => { f with st := 1, tables := tables, listenSince := some s.time.lt })
  else s.modFab (fun f => { f with st := 7, ftValid := true, tables := tables })

/-- The safety paths: their self-test, and the block that the field die holds, which must pass its CRC (R490, R494). -/
def bootSafe (ok : Bool) (s : State) : State :=
  let s1 := { s with safe := { s.safe with proc := { s.safe.proc with tested := ok }, logic := { s.safe.logic with tested := ok } } }
  match s.safe.storedConfig with
  | none => s1
  | some b =>
    if blockCrc b = crc32c (b.take 252) then safeInstall b s1
    else ({ s1 with safe := { s1.safe with badConfig := true } }).raise fConfigBad 0xFF

/-- Request rings are bound as `host.ring_port` says (R415). -/
def bootHost (s : State) : State :=
  let v := s.pn pHostRingPort 0
  let bind := fun (r : Vector Ring 4) (i : Fin 4) => r.set i.val { (r.get i) with port := fieldOf v (2 * i.val) 2 % 3 } i.isLt
  { s with host := { s.host with rings := (List.finRange 4).foldl bind s.host.rings } }

/-- Temperature records at their thresholds, 5 K of hysteresis below (R598). -/
def tempEval (s : State) : State :=
  let row := fun (s : State) (e : Nat × Int × Nat) =>
    let (b, th, code) := e
    let on := bitOf s.power.tempState b
    if ¬ on ∧ th ≤ s.power.temp then
      ({ s with power := { s.power with tempState := s.power.tempState + 2 ^ b } }).raise code 0xFF
    else if on ∧ s.power.temp ≤ th - 50 then
      ({ s with power := { s.power with tempState := s.power.tempState - 2 ^ b } }).clearCond code 0xFF
    else s
  [(0, 1150, fTempWarn), (1, 1220, fTempHigh), (2, 1300, fTempCrit)].foldl row s

/-- An ACTIVE record that a detector governs stands for a code and unit. -/
def State.standing (s : State) (code unit : Nat) : Bool :=
  s.openSlots.any (fun i =>
    let r := s.frec i
    decide (r.code = code ∧ r.unit = unit ∧ r.state = 1) && (r.real || !r.isInj))

/-- A detector's condition as it stands: its record opens once, and clears with its end. -/
def condLevel (bad : Bool) (code unit : Nat) (s : State) : State :=
  if bad then (if s.standing code unit then s else s.raise code unit) else s.clearCond code unit

/-- Supplies at the start: VSYS_LOW between the start threshold and 18 V, VBAK_LOW below its limit or with KEEP lost (R591, R595). Log 143 (DEDUCED). -/
def bootSupplies (o : BootObs) (s : State) : State :=
  let low := decide (o.vsysMv < 18000)
  let s1 := { s with power := { s.power with vsysMv := o.vsysMv, vbakMv := o.vbakMv, vsysLow := low } }
  let s2 := if low then s1.raise fVsysLow 0xFF else s1
  if o.vbakMv < 1950 ∨ ¬ o.keepValid then s2.raise fVbakLow 0xFF else s2

/-- The KEEP seconds as the SUP domain reads them; after a loss of KEEP a value without meaning (R595, log 5).
Log 141 (DESIGN CHOICE). -/
def bootKeep (o : BootObs) (s : State) : State :=
  if o.keepValid then { s with time := { s.time with keepSeconds := o.keepSeconds } }
  else
    let (k, s1) := s.fresh
    { s1 with time := { s1.time with keepSeconds := (Config.freeByte k).toNat }, power := { s1.power with keepFault := none } }

/-- Everything that a start does once the domains are up: LT begins at 0 (R18, R378). Without a valid image no firmware runs and
every output stays off (R572). Log 134 (DESIGN CHOICE). Log 135 (DEDUCED). -/
def boot (cause : Nat) (o : BootObs) (s : State) : State :=
  let s0 := powerDown s
  let s1 := bootIdent cause o (bootKeep o { s0 with time := { s0.time with lt := 0 } })
  if s1.host.hostState = 3 then restoreFault { s1 with power := { s1.power with
    vsysMv := o.vsysMv, on := #v[true, true, true, false, false, false, false, false, false, false, false, true, true, true] } }
  else
    let s2 := restoreFault s1
    let s3 := if s2.host.ident.imageFallback then s2.raise fFwFallback 0xFF else s2
    let s4 := domainsUp (bootParams o { s3 with power := { s3.power with on := s3.power.on.set 1 true } })
    let s5 := bootCams (bootBlocks (bootFab s4))
    let s6 := sliceRecords o.sliceFails (bootAxes (ptpMode s5.prm.topcoat (canConfigure 1 (canConfigure 0 (bootHost s5)))))
    let s7 := bootSafe o.safeTestOk s6
    let s8 := if o.postOk then s7 else s7.raise fPostFail 0xFF
    startCycling (safeEval (tempEval (bootSupplies o (tileDomains (bootTiles s8)))))

/-! ### Reset and supply events -/

/-- What a start reports as RESET_CAUSE of its own: the fault that KEEP holds, or the given cause (R431). Log 137 (DEDUCED). -/
def State.causeOf (s : State) (dflt : Nat) : Nat :=
  match s.power.keepFault with
  | some (code, _, _, _) => if code = fSupWatchdog then 4 else 2
  | none => dflt

/-- POWER_UP: VSYS has risen past the start threshold (R18, R591). With RST_N low the start waits for it to rise (R593).
Log 136 (DEDUCED). -/
def execPowerUp (t : Nat) (boot_ : BootObs) (s : State) : Host.Outcome State Fault Refusal :=
  let s := s.begin t
  if s.domOn .sup ∨ s.power.rstLow ∨ boot_.vsysMv < 16500 then done s else done (boot (s.causeOf 0) boot_ s)

/-- VSYS_LOW: VSYS below 17.5 V for 1 ms (R591). -/
def execVsysLow (t : Nat) (mv : Nat) (s : State) : Host.Outcome State Fault Refusal :=
  let s := s.begin t
  let s1 := { s with power := { s.power with vsysMv := mv } }
  if s.domOn .sup ∧ mv < 17500 ∧ ¬ s.power.vsysLow then
    done (({ s1 with power := { s1.power with vsysLow := true } }).raise fVsysLow 0xFF)
  else done s1

/-- VSYS_LOW_CLEAR: VSYS at 18 V again (R591). -/
def execVsysLowClear (t : Nat) (mv : Nat) (s : State) : Host.Outcome State Fault Refusal :=
  let s := s.begin t
  let s1 := { s with power := { s.power with vsysMv := mv } }
  if s.power.vsysLow ∧ 18000 ≤ mv then
    done (({ s1 with power := { s1.power with vsysLow := false } }).clearCond fVsysLow 0xFF)
  else done s1

/-- SHUTDOWN: VSYS below 15.5 V for 50 us (R591, R592). -/
def execShutdown (t : Nat) (mv : Nat) (s : State) : Host.Outcome State Fault Refusal :=
  let s := s.begin t
  let s1 := { s with power := { s.power with vsysMv := mv } }
  if s.domOn .sup ∧ mv < 15500 then done (powerDown (lastFrames s1)) else done s1

/-- RST_N_LOW: a low of 10 us or longer acts as a shutdown with VSYS present (R593). -/
def execRstNLow (t : Nat) (s : State) : Host.Outcome State Fault Refusal :=
  let s := s.begin t
  let s1 := { s with power := { s.power with rstLow := true } }
  if s.domOn .sup then done (powerDown (lastFrames s1)) else done s1

/-- RST_N_HIGH: the order of R18 starts again (R593). -/
def execRstNHigh (t : Nat) (boot_ : BootObs) (s : State) : Host.Outcome State Fault Refusal :=
  let s := s.begin t
  if ¬ s.power.rstLow then done s
  else
    let s1 := { s with power := { s.power with rstLow := false } }
    if boot_.vsysMv < 16500 then done s1 else done (boot 1 boot_ s1)

/-- LIFECYCLE_RESET: 10 ms after the response (R565). -/
def execLifecycleReset (t : Nat) (boot_ : BootObs) (s : State) : Host.Outcome State Fault Refusal :=
  let s := s.begin t
  match s.life.resetDue with
  | some d => if d ≤ s.time.lt then done (boot 5 boot_ (lastFrames s)) else done s
  | none => done s

/-- The previous image is active again (R573). -/
def rollBack (s : State) : State :=
  { s with life := { s.life with active := 1 - s.host.ident.image, newImage := false, trial := none, trialReady := none } }

/-- FW_TRIAL_READY_TIMEOUT: a new image that is not ready within 2 s is rolled back, and the module resets (R573). -/
def execFwTrialReadyTimeout (t : Nat) (boot_ : BootObs) (s : State) : Host.Outcome State Fault Refusal :=
  let s := s.begin t
  match s.life.trial, s.life.trialReady with
  | some a, none => if a + 2000000000 ≤ s.time.lt then done (boot 3 boot_ (rollBack (lastFrames s))) else done s
  | _, _ => done s

/-- SUP_WATCHDOG: level 5, and the module resets; in the 60 s of a trial the previous image comes back (R476, R487, R573). -/
def execSupWatchdog (t : Nat) (boot_ : BootObs) (s : State) : Host.Outcome State Fault Refusal :=
  let s := s.begin t
  if ¬ s.domOn .sup then done s
  else
    let s1 := keepFault fSupWatchdog 0xFF 5 (lastFrames (settle (s.raise fSupWatchdog 0xFF)))
    let trial : Bool := match s.life.trial, s.life.trialReady with
      | some _, some r => decide (s.time.lt < r + 60000000000)
      | some _, none => true
      | _, _ => false
    done (boot 4 boot_ (if trial then rollBack s1 else s1))

/-! ### Domains (R15, R16, R19) -/

/-- Domains go off, those that require others first (R16). -/
def domainsOff (l : List Domain) (s : State) : State := l.foldl (fun s d => s.setDom d false) s

def tileDomList : List Domain := [.t0, .t1, .t2, .t3, .t4]

/-- A tile's domain is lost: the tile fails under R330, at level 1 with a spare, else 3 (R19). A pass of the cycle whose tile window is
open is undone. -/
def tileDomainLost (i : Fin 5) (s : State) : State :=
  let level := if s.spareFree ∧ i.val < 4 then 1 else 3
  let s1 := (s.setDom (tileDom i) false).modTile i (fun x => { x with powerDue := none, regs := {}, scratch := [] })
  let s2 := if s1.cyc.opened ∧ ¬ s1.cyc.closed ∧ ¬ s1.isTx i then undoTile i s1 else s1
  refreshTiles ((tileFails i false s2).raiseAt fDomainLost (0x74 + i.val) level)

/-- Every Causeway port is down, and the node has left the fabric; its time goes on (R19, R32, R366). -/
def fabricOff (s : State) : State :=
  (allPorts.foldl (fun s p => dropPort p s) s).modFab (fun f => { f with st := 0, leader := false, ring := false, corr := 0, ttNow := 0xF })

/-- What the loss of a domain does beside its record (R19). -/
def domainEffect (d : Domain) (s : State) : State :=
  match d with
  | .prof => refreshTiles (domainsOff (tileDomList ++ [.prof]) s)
  | .axl => forAxes allAxes toDown (s.setDom .axl false)
  | .fab => fabricOff (s.setDom .fab false)
  | .host => (List.finRange 2).foldl (fun s c => canOff c s) (s.setDom .host false)
  | .safe => safeEval (s.setDom .safe false)
  | .field => safeEval (applyOut (s.setDom .field false))
  | _ => s

/-- DOMAIN_LOST: the domain is switched off and a POWER record raised; SUP and MEM reset the module, whose record KEEP holds
(R19, R476). KEEP itself has no loss (log 14). -/
def execDomainLost (t : Nat) (d : Domain) (s : State) : Host.Outcome State Fault Refusal :=
  let s := s.begin t
  let u := 0x70 + (domIdx d).val
  if d = .keep ∨ ¬ s.domOn d then done s
  else match d with
    | .sup | .mem => done (powerDown (keepFault fDomainLost u 5 (lastFrames s)))
    | .t0 => done (tileDomainLost 0 s)
    | .t1 => done (tileDomainLost 1 s)
    | .t2 => done (tileDomainLost 2 s)
    | .t3 => done (tileDomainLost 3 s)
    | .t4 => done (tileDomainLost 4 s)
    | _ =>
      let s1 := { s with power := { s.power with lost := s.power.lost ++ [(domIdx d).val] } }
      done (domainEffect d (settle (s1.raise fDomainLost u)))

/-! ### Clocks, VBAK and temperature -/

/-- Out of a window in ppm. -/
def outside (lim ppm : Int) (stopped : Bool) : Bool := stopped || decide (ppm < -lim ∨ lim < ppm)

/-- CLOCK_CHECK (R21): REF against KEEP, SAFE and REF against each other, FIELD against its frames. With REF lost the timed
outputs go low (R400). -/
def execClockCheck (t : Nat) (rel : ClockRel) (ppm : Int) (stopped : Bool) (s : State) : Host.Outcome State Fault Refusal :=
  let s := s.begin t
  if ¬ s.domOn .sup then done s
  else match rel with
    | .refKeep =>
      let s1 := { s with power := { s.power with refPpm := ppm, refStopped := stopped } }
      let s2 := condLevel (outside 1000 ppm stopped) fRefFail 0xFF (condLevel (outside 200 ppm stopped) fRefDrift 0xFF s1)
      done (bistWindow (if stopped then tqLow s2 else s2))
    | .safeRef | .refSafe =>
      done (condLevel (outside 100000 ppm stopped) fSafeClock 0xFF { s with power := { s.power with safePpm := ppm } })
    | .field => done (condLevel (outside 100000 ppm stopped) fFieldClock 0xFF s)

/-- PLL_UNLOCK: a lock detector reports loss of lock (R21). -/
def execPllUnlock (t : Nat) (pll : Fin 14) (s : State) : Host.Outcome State Fault Refusal :=
  let s := s.begin t
  if ¬ s.domOn .sup ∨ s.power.pllLost.contains pll.val then done s
  else done (({ s with power := { s.power with pllLost := s.power.pllLost ++ [pll.val] } }).raise fPllUnlock 0xFF)

/-- PLL_LOCK_REGAINED: the condition ends once every detector reports lock (R21). -/
def execPllLockRegained (t : Nat) (pll : Fin 14) (s : State) : Host.Outcome State Fault Refusal :=
  let s := s.begin t
  let l := s.power.pllLost.filter (fun i => decide (i ≠ pll.val))
  let s1 := { s with power := { s.power with pllLost := l } }
  if s.power.pllLost.contains pll.val ∧ l.isEmpty then done (s1.clearCond fPllUnlock 0xFF) else done s1

/-- VBAK_CHECK: once per minute with VSYS present (R595). -/
def execVbakCheck (t : Nat) (mv : Nat) (s : State) : Host.Outcome State Fault Refusal :=
  let s := s.begin t
  if ¬ s.domOn .sup then done s
  else done (condLevel (decide (mv < 1950)) fVbakLow 0xFF { s with power := { s.power with vbakMv := mv } })

/-- TEMP_THRESHOLD: the hottest sensor's temperature (R598). -/
def execTempThreshold (t : Nat) (deci : Int) (s : State) : Host.Outcome State Fault Refusal :=
  let s := s.begin t
  let s1 := { s with power := { s.power with temp := deci } }
  if s.domOn .sup then done (bistWindow (tempEval s1)) else done s1

end Sys2Proof.Machine
end

