-- ==== Sys2Proof/Machine/Dispatch.lean ====
section
/-! DEFINITION. One arm for each command of the table. -/

namespace Sys2Proof.Machine

/-- The effect of a command on everything but the queue. -/
def exec (i : Instr) (s : State) : Host.Outcome State Fault Refusal :=
  match i with
  | .paramGet t h id count bank => Sys2Proof.Machine.execParamGet t h id count bank s
  | .paramSet t h id count vals => Sys2Proof.Machine.execParamSet t h id count vals s
  | .paramStage t h id count ofs vals => Sys2Proof.Machine.execParamStage t h id count ofs vals s
  | .check t h => Sys2Proof.Machine.execCheck t h s
  | .apply t h when_ n => Sys2Proof.Machine.execApply t h when_ n s
  | .discard t h => Sys2Proof.Machine.execDiscard t h s
  | .axisEnable t h mask => Sys2Proof.Machine.execAxisEnable t h mask s
  | .axisDisable t h mask => Sys2Proof.Machine.execAxisDisable t h mask s
  | .modeSet t h axis mode => Sys2Proof.Machine.execModeSet t h axis mode s
  | .moveQueue t h m => Sys2Proof.Machine.execMoveQueue t h m s
  | .moveFlush t h tgt => Sys2Proof.Machine.execMoveFlush t h tgt s
  | .stop t h tgt => Sys2Proof.Machine.execStop t h tgt s
  | .quickstop t h tgt => Sys2Proof.Machine.execQuickstop t h tgt s
  | .jog t h j => Sys2Proof.Machine.execJog t h j s
  | .home t h axis => Sys2Proof.Machine.execHome t h axis s
  | .latchArm t h l => Sys2Proof.Machine.execLatchArm t h l s
  | .tideDefine t h body => Sys2Proof.Machine.execTideDefine t h body s
  | .tideSchedule t h tide n => Sys2Proof.Machine.execTideSchedule t h tide n s
  | .gearEngage t h g => Sys2Proof.Machine.execGearEngage t h g s
  | .camLoad t h c => Sys2Proof.Machine.execCamLoad t h c s
  | .faultRead t h first count => Sys2Proof.Machine.execFaultRead t h first count s
  | .faultAck t h record => Sys2Proof.Machine.execFaultAck t h record s
  | .faultInject t h cls code unit window => Sys2Proof.Machine.execFaultInject t h cls code unit window s
  | .traceSetup t h pairs => Sys2Proof.Machine.execTraceSetup t h pairs s
  | .traceArm t h action => Sys2Proof.Machine.execTraceArm t h action s
  | .traceRead t h ofs => Sys2Proof.Machine.execTraceRead t h ofs s
  | .recordFreeze t h action => Sys2Proof.Machine.execRecordFreeze t h action s
  | .replayRun t h first cycles mask => Sys2Proof.Machine.execReplayRun t h first cycles mask s
  | .timeGet t h => Sys2Proof.Machine.execTimeGet t h s
  | .timedOutput t h p => Sys2Proof.Machine.execTimedOutput t h p s
  | .timeAcceptJump t h seconds => Sys2Proof.Machine.execTimeAcceptJump t h seconds s
  | .fabricDiscover t h => Sys2Proof.Machine.execFabricDiscover t h s
  | .timetableLoad t h body => Sys2Proof.Machine.execTimetableLoad t h body s
  | .timetableSwitch t h tt => Sys2Proof.Machine.execTimetableSwitch t h tt s
  | .bistRun t h scope => Sys2Proof.Machine.execBistRun t h scope s
  | .lifecycleAdvance t h target body => Sys2Proof.Machine.execLifecycleAdvance t h target body s
  | .debugChallenge t h kind => Sys2Proof.Machine.execDebugChallenge t h kind s
  | .debugResponse t h body => Sys2Proof.Machine.execDebugResponse t h body s
  | .fwUpdateBegin t h len version => Sys2Proof.Machine.execFwUpdateBegin t h len version s
  | .fwUpdateData t h ofs body => Sys2Proof.Machine.execFwUpdateData t h ofs body s
  | .fwUpdateEnd t h activate => Sys2Proof.Machine.execFwUpdateEnd t h activate s
  | .safetyConfig t h body => Sys2Proof.Machine.execSafetyConfig t h body s
  | .reqProdWrite t port ring v => Sys2Proof.Machine.execReqProdWrite t port ring v s
  | .rspConsWrite t port ring v => Sys2Proof.Machine.execRspConsWrite t port ring v s
  | .evtConsWrite t port v => Sys2Proof.Machine.execEvtConsWrite t port v s
  | .heartbeatWrite t port v => Sys2Proof.Machine.execHeartbeatWrite t port v s
  | .hostSilent t => Sys2Proof.Machine.execHostSilent t s
  | .evtRegisterRead t port => Sys2Proof.Machine.execEvtRegisterRead t port s
  | .hostErrRead t port => Sys2Proof.Machine.execHostErrRead t port s
  | .fldCntRead t port => Sys2Proof.Machine.execFldCntRead t port s
  | .canStatRead t port ch => Sys2Proof.Machine.execCanStatRead t port ch s
  | .fldOutWrite t port v => Sys2Proof.Machine.execFldOutWrite t port v s
  | .objStatClear t port v => Sys2Proof.Machine.execObjStatClear t port v s
  | .txReq t port => Sys2Proof.Machine.execTxReq t port s
  | .registerWrite t port addr bytes => Sys2Proof.Machine.execRegisterWrite t port addr bytes s
  | .qspiFast t addr n until_ => Sys2Proof.Machine.execQspiFast t addr n until_ s
  | .qspiRead t addr n until_ => Sys2Proof.Machine.execQspiRead t addr n until_ s
  | .qspiWrite t addr bytes => Sys2Proof.Machine.execQspiWrite t addr bytes s
  | .qspiUnknownCommand t cmd => Sys2Proof.Machine.execQspiUnknownCommand t cmd s
  | .ethWindowRead t f => Sys2Proof.Machine.execEthWindowRead t f s
  | .ethWindowWrite t f => Sys2Proof.Machine.execEthWindowWrite t f s
  | .ethFrameDiscard t f => Sys2Proof.Machine.execEthFrameDiscard t f s
  | .ethLink t up => Sys2Proof.Machine.execEthLink t up s
  | .mailboxServicePass p => Sys2Proof.Machine.execMailboxServicePass p s
  | .controlCycleStart t => Sys2Proof.Machine.execControlCycleStart t s
  | .upstreamFrameRx t ax b => Sys2Proof.Machine.execUpstreamFrameRx t ax b s
  | .upstreamDeadline t => Sys2Proof.Machine.execUpstreamDeadline t s
  | .lostFrameLimit t ax => Sys2Proof.Machine.execLostFrameLimit t ax s
  | .tileWindowOpen t obs => Sys2Proof.Machine.execTileWindowOpen t obs s
  | .tileWindowClose t obs => Sys2Proof.Machine.execTileWindowClose t obs s
  | .selfTestSliceDone t txPass t4Pass => Sys2Proof.Machine.execSelfTestSliceDone t txPass t4Pass s
  | .snapshotCopyDone t => Sys2Proof.Machine.execSnapshotCopyDone t s
  | .downstreamSend t stamps => Sys2Proof.Machine.execDownstreamSend t stamps s
  | .fastStatusFlip t => Sys2Proof.Machine.execFastStatusFlip t s
  | .cyclingStart t => Sys2Proof.Machine.execCyclingStart t s
  | .applyPrepared t => Sys2Proof.Machine.execApplyPrepared t s
  | .applyTakeEffect t => Sys2Proof.Machine.execApplyTakeEffect t s
  | .applyPersistDone t ok => Sys2Proof.Machine.execApplyPersistDone t ok s
  | .fabricApplyDecision t => Sys2Proof.Machine.execFabricApplyDecision t s
  | .fabricApplySwitch t => Sys2Proof.Machine.execFabricApplySwitch t s
  | .modeSwitchCycle t ax => Sys2Proof.Machine.execModeSwitchCycle t ax s
  | .enableCycle t => Sys2Proof.Machine.execEnableCycle t s
  | .linkWakeRx t ax b => Sys2Proof.Machine.execLinkWakeRx t ax b s
  | .linkTrainRx t ax b => Sys2Proof.Machine.execLinkTrainRx t ax b s
  | .trainFail t ax => Sys2Proof.Machine.execTrainFail t ax s
  | .measureDone t ax => Sys2Proof.Machine.execMeasureDone t ax s
  | .linkIdleExchange t ax stamp => Sys2Proof.Machine.execLinkIdleExchange t ax stamp s
  | .linkLost t ax => Sys2Proof.Machine.execLinkLost t ax s
  | .eyeLow t ax => Sys2Proof.Machine.execEyeLow t ax s
  | .stoMismatch t ax => Sys2Proof.Machine.execStoMismatch t ax s
  | .tripClearTimeout t ax => Sys2Proof.Machine.execTripClearTimeout t ax s
  | .idBound t ax => Sys2Proof.Machine.execIdBound t ax s
  | .stepperHoldReduce t ax => Sys2Proof.Machine.execStepperHoldReduce t ax s
  | .moveStartAtDue t tgt => Sys2Proof.Machine.execMoveStartAtDue t tgt s
  | .jogTimeout t ax => Sys2Proof.Machine.execJogTimeout t ax s
  | .standstill t ax => Sys2Proof.Machine.execStandstill t ax s
  | .stopTimeout t ax => Sys2Proof.Machine.execStopTimeout t ax s
  | .homePhaseEnd t ax => Sys2Proof.Machine.execHomePhaseEnd t ax s
  | .homePressed t ax => Sys2Proof.Machine.execHomePressed t ax s
  | .limitDebounce t ax sw => Sys2Proof.Machine.execLimitDebounce t ax sw s
  | .chatterEnd t ax sw => Sys2Proof.Machine.execChatterEnd t ax sw s
  | .emulatorEdge t => Sys2Proof.Machine.execEmulatorEdge t s
  | .tilePowered t tile => Sys2Proof.Machine.execTilePowered t tile s
  | .tideDecision t tide => Sys2Proof.Machine.execTideDecision t tide s
  | .tideSwitch t tide => Sys2Proof.Machine.execTideSwitch t tide s
  | .tideAdopt t tide => Sys2Proof.Machine.execTideAdopt t tide s
  | .tideStale t tide => Sys2Proof.Machine.execTideStale t tide s
  | .masterStale t ax => Sys2Proof.Machine.execMasterStale t ax s
  | .gearEngageBegin t ax => Sys2Proof.Machine.execGearEngageBegin t ax s
  | .gearSynced t ax => Sys2Proof.Machine.execGearSynced t ax s
  | .fabricCycleStart t => Sys2Proof.Machine.execFabricCycleStart t s
  | .berthLaunch t berth => Sys2Proof.Machine.execBerthLaunch t berth s
  | .berthFrameRx t port f => Sys2Proof.Machine.execBerthFrameRx t port f s
  | .clockSyncUpdate t => Sys2Proof.Machine.execClockSyncUpdate t s
  | .noSource t => Sys2Proof.Machine.execNoSource t s
  | .syncLost t => Sys2Proof.Machine.execSyncLost t s
  | .silentReturn t => Sys2Proof.Machine.execSilentReturn t s
  | .joinComplete t => Sys2Proof.Machine.execJoinComplete t s
  | .nodesLost t => Sys2Proof.Machine.execNodesLost t s
  | .portLock t port => Sys2Proof.Machine.execPortLock t port s
  | .linkDown t port why => Sys2Proof.Machine.execLinkDown t port why s
  | .probeSend t port stamp => Sys2Proof.Machine.execProbeSend t port stamp s
  | .probeRx t port f => Sys2Proof.Machine.execProbeRx t port f s
  | .coldstartEntry t => Sys2Proof.Machine.execColdstartEntry t s
  | .coldstartSend t => Sys2Proof.Machine.execColdstartSend t s
  | .coldstartRx t port f => Sys2Proof.Machine.execColdstartRx t port f s
  | .censusRx t port f => Sys2Proof.Machine.execCensusRx t port f s
  | .censusReturn t f => Sys2Proof.Machine.execCensusReturn t f s
  | .assignRx t port f => Sys2Proof.Machine.execAssignRx t port f s
  | .autoDiscovery t => Sys2Proof.Machine.execAutoDiscovery t s
  | .startFrameRx t port f => Sys2Proof.Machine.execStartFrameRx t port f s
  | .timetableSwitchAt t => Sys2Proof.Machine.execTimetableSwitchAt t s
  | .ferrySegmentRx t payload => Sys2Proof.Machine.execFerrySegmentRx t payload s
  | .ferryRetransmit t msg seg => Sys2Proof.Machine.execFerryRetransmit t msg seg s
  | .timetableRepeat t => Sys2Proof.Machine.execTimetableRepeat t s
  | .timetableLoadTimeout t => Sys2Proof.Machine.execTimetableLoadTimeout t s
  | .ptpMessageRx t m => Sys2Proof.Machine.execPtpMessageRx t m s
  | .ptpMessageSend t k => Sys2Proof.Machine.execPtpMessageSend t k s
  | .ptpLost t => Sys2Proof.Machine.execPtpLost t s
  | .ppsiEdge t => Sys2Proof.Machine.execPpsiEdge t s
  | .ntRecordSend t => Sys2Proof.Machine.execNtRecordSend t s
  | .ntRecordApply t => Sys2Proof.Machine.execNtRecordApply t s
  | .ntHoldover t => Sys2Proof.Machine.execNtHoldover t s
  | .keepSecondsCorrect t => Sys2Proof.Machine.execKeepSecondsCorrect t s
  | .tqEdge t ch => Sys2Proof.Machine.execTqEdge t ch s
  | .ppsoEdge t => Sys2Proof.Machine.execPpsoEdge t s
  | .clockCheck t rel ppm stopped => Sys2Proof.Machine.execClockCheck t rel ppm stopped s
  | .pllUnlock t pll => Sys2Proof.Machine.execPllUnlock t pll s
  | .injectionWindowEnd t slot => Sys2Proof.Machine.execInjectionWindowEnd t slot s
  | .safetyExchangeFrame t f => Sys2Proof.Machine.execSafetyExchangeFrame t f s
  | .safeInputFilter t path input level => Sys2Proof.Machine.execSafeInputFilter t path input level s
  | .testPulse t tp low readings => Sys2Proof.Machine.execTestPulse t tp low readings s
  | .discrepancy t path pair => Sys2Proof.Machine.execDiscrepancy t path pair s
  | .ss1TimerEnd t path => Sys2Proof.Machine.execSs1TimerEnd t path s
  | .resetRelease t path => Sys2Proof.Machine.execResetRelease t path s
  | .soReadback t path out => Sys2Proof.Machine.execSoReadback t path out s
  | .safeMessageSend t => Sys2Proof.Machine.execSafeMessageSend t s
  | .safeMessageRx t net body => Sys2Proof.Machine.execSafeMessageRx t net body s
  | .msgWatchdog t sub net => Sys2Proof.Machine.execMsgWatchdog t sub net s
  | .safetyConfigDone t procCrc logicCrc => Sys2Proof.Machine.execSafetyConfigDone t procCrc logicCrc s
  | .diEdge t input level => Sys2Proof.Machine.execDiEdge t input level s
  | .diFilterExpiry t input => Sys2Proof.Machine.execDiFilterExpiry t input s
  | .wireBreak t input broken => Sys2Proof.Machine.execWireBreak t input broken s
  | .fieldLinkDownFrame t => Sys2Proof.Machine.execFieldLinkDownFrame t s
  | .fieldLinkUpFrame t f => Sys2Proof.Machine.execFieldLinkUpFrame t f s
  | .fieldSilent t => Sys2Proof.Machine.execFieldSilent t s
  | .fieldDownSilence t => Sys2Proof.Machine.execFieldDownSilence t s
  | .vfldSag t => Sys2Proof.Machine.execVfldSag t s
  | .vfldRestore t => Sys2Proof.Machine.execVfldRestore t s
  | .dqOverload t o => Sys2Proof.Machine.execDqOverload t o s
  | .dqExternal t o => Sys2Proof.Machine.execDqExternal t o s
  | .openLoad t o => Sys2Proof.Machine.execOpenLoad t o s
  | .canFrameRx t ch f => Sys2Proof.Machine.execCanFrameRx t ch f s
  | .canTxDone t ch obj ok sof => Sys2Proof.Machine.execCanTxDone t ch obj ok sof s
  | .canPeriodicDue t ch obj => Sys2Proof.Machine.execCanPeriodicDue t ch obj s
  | .canBusError t ch e => Sys2Proof.Machine.execCanBusError t ch e s
  | .busOffRecovery t ch => Sys2Proof.Machine.execBusOffRecovery t ch s
  | .recorderFreeze t => Sys2Proof.Machine.execRecorderFreeze t s
  | .replayDone t => Sys2Proof.Machine.execReplayDone t s
  | .bistDone t countOk sigOk => Sys2Proof.Machine.execBistDone t countOk sigOk s
  | .lifecycleProgrammed t => Sys2Proof.Machine.execLifecycleProgrammed t s
  | .lifecycleReset t boot => Sys2Proof.Machine.execLifecycleReset t boot s
  | .debugNonceExpire t => Sys2Proof.Machine.execDebugNonceExpire t s
  | .debugAuthDelay t => Sys2Proof.Machine.execDebugAuthDelay t s
  | .fwTrialReadyTimeout t boot => Sys2Proof.Machine.execFwTrialReadyTimeout t boot s
  | .fwTrialEnd t => Sys2Proof.Machine.execFwTrialEnd t s
  | .ageingMeasure t readings => Sys2Proof.Machine.execAgeingMeasure t readings s
  | .marginReplan t readings => Sys2Proof.Machine.execMarginReplan t readings s
  | .powerUp t boot => Sys2Proof.Machine.execPowerUp t boot s
  | .vsysLow t mv => Sys2Proof.Machine.execVsysLow t mv s
  | .vsysLowClear t mv => Sys2Proof.Machine.execVsysLowClear t mv s
  | .shutdown t mv => Sys2Proof.Machine.execShutdown t mv s
  | .rstNLow t => Sys2Proof.Machine.execRstNLow t s
  | .rstNHigh t boot => Sys2Proof.Machine.execRstNHigh t boot s
  | .domainLost t d => Sys2Proof.Machine.execDomainLost t d s
  | .vbakCheck t mv => Sys2Proof.Machine.execVbakCheck t mv s
  | .tempThreshold t deci => Sys2Proof.Machine.execTempThreshold t deci s
  | .supWatchdog t boot => Sys2Proof.Machine.execSupWatchdog t boot s
  | .pllLockRegained t pll => Sys2Proof.Machine.execPllLockRegained t pll s
  | .safetyExchangeAbsence t => Sys2Proof.Machine.execSafetyExchangeAbsence t s
  | .coldSpareSelfTest t pass => Sys2Proof.Machine.execColdSpareSelfTest t pass s
  | .dqOverloadCleared t o => Sys2Proof.Machine.execDqOverloadCleared t o s
  | .dqExternalCleared t o => Sys2Proof.Machine.execDqExternalCleared t o s
  | .canBusIntegration t ch => Sys2Proof.Machine.execCanBusIntegration t ch s

end Sys2Proof.Machine
end

