-- ==== Sys2Proof/Safety.lean ====
section
/-! DEFINITION. The terms in which claims about the block are stated: what holds between two commands, and what it means that
a request is served, answered or refused. -/

namespace Sys2Proof.Machine

/-- Nothing waits for the fault collector, and no event was dropped without its record (R430, R473). -/
abbrev State.Quiet (s : State) : Prop := s.flt.inbox = [] ∧ s.host.evtDropped = 0

/-- What holds after every command: every detection has been decided (R475), every dropped event has been counted (R430), and
ERR_N stands as R486 says. -/
abbrev State.Settled (s : State) : Prop := s.Quiet ∧ s.flt.errLow = s.errPin

/-- The memory of rings and bulk areas is in its canonical form. -/
abbrev State.MemOk (s : State) : Prop := memWf s.host.mem = true

/-- The firmware takes a request (R424), its length suits the opcode (R428) and it is for this node (R429). -/
abbrev State.Serves (s : State) (h : Hdr) (need : Nat) (bulkAllowed bulkRequired : Bool) : Prop :=
  s.canTake h = true ∧ lengthOk h need bulkAllowed bulkRequired = true ∧ s.isLocal h = true

/-- The end of a request of opcode `opc` that an operation has answered with `r`: the response is posted, and PENDING keeps
the request open in its ring (R424, R427). -/
def State.answer (s : State) (opc : Nat) (h : Hdr) (r : Rsp) : State :=
  let s1 := s.respond (refOf h opc) h.bulkOfs r
  if r.status = stPending ∧ h.via.isNone then s1.modRing h.ring (fun x => { x with pending := x.pending + 1 }) else s1

/-- What R428 and R438 say of the form of a mailbox request: when it comes, its header, its opcode, how many payload bytes it
needs, and whether bulk data is allowed and required. -/
structure ReqForm where
  t : Nat
  h : Hdr
  opc : Nat
  need : Nat
  bulkAllowed : Bool
  bulkRequired : Bool
  deriving DecidableEq, Repr

/-- The form of a mailbox request; the other commands are no requests. -/
def requestForm : Instr → Option ReqForm
  | .paramGet t h _ _ _ => some ⟨t, h, 0x0101, 6, true, false⟩
  | .paramSet t h _ _ _ => some ⟨t, h, 0x0102, 8, true, false⟩
  | .paramStage t h _ _ _ _ => some ⟨t, h, 0x0103, 8, true, false⟩
  | .check t h => some ⟨t, h, 0x0110, 0, false, false⟩
  | .apply t h _ _ => some ⟨t, h, 0x0111, 8, false, false⟩
  | .discard t h => some ⟨t, h, 0x0112, 0, false, false⟩
  | .axisEnable t h _ => some ⟨t, h, 0x0201, 4, false, false⟩
  | .axisDisable t h _ => some ⟨t, h, 0x0202, 4, false, false⟩
  | .modeSet t h _ _ => some ⟨t, h, 0x0203, 2, false, false⟩
  | .moveQueue t h _ => some ⟨t, h, 0x0210, 49, true, false⟩
  | .moveFlush t h _ => some ⟨t, h, 0x0211, 1, false, false⟩
  | .stop t h _ => some ⟨t, h, 0x0212, 1, false, false⟩
  | .quickstop t h _ => some ⟨t, h, 0x0213, 1, false, false⟩
  | .jog t h _ => some ⟨t, h, 0x0214, 24, false, false⟩
  | .home t h _ => some ⟨t, h, 0x0220, 1, false, false⟩
  | .latchArm t h _ => some ⟨t, h, 0x0230, 40, false, false⟩
  | .tideDefine t h _ => some ⟨t, h, 0x0301, 544, true, true⟩
  | .tideSchedule t h _ _ => some ⟨t, h, 0x0302, 8, false, false⟩
  | .gearEngage t h _ => some ⟨t, h, 0x0303, 56, false, false⟩
  | .camLoad t h _ => some ⟨t, h, 0x0304, 20, true, true⟩
  | .faultRead t h _ _ => some ⟨t, h, 0x0401, 4, true, false⟩
  | .faultAck t h _ => some ⟨t, h, 0x0402, 2, false, false⟩
  | .faultInject t h _ _ _ _ => some ⟨t, h, 0x0403, 12, false, false⟩
  | .traceSetup t h _ => some ⟨t, h, 0x0501, 1, true, true⟩
  | .traceArm t h _ => some ⟨t, h, 0x0502, 1, false, false⟩
  | .traceRead t h _ => some ⟨t, h, 0x0503, 1, true, true⟩
  | .recordFreeze t h _ => some ⟨t, h, 0x0510, 1, false, false⟩
  | .replayRun t h _ _ _ => some ⟨t, h, 0x0511, 12, false, false⟩
  | .timeGet t h => some ⟨t, h, 0x0601, 0, false, false⟩
  | .timedOutput t h _ => some ⟨t, h, 0x0602, 32, false, false⟩
  | .timeAcceptJump t h _ => some ⟨t, h, 0x0603, 8, false, false⟩
  | .fabricDiscover t h => some ⟨t, h, 0x0701, 0, false, false⟩
  | .timetableLoad t h _ => some ⟨t, h, 0x0702, 32, true, true⟩
  | .timetableSwitch t h _ => some ⟨t, h, 0x0703, 1, false, false⟩
  | .bistRun t h _ => some ⟨t, h, 0x0801, 1, false, false⟩
  | .lifecycleAdvance t h _ _ => some ⟨t, h, 0x0802, 1, true, false⟩
  | .debugChallenge t h _ => some ⟨t, h, 0x0803, 1, false, false⟩
  | .debugResponse t h _ => some ⟨t, h, 0x0804, 0, true, false⟩
  | .fwUpdateBegin t h _ _ => some ⟨t, h, 0x0810, 8, false, false⟩
  | .fwUpdateData t h _ _ => some ⟨t, h, 0x0811, 4, true, true⟩
  | .fwUpdateEnd t h _ => some ⟨t, h, 0x0812, 1, false, false⟩
  | .safetyConfig t h _ => some ⟨t, h, 0x0901, 1, true, true⟩
  | _ => none

/-- The payload bytes that spell a mailbox request (R434, R435, R438, log 13); empty for the other commands. -/
def requestPayload : Instr → List Byte
  | .paramGet _ _ id count bank => toLE 4 id ++ toLE 1 count ++ toLE 1 bank
  | .paramSet _ _ id count vals => toLE 4 id ++ toLE 1 count ++ toLE 3 0 ++ vals
  | .paramStage _ _ id count ofs vals =>
    toLE 4 id ++ toLE 1 count ++ toLE 3 0 ++ (if id / 256 = pCycCbImage then toLE 4 ofs else []) ++ vals
  | .apply _ _ when_ n => toLE 1 when_ ++ toLE 3 0 ++ toLE 4 n
  | .axisEnable _ _ mask => toLE 4 mask
  | .axisDisable _ _ mask => toLE 4 mask
  | .modeSet _ _ axis mode => toLE 1 axis ++ toLE 1 mode
  | .moveQueue _ _ m => moveBytes m
  | .moveFlush _ _ tgt => toLE 1 tgt
  | .stop _ _ tgt => toLE 1 tgt
  | .quickstop _ _ tgt => toLE 1 tgt
  | .jog _ _ j => jogBytes j
  | .home _ _ axis => toLE 1 axis
  | .latchArm _ _ l => latchBytes l
  | .tideDefine _ _ body => body
  | .tideSchedule _ _ tide n => toLE 1 tide ++ toLE 3 0 ++ toLE 4 n
  | .gearEngage _ _ g => gearBytes g
  | .camLoad _ _ c => camBytes c
  | .faultRead _ _ first count => toLE 2 first ++ toLE 2 count
  | .faultAck _ _ record => toLE 2 record
  | .faultInject _ _ cls code unit window => toLE 1 cls ++ toLE 1 0 ++ toLE 2 code ++ toLE 2 unit ++ toLE 2 0 ++ toLE 4 window
  | .traceSetup _ _ pairs => (pairs.map (fun p => toLE 4 p.1 ++ toLE 8 p.2)).flatten
  | .traceArm _ _ action => toLE 1 action
  | .traceRead _ _ ofs => toLE 8 ofs
  | .recordFreeze _ _ action => toLE 1 action
  | .replayRun _ _ first cycles mask => toLE 4 first ++ toLE 4 cycles ++ toLE 4 mask
  | .timedOutput _ _ p => tqBytes p
  | .timeAcceptJump _ _ seconds => toLE 8 seconds
  | .timetableLoad _ _ body => body
  | .timetableSwitch _ _ tt => toLE 1 tt
  | .bistRun _ _ scope => toLE 1 scope
  | .lifecycleAdvance _ _ target body => toLE 1 target ++ body
  | .debugChallenge _ _ kind => toLE 1 kind
  | .debugResponse _ _ body => body
  | .fwUpdateBegin _ _ len version => toLE 4 len ++ toLE 4 version
  | .fwUpdateData _ _ ofs body => toLE 4 ofs ++ body
  | .fwUpdateEnd _ _ activate => toLE 1 activate
  | .safetyConfig _ _ body => body
  | _ => []

/-- The request that a command spells has been taken: the recorder has noted its entry (R553). -/
def State.taken (s : State) (i : Instr) : State :=
  match requestForm i with
  | some f => s.noteCmd f.opc f.h (requestPayload i)
  | none => s

/-- A path commands its output open. -/
abbrev State.PathOpen (s : State) (p : SPath) : Prop := (s.spath p).closed = false

end Sys2Proof.Machine
end

