-- ==== Sys2Proof/WellFormed.lean ====
section
/-! DEFINITION. Well-formed commands: every operand fits the field that carries it (R413, R426, R438, R342, R526) and every observation has
the shape of what the block observes. The meanings are total on ill-formed commands too; `Instr.wf` says which commands the
outside can send. -/

namespace Sys2Proof

/-- A number fits a field of `n` bits. -/
def fits (n v : Nat) : Bool := decide (v < 2 ^ n)

/-- A signed number fits a field of `n` bits. -/
def fitsS (n : Nat) (v : Int) : Bool := decide (-(2 ^ (n - 1) : Int) ≤ v ∧ v < 2 ^ (n - 1))

/-- The fields of a request header (R426); a request that came by ferry names a node and a message. -/
def Hdr.wf (h : Hdr) : Bool :=
  fits 16 h.tag && fits 16 h.length && fits 8 h.target && fits 16 h.bulkOfs && (h.bulk || decide (h.bulkOfs = 0)) &&
    (match h.via with | some (n, m) => decide (n < 255) && fits 16 m | none => true)

def MoveReq.wf (m : MoveReq) : Bool :=
  fits 8 m.tgt && fits 8 m.kind && fits 8 m.blend && fits 5 m.reservedFlags && fits 16 m.vFrac && fits 16 m.aFrac && fits 16 m.dFrac &&
    fits 16 m.jFrac && fits 32 m.startN && fits 64 m.tol && fitsS 64 m.target && fitsS 64 m.centre0 && fitsS 64 m.centre1 && fits 8 m.turns &&
    m.points.all (fitsS 64)

def JogReq.wf (j : JogReq) : Bool :=
  fits 8 j.axis && fits 8 j.kind && fits 16 j.vFrac && fits 16 j.aFrac && fits 16 j.dFrac && fits 16 j.jFrac && fitsS 64 j.value

def LatchReq.wf (l : LatchReq) : Bool :=
  fits 8 l.axis && fits 8 l.mask && fitsS 64 l.win0Start && fitsS 64 l.win0End && fitsS 64 l.win1Start && fitsS 64 l.win1End

def GearReq.wf (g : GearReq) : Bool :=
  fits 8 g.axis && fits 8 g.kind && fits 8 g.table && fits 8 g.land && fits 32 g.master && fitsS 32 g.num && fits 32 g.den && fits 64 g.len &&
    fits 64 g.mSpec && fits 8 g.mAbs && fitsS 64 g.pTarget && fitsS 64 g.xS

def CamReq.wf (c : CamReq) : Bool := fits 8 c.table && fits 32 c.n && fitsS 64 c.rise && fits 32 c.segOfs && c.ys.all (fitsS 64)

def TqReq.wf (p : TqReq) : Bool :=
  fits 8 p.channel && fits 8 p.kind && fits 8 p.scale && fits 8 p.polarity && fits 32 p.count && fitsS 64 p.t0 && fits 32 p.t0ns &&
    fits 64 p.period && fits 32 p.width

/-- A burst's settings: three DFE taps (R62). -/
def Burst.wf (b : Burst) : Bool :=
  decide (b.dfe.length = 3 ∧ b.stampS ≤ b.stampEnd ∧ b.ctle ≤ 15) && b.groups.all (fun g => decide (g < 1024))

/-- A Causeway frame body is at most 16 + 8,192 + 4 bytes, behind its /I2/ sets and between its delimiters (R338, R342). -/
def CFrame.wf (f : CFrame) : Bool := decide (f.groups.length ≤ 8256) && f.groups.all (fun g => decide (g < 1024))

/-- The fields of a window-access frame (R413). -/
def EthFrame.wf (f : EthFrame) : Bool :=
  fits 48 f.src && fits 8 f.version && fits 8 f.kind && fits 16 f.seq && fits 16 f.addr && fits 16 f.len && decide (f.data.length ≤ 1492)

/-- A CAN frame (R526): identifier, DLC and data. -/
def CanFrame.wf (f : CanFrame) : Bool := fits (if f.ide then 29 else 11) f.id && fits 4 f.dlc && decide (f.data.length ≤ 64)

/-- A boot measures 48 monitors at each period it tries (R578, R581). -/
def BootObs.wf (o : BootObs) : Bool := o.readings.all (fun l => decide (l.length = 48))

/-- The command's operands fit the fields that carry them. -/
def Instr.wf : Instr → Bool
  | .paramGet _ h id count bank => h.wf && fits 32 id && fits 8 count && fits 8 bank
  | .paramSet _ h id count _ => h.wf && fits 32 id && fits 8 count
  | .paramStage _ h id count ofs _ =>
    -- only the segments of `cyc.cb_image` carry an offset (R435)
    h.wf && fits 32 id && fits 8 count && fits 32 ofs && (decide (id / 256 = 0x020A) || decide (ofs = 0))
  | .check _ h => h.wf
  | .apply _ h when_ n => h.wf && fits 8 when_ && fits 32 n
  | .discard _ h => h.wf
  | .axisEnable _ h mask => h.wf && fits 32 mask
  | .axisDisable _ h mask => h.wf && fits 32 mask
  | .modeSet _ h axis mode => h.wf && fits 8 axis && fits 8 mode
  | .moveQueue _ h m => h.wf && m.wf
  | .moveFlush _ h tgt => h.wf && fits 8 tgt
  | .stop _ h tgt => h.wf && fits 8 tgt
  | .quickstop _ h tgt => h.wf && fits 8 tgt
  | .jog _ h j => h.wf && j.wf
  | .home _ h axis => h.wf && fits 8 axis
  | .latchArm _ h l => h.wf && l.wf
  | .tideDefine _ h _ => h.wf
  | .tideSchedule _ h tide n => h.wf && fits 8 tide && fits 32 n
  | .gearEngage _ h g => h.wf && g.wf
  | .camLoad _ h c => h.wf && c.wf
  | .faultRead _ h first count => h.wf && fits 16 first && fits 16 count
  | .faultAck _ h record => h.wf && fits 16 record
  | .faultInject _ h cls code unit window => h.wf && fits 8 cls && fits 16 code && fits 16 unit && fits 32 window
  | .traceSetup _ h pairs => h.wf && pairs.all (fun p => fits 32 p.1 && fits 64 p.2)
  | .traceArm _ h action => h.wf && fits 8 action
  | .traceRead _ h ofs => h.wf && fits 64 ofs
  | .recordFreeze _ h action => h.wf && fits 8 action
  | .replayRun _ h first cycles mask => h.wf && fits 32 first && fits 32 cycles && fits 32 mask
  | .timeGet _ h => h.wf
  | .timedOutput _ h p => h.wf && p.wf
  | .timeAcceptJump _ h seconds => h.wf && fits 64 seconds
  | .fabricDiscover _ h => h.wf
  | .timetableLoad _ h _ => h.wf
  | .timetableSwitch _ h tt => h.wf && fits 8 tt
  | .bistRun _ h scope => h.wf && fits 8 scope
  | .lifecycleAdvance _ h target _ => h.wf && fits 8 target
  | .debugChallenge _ h kind => h.wf && fits 8 kind
  | .debugResponse _ h _ => h.wf
  | .fwUpdateBegin _ h len version => h.wf && fits 32 len && fits 32 version
  | .fwUpdateData _ h ofs _ => h.wf && fits 32 ofs
  | .fwUpdateEnd _ h activate => h.wf && fits 8 activate
  | .safetyConfig _ h _ => h.wf
  | .reqProdWrite _ _ _ _ => true
  | .rspConsWrite _ _ _ _ => true
  | .evtConsWrite _ _ _ => true
  | .heartbeatWrite _ _ _ => true
  | .hostSilent _ => true
  | .evtRegisterRead _ _ => true
  | .hostErrRead _ _ => true
  | .fldCntRead _ _ => true
  | .canStatRead _ _ _ => true
  | .fldOutWrite _ _ _ => true
  | .objStatClear _ _ _ => true
  | .txReq _ _ => true
  | .registerWrite _ _ _ bytes => decide (bytes ≠ [])
  | .qspiFast t _ _ until_ => decide (t ≤ until_)
  | .qspiRead t _ _ until_ => decide (t ≤ until_)
  | .qspiWrite _ _ _ => true
  | .qspiUnknownCommand _ cmd => decide (cmd ≠ 0x0F ∧ cmd ≠ 0xEB ∧ cmd ≠ 0x02)
  | .ethWindowRead _ f => f.wf
  | .ethWindowWrite _ f => f.wf
  | .ethFrameDiscard _ f => fits 16 f.etherType && fits 12 f.vlan && !f.taken
  | .ethLink _ _ => true
  | .mailboxServicePass _ => true
  | .controlCycleStart _ => true
  | .upstreamFrameRx _ _ b => b.wf
  | .upstreamDeadline _ => true
  | .lostFrameLimit _ _ => true
  | .tileWindowOpen _ _ => true
  | .tileWindowClose _ _ => true
  | .selfTestSliceDone _ _ _ => true
  | .snapshotCopyDone _ => true
  | .downstreamSend _ stamps => decide (stamps.length = 32)
  | .fastStatusFlip _ => true
  | .cyclingStart _ => true
  | .applyPrepared _ => true
  | .applyTakeEffect _ => true
  | .applyPersistDone _ _ => true
  | .fabricApplyDecision _ => true
  | .fabricApplySwitch _ => true
  | .modeSwitchCycle _ _ => true
  | .enableCycle _ => true
  | .linkWakeRx _ _ b => b.wf
  | .linkTrainRx _ _ b => b.wf
  | .trainFail _ _ => true
  | .measureDone _ _ => true
  | .linkIdleExchange _ _ _ => true
  | .linkLost _ _ => true
  | .eyeLow _ _ => true
  | .stoMismatch _ _ => true
  | .tripClearTimeout _ _ => true
  | .idBound _ _ => true
  | .stepperHoldReduce _ _ => true
  | .moveStartAtDue _ tgt => decide (tgt < 32 ∨ (0x80 ≤ tgt ∧ tgt < 0x88))
  | .jogTimeout _ _ => true
  | .standstill _ _ => true
  | .stopTimeout _ _ => true
  | .homePhaseEnd _ _ => true
  | .homePressed _ _ => true
  | .limitDebounce _ _ _ => true
  | .chatterEnd _ _ _ => true
  | .emulatorEdge _ => true
  | .tilePowered _ _ => true
  | .tideDecision _ _ => true
  | .tideSwitch _ _ => true
  | .tideAdopt _ _ => true
  | .tideStale _ _ => true
  | .masterStale _ _ => true
  | .gearEngageBegin _ _ => true
  | .gearSynced _ _ => true
  | .fabricCycleStart _ => true
  | .berthLaunch _ berth => decide (berth < 512)
  | .berthFrameRx _ _ f => f.wf
  | .clockSyncUpdate _ => true
  | .noSource _ => true
  | .syncLost _ => true
  | .silentReturn _ => true
  | .joinComplete _ => true
  | .nodesLost _ => true
  | .portLock _ _ => true
  | .linkDown _ _ _ => true
  | .probeSend _ _ _ => true
  | .probeRx _ _ f => f.wf
  | .coldstartEntry _ => true
  | .coldstartSend _ => true
  | .coldstartRx _ _ f => f.wf
  | .censusRx _ _ f => f.wf
  | .censusReturn _ f => f.wf
  | .assignRx _ _ f => f.wf
  | .autoDiscovery _ => true
  | .startFrameRx _ _ f => f.wf
  | .timetableSwitchAt _ => true
  | .ferrySegmentRx _ payload => decide (72 ≤ payload.length ∧ payload.length ≤ 8192)
  | .ferryRetransmit _ msg seg => fits 16 msg && fits 16 seg
  | .timetableRepeat _ => true
  | .timetableLoadTimeout _ => true
  | .ptpMessageRx _ _ => true
  | .ptpMessageSend _ _ => true
  | .ptpLost _ => true
  | .ppsiEdge _ => true
  | .ntRecordSend _ => true
  | .ntRecordApply _ => true
  | .ntHoldover _ => true
  | .keepSecondsCorrect _ => true
  | .tqEdge _ _ => true
  | .ppsoEdge _ => true
  | .clockCheck _ _ _ _ => true
  | .pllUnlock _ _ => true
  | .injectionWindowEnd _ slot => decide (slot < 256)
  | .safetyExchangeFrame _ f => fits 32 f.logicCrc
  | .safeInputFilter _ _ _ _ => true
  | .testPulse _ _ _ _ => true
  | .discrepancy _ _ _ => true
  | .ss1TimerEnd _ _ => true
  | .resetRelease _ _ => true
  | .soReadback _ _ _ => true
  | .safeMessageSend _ => true
  | .safeMessageRx _ _ body => decide (body.length ≤ 64)
  | .msgWatchdog _ _ _ => true
  | .safetyConfigDone _ procCrc logicCrc => fits 32 procCrc && fits 32 logicCrc
  | .diEdge _ _ _ => true
  | .diFilterExpiry _ _ => true
  | .wireBreak _ _ _ => true
  | .fieldLinkDownFrame _ => true
  | .fieldLinkUpFrame _ f => fits 16 f.vfld && fits 8 f.acting
  | .fieldSilent _ => true
  | .fieldDownSilence _ => true
  | .vfldSag _ => true
  | .vfldRestore _ => true
  | .dqOverload _ _ => true
  | .dqExternal _ _ => true
  | .openLoad _ _ => true
  | .canFrameRx _ _ f => f.wf
  | .canTxDone _ _ _ _ _ => true
  | .canPeriodicDue _ _ _ => true
  | .canBusError _ _ _ => true
  | .busOffRecovery _ _ => true
  | .recorderFreeze _ => true
  | .replayDone _ => true
  | .bistDone _ _ _ => true
  | .lifecycleProgrammed _ => true
  | .lifecycleReset _ boot => boot.wf
  | .debugNonceExpire _ => true
  | .debugAuthDelay _ => true
  | .fwTrialReadyTimeout _ boot => boot.wf
  | .fwTrialEnd _ => true
  | .ageingMeasure _ readings => decide (readings.length = 48)
  | .marginReplan _ readings => readings.all (fun l => decide (l.length = 48))
  | .powerUp _ boot => boot.wf
  | .vsysLow _ _ => true
  | .vsysLowClear _ _ => true
  | .shutdown _ _ => true
  | .rstNLow _ => true
  | .rstNHigh _ boot => boot.wf
  | .domainLost _ _ => true
  | .vbakCheck _ _ => true
  | .tempThreshold _ _ => true
  | .supWatchdog _ boot => boot.wf
  | .pllLockRegained _ _ => true
  | .safetyExchangeAbsence _ => true
  | .coldSpareSelfTest _ _ => true
  | .dqOverloadCleared _ _ => true
  | .dqExternalCleared _ _ => true
  | .canBusIntegration _ _ => true

end Sys2Proof
end

