-- ==== Sys2Proof/Certificates/Slice0/Obligations.lean ====
section
/-! DEFINITION. What is claimed of the model, for the provers. `b` stands for `s.begin t`: the state at the instant of the command,
with the outbox of the command before emptied. -/

open Sys2Proof Sys2Proof.Machine

/-! ### The block as a whole -/

/-- A step takes the command at the front of the queue and runs it on the state with the queue's rest; without a waiting command
the block idles (the model's choice, log 2). -/
def Obligations.StepRunsFrontCommandOrIdles : Prop :=
  (∀ (c : Instr) (r : List Instr) (s : State), step { s with pending := c :: r } = exec c { s with pending := r }) ∧
  (∀ s : State, s.pending = [] → step s = .next s)

/-- Reset leaves a settled state with canonical memory, nothing pending and an empty window memory. -/
def Obligations.ResetIsSettled : Prop :=
  State.reset.Settled ∧ State.reset.MemOk ∧ State.reset.pending = [] ∧ (∀ a, memRead State.reset.host.mem a = 0)

/-- Every step from a settled state ends in a settled state: no detection is left undecided (R475), no dropped event uncounted
(R430), and ERR_N is low exactly as R486 says. -/
def Obligations.StepKeepsSettled : Prop :=
  ∀ s s' : State, s.Settled → step s = .next s' → s'.Settled

/-- At the end of a command the collector decides everything the command reported, in ascending order of class, then unit, then
code, whatever the order of the reports (R475; what a reaction brings about in turn is decided after them, the model's choice, log 120); where nothing was reported only ERR_N takes its level. -/
def Obligations.CollectorDecidesInOrder : Prop :=
  (∀ (s : State) (l : List Occ), s.domOn .sup = true → s.flt.inbox.Perm l →
    l.Pairwise (fun x y => x.code / 256 < y.code / 256 ∨ (x.code / 256 = y.code / 256 ∧ (x.unit < y.unit ∨ (x.unit = y.unit ∧ x.code < y.code)))) →
    (∀ o ∈ l, o.unit < 0x1000 ∧ o.code < 0x10000) →
    let s1 := l.foldl decideOcc { s with flt := { s.flt with inbox := [] } }
    s1.host.evtDropped = 0 → s1.flt.inbox = [] → settle s = { s1 with flt := { s1.flt with inbox := [], errLow := s1.errPin } }) ∧
  (∀ s : State, s.Quiet → settle s = { s with flt := { s.flt with errLow := s.errPin } })

/-- Every command of the table ends in a next state, so that ordinary data stops no run. -/
def Obligations.EveryStepAnswersNext : Prop :=
  ∀ s : State, ∃ s', step s = .next s'

/-! ### Mailbox requests -/

/-- While the firmware is not ready, the response ring is full or 16 requests of the ring wait, a request is not taken: it
changes nothing (R424). -/
def Obligations.RequestThatCannotBeTakenChangesNothing : Prop :=
  ∀ (i : Instr) (f : ReqForm) (s : State), requestForm i = some f → (s.begin f.t).canTake f.h = false →
    exec i s = .next (settle (s.begin f.t))

/-- A LENGTH that does not suit the opcode is answered BAD_LENGTH, and nothing else happens (R428). -/
def Obligations.WrongLengthIsAnsweredBadLength : Prop :=
  ∀ (i : Instr) (f : ReqForm) (s : State), requestForm i = some f → (s.begin f.t).canTake f.h = true →
    lengthOk f.h f.need f.bulkAllowed f.bulkRequired = false →
    exec i s = .next (settle (((s.begin f.t).taken i).answer f.opc f.h { status := stBadLength }))

/-- A request for a node that the table does not hold, or in startup mode for any other node, is answered UNREACHABLE (R429). -/
def Obligations.RequestForAnUnknownNodeIsUnreachable : Prop :=
  ∀ (i : Instr) (f : ReqForm) (s : State), requestForm i = some f → (s.begin f.t).canTake f.h = true →
    lengthOk f.h f.need f.bulkAllowed f.bulkRequired = true → (s.begin f.t).isLocal f.h = false →
    (s.fab.ttNow = 0xF ∨ ∀ n ∈ s.fab.nodes, n.addr ≠ f.h.target) →
    exec i s = .next (settle (((s.begin f.t).taken i).answer f.opc f.h { status := stUnreachable }))

/-- In SCRAP every request is refused and changes nothing, but for FAULT_READ, TIME_GET and BIST_RUN (R562). -/
def Obligations.ScrapRefusesRequests : Prop :=
  ∀ (i : Instr) (f : ReqForm) (s : State), requestForm i = some f → f.opc ≠ 0x0401 → f.opc ≠ 0x0601 → f.opc ≠ 0x0801 →
    s.life.lc = 4 → (s.begin f.t).Serves f.h f.need f.bulkAllowed f.bulkRequired →
    ∃ st d, st ≠ stOk ∧ st ≠ stPending ∧
      exec i s = .next (settle (((s.begin f.t).taken i).answer f.opc f.h { status := st, detail := d }))

/-- A request is spelled by its entry and its payload and by nothing else: the service pass reads from the 64 bytes of a well-formed
header the same header and opcode, and carries out from a well-formed request's payload exactly the command with its operands, for
every opcode of R438, every operand and every value that its field admits (R426, R435, R438; where the payload of a bulk request
begins is the model's choice, log 13). -/
def Obligations.RequestsSpellTheirCommands : Prop :=
  (∀ (i : Instr) (f : ReqForm) (s : State), requestForm i = some f → i.wf = true →
    runRequest f.opc f.t f.h (requestPayload i) s = exec i s) ∧
  (∀ (h : Hdr) (opc : Nat) (p : List Byte), h.wf = true → h.via = none → opc < 2 ^ 16 →
    (requestEntry opc h p).length = 64 ∧ getU (requestEntry opc h p) 0 2 = opc ∧ entryHdr h.ring none (requestEntry opc h p) = h ∧
    (h.bulk = false → p.length = h.length → h.length ≤ 56 → ((requestEntry opc h p).drop 8).take h.length = p))

/-- An event is posted at EVT_PROD with its header, its time, its unit and its data, which the ring then holds, and no other byte of
the window memory changes; with the ring full it is dropped and counted in EVT_LOST (R430). A response without bulk results is posted
at RSP_PROD of its request's ring with SOURCE, FINAL, STATUS and DETAIL in the same way (R427). -/
def Obligations.EntriesAreReadInTheirRings : Prop :=
  (∀ (s : State) (code tag unit : Nat) (data : List Byte), s.MemOk → data.length ≤ 44 →
    let s1 := s.postEvent code tag unit data
    let p := s.host.evtProd
    let a := 0x9000 + 64 * (p.toNat % 64)
    ((p - s.host.evtCons).toNat < 64 → s1.host.evtProd = p + 1 ∧ s1.MemOk ∧
      memReadN s1.host.mem a 64 = toLE 2 code ++ toLE 2 tag ++ toLE 2 (12 + data.length : Nat) ++ [0] ++ toLE 1 s.fab.addr ++
        toLE 8 s.ft ++ toLE 2 unit ++ [0, 0] ++ data ++ List.replicate (44 - data.length) 0 ∧
      ∀ c, (c < a ∨ a + 64 ≤ c) → memRead s1.host.mem c = memRead s.host.mem c) ∧
    (64 ≤ (p - s.host.evtCons).toNat → s1 = { s with
      host := { s.host with evtLost := incSat 16 s.host.evtLost, evtDropped := s.host.evtDropped + 1 } })) ∧
  (∀ (s : State) (q : ReqRef) (i : Fin 4) (ofs st d : Nat) (body : List Byte), s.MemOk → body.length ≤ 52 → q.via = none → q.ring = i.val →
    let s1 := s.respond q ofs { status := st, detail := d, body := body }
    let r := s.host.rings.get i
    let a := 0x5000 + 0x1000 * i.val + 64 * (r.rspProd.toNat % 64)
    (r.rspRoom ≠ 0 → (s1.host.rings.get i).rspProd = r.rspProd + 1 ∧ s1.MemOk ∧
      memReadN s1.host.mem a 64 = toLE 2 q.op ++ toLE 2 q.tag ++ toLE 2 (4 + body.length : Nat) ++
        toLE 1 (if st = stPending then 0 else 0x10 : Nat) ++ toLE 1 s.fab.addr ++ toLE 1 st ++ [0] ++ toLE 2 d ++ body ++
        List.replicate (52 - body.length) 0 ∧
      ∀ c, (c < a ∨ a + 64 ≤ c) → memRead s1.host.mem c = memRead s.host.mem c) ∧
    (r.rspRoom = 0 → s1.host.mem = s.host.mem ∧ s1.host.rings = s.host.rings))

/-! In the statements on requests `b` is the state in which the request is judged: the command's instant, with the request taken. -/

/-- PARAM_GET, PARAM_SET and PARAM_STAGE of existing instances, with the size their type gives, complete: the read returns the
values of the bank, and each write changes what its apply code says and nothing else (R434, R436, R453). -/
def Obligations.ParameterAccessCompletes : Prop :=
  (∀ (s b : State) (t : Nat) (h : Hdr) (id count bank : Nat) (r : PRow),
    (s.begin t).taken (.paramGet t h id count bank) = b → b.Serves h 6 true false → b.life.lc ≠ 4 → idRow id count = some r → 1 ≤ count → count ≤ 32 →
    (r.n = 0 → count = 1) → bank ≤ 2 → (h.bulk ∨ (r.n ≠ 0 ∧ count * r.valueSize ≤ 48)) →
    let data := ((List.range count).map (fun j => valueBytes r (readParam b r (id % 256 + j) bank))).flatten
    let size := if r.n = 0 then min data.length 65535 else r.valueSize
    exec (.paramGet t h id count bank) s = .next (settle (b.answer 0x0101 h
      (if h.bulk then { status := stOk, body := toLE 2 size ++ toLE 2 0, bulk := some (data.take h.length) }
       else okRsp (toLE 2 size ++ toLE 2 0 ++ data))))) ∧
  (∀ (s b : State) (t : Nat) (h : Hdr) (id : Nat) (v : List Byte) (r : PRow),
    (s.begin t).taken (.paramSet t h id 1 v) = b → b.Serves h 8 true false → b.life.lc ≠ 4 → idRow id 1 = some r → r.n ≠ 0 →
    h.length = 8 + r.valueSize → v.length = r.valueSize → badValue r 1 v = none → testRange b r (instVals r (id % 256) 1 v) = none →
    setState b r (instVals r (id % 256) 1 v) = false → (r.key / 256 = 7 → b.acq.armed = false) →
    exec (.paramSet t h id 1 v) s =
      .next (settle ((setOne r (id % 256) ((reqElems r 1 v).take r.n) b).answer 0x0102 h (okRsp [])))) ∧
  (∀ (s b : State) (t : Nat) (h : Hdr) (id ofs : Nat) (v : List Byte) (r : PRow),
    (s.begin t).taken (.paramStage t h id 1 ofs v) = b → b.Serves h 8 true false → b.life.lc ≠ 4 → idRow id 1 = some r → r.n ≠ 0 → r.app = .commit →
    id / 256 ≠ pCycCbImage → h.length = 8 + r.valueSize → v.length = r.valueSize → badValue r 1 v = none →
    b.prm.pend = none → b.prm.frozen = false →
    exec (.paramStage t h id 1 ofs v) s = .next (settle
      ({ b with prm := { b.prm with undercoat := bankSet b.prm.undercoat r.key (id % 256) ((reqElems r 1 v).take r.n) } }.answer
        0x0103 h (okRsp []))))

/-- Where a written value goes by its apply code (R9): NOW into force at once, and less than 5 ns before the tile window opens from
the next frame on (R610), CYCLE into force at the next boundary while the block cycles, RESET into the stored set alone; COMMIT and
read-only parameters are not written by PARAM_SET. -/
def Obligations.ApplyCodeSaysWhereAWriteGoes : Prop :=
  ∀ (s : State) (r : PRow) (inst : Nat) (v : List Int),
    (r.app = .now → s.inGap = false → setOne r inst v s = nowEffect r.key inst (v.headD 0) (s.setLive r.key inst v)) ∧
    (r.app = .now → s.inGap = true → setOne r inst v s = nowEffect r.key inst (v.headD 0)
      ({ s with cyc := { s.cyc with liveHold := some (s.cyc.liveHold.getD s.prm.live) } }.setLive r.key inst v)) ∧
    (r.app = .cycle → s.cyc.cycling = true → setOne r inst v s =
      { s with prm := { s.prm with cyclePend := alPut (r.key * 256 + inst) v s.prm.cyclePend } }) ∧
    (r.app = .cycle → s.cyc.cycling = false → setOne r inst v s =
      { s with prm := { s.prm with live := bankSet s.prm.live r.key inst v } }) ∧
    (r.app = .reset → setOne r inst v s = { s with prm := { s.prm with resetStored := bankSet s.prm.resetStored r.key inst v } }) ∧
    (r.app = .commit ∨ r.app = .ro → setOne r inst v s = s ∧ setState s r [(inst, v)] = true)

/-- While FROZEN is set, a PARAM_STAGE or a DISCARD that would else be accepted is answered BUSY and changes nothing, and a
PARAM_SET of NOW and CYCLE parameters has its effect as ever (R455). -/
def Obligations.FrozenBankRefusesStagingOnly : Prop :=
  ∀ (s b : State) (t : Nat) (h : Hdr), b.life.lc ≠ 4 → b.prm.frozen = true →
    ((s.begin t).taken (.discard t h) = b →
      b.Serves h 0 false false → exec (.discard t h) s = .next (settle (b.answer 0x0112 h { status := stBusy }))) ∧
    (∀ (id count ofs : Nat) (v : List Byte) (r : PRow), (s.begin t).taken (.paramStage t h id count ofs v) = b →
      b.Serves h 8 true false → 1 ≤ count → count ≤ 32 → idRow id count = some r →
      valuesFit r 8 count h.length v = true → badValue r count v = none → r.app = .commit → (r.n = 0 → h.bulk = true ∧ count = 1) →
      (id / 256 = pCycCbImage → b.life.lc = 1 ∧ (ofs = 0 ∨ ofs = (b.segOf id).length) ∧ ofs + v.length ≤ 73728) →
      exec (.paramStage t h id count ofs v) s = .next (settle (b.answer 0x0103 h { status := stBusy }))) ∧
    (∀ (id count : Nat) (v : List Byte) (r : PRow), (s.begin t).taken (.paramSet t h id count v) = b →
      b.Serves h 8 true false → 1 ≤ count → count ≤ 32 → idRow id count = some r →
      valuesFit r 8 count h.length v = true → badValue r count v = none → r.app = .now ∨ r.app = .cycle →
      testRange b r (instVals r (id % 256) count v) = none → setState b r (instVals r (id % 256) count v) = false → r.key / 256 ≠ 7 →
      exec (.paramSet t h id count v) s =
        .next (settle (((instVals r (id % 256) count v).foldl (fun s e => setOne r e.1 e.2 s) b).answer 0x0102 h (okRsp []))))

/-- CHECK answers without a change, DISCARD sets the undercoat to the topcoat, APPLY with WHEN 0 is answered PENDING and waits,
and TRACE_SETUP writes its pairs (R440, R441, R442, R460). -/
def Obligations.BankRequestsComplete : Prop :=
  (∀ (s b : State) (t : Nat) (h : Hdr), (s.begin t).taken (.check t h) = b → b.Serves h 0 false false → b.life.lc ≠ 4 →
    exec (.check t h) s = .next (settle (b.answer 0x0110 h
      (match checkBank b b.prm.undercoat with | some f => failRsp f | none => okRsp [])))) ∧
  (∀ (s b : State) (t : Nat) (h : Hdr), (s.begin t).taken (.discard t h) = b → b.Serves h 0 false false → b.life.lc ≠ 4 →
    b.prm.pend = none → b.prm.frozen = false →
    exec (.discard t h) s = .next (settle
      ({ b with prm := { b.prm with undercoat := b.prm.topcoat, segs := [] } }.answer 0x0112 h (okRsp [])))) ∧
  (∀ (s b : State) (t : Nat) (h : Hdr) (n : Nat), (s.begin t).taken (.apply t h 0 n) = b → b.Serves h 8 false false → b.life.lc ≠ 4 →
    checkBank b b.prm.undercoat = none → b.applyState = false → b.prm.pend = none → b.prm.frozen = false →
    (h.persist = true → b.prm.persist = none) → b.replayClash = false →
    let s1 := { b with
      prm := { b.prm with pend := some ({ req := some (refOf h 0x0111), persist := h.persist, fabric := false, n := 0, prepared := false, origin := b.fab.addr, tag := h.tag, members := [], acked := [], ownAck := false, decision := 0 } : PendApply) }
      cyc := { b.cyc with stopDue := b.cyc.stopDue || (b.cyc.cycling && b.stopsCycling) } }
    exec (.apply t h 0 n) s = .next (settle ((if b.cyc.cycling then s1 else tileDomains s1).answer 0x0111 h { status := stPending }))) ∧
  (∀ (s b : State) (t : Nat) (h : Hdr) (id v : Nat) (r : PRow), (s.begin t).taken (.traceSetup t h [(id, v)]) = b →
    b.Serves h 1 true true → b.life.lc ≠ 4 →
    h.length = 12 → pairRow id = some r → firstBad r 0 (pairVal r v) = none → (v < 2 ^ (8 * r.sz) ∨ r.signed = true) → b.acq.armed = false →
    exec (.traceSetup t h [(id, v)]) s =
      .next (settle ((setOne r (id % 256) (pairVal r v) b).answer 0x0501 h (okRsp []))))

/-- AXIS_ENABLE waits for its frames or finds every axis enabled; AXIS_DISABLE disables each axis of its mask at once; MODE_SET
answers at once or waits for its switch cycle (R178, R183, R240, R438). -/
def Obligations.EnableAndModeRequestsComplete : Prop :=
  (∀ (s b : State) (t : Nat) (h : Hdr) (mask : Nat), (s.begin t).taken (.axisEnable t h mask) = b →
    b.Serves h 4 false false → b.life.lc ≠ 4 → mask < 2 ^ 32 →
    let off := (maskAxes mask).filter (fun a => !(b.ax a).enabled)
    (∀ a ∈ off, enableRated b a = false ∧ (b.ax a).link.st = .run ∧ enableRange b a = false ∧ enableState b a = false ∧ enableBusy b mask a = false) →
    (off = [] → exec (.axisEnable t h mask) s = .next (settle (b.answer 0x0201 h (okRsp [])))) ∧
    (off ≠ [] → exec (.axisEnable t h mask) s = .next (settle
      ({ b with cyc := { b.cyc with pendEnable := b.cyc.pendEnable ++ [({ req := refOf h 0x0201, mask := natSum (off.map (fun (a : AxisId) => 2 ^ a.val)), done := 0, effective := false, at_ := b.cyc.posNo + (if off.all (fun a => decide ((b.ax a).mode = 6)) then 1 else 2), moved := 0 } : PendEnable)] } }.answer
        0x0201 h { status := stPending })))) ∧
  (∀ (s b : State) (t : Nat) (h : Hdr) (mask : Nat), (s.begin t).taken (.axisDisable t h mask) = b →
    b.Serves h 4 false false → b.life.lc ≠ 4 → mask < 2 ^ 32 →
    let s1 := forAxes (maskAxes mask) disableAxis b
    exec (.axisDisable t h mask) s = .next (settle
      ((if s1.cyc.cycling then s1 else forAxes (maskAxes mask) switchDisabled s1).answer 0x0202 h (okRsp [])))) ∧
  (∀ (s b : State) (t : Nat) (h : Hdr) (a : AxisId) (mode : Nat), (s.begin t).taken (.modeSet t h a.val mode) = b →
    b.Serves h 2 false false → b.life.lc ≠ 4 →
    mode ≤ 6 → (mode = 6 → b.testOpen = true) → modeState b a mode = false → modeBusy b a = false →
    (mode = 3 → (b.ax a).mode ≠ 3 → firstFail (gearChecks b a (gearOfMode b a)) = none) →
    let q := refOf h 0x0203
    let wait := fun (n : Nat) (preset : Bool) => b.modAxis a (fun x =>
      { x with pendSw := some { target := mode, at_ := b.cyc.posNo + n, req := some q, moved := 0, preset := preset } })
    ((b.ax a).mode = mode → exec (.modeSet t h a.val mode) s = .next (settle (b.answer 0x0203 h (okRsp [])))) ∧
    ((b.ax a).mode ≠ mode → mode = 3 → exec (.modeSet t h a.val mode) s =
      .next (settle ((gearTake a (gearOfMode b a) q b).2.answer 0x0203 h (gearTake a (gearOfMode b a) q b).1))) ∧
    ((b.ax a).mode ≠ mode → mode ≠ 3 → (b.ax a).enabled = true →
      exec (.modeSet t h a.val mode) s = .next (settle ((wait 2 true).answer 0x0203 h { status := stPending }))) ∧
    ((b.ax a).mode ≠ mode → mode ≠ 3 → (b.ax a).enabled = false → b.cyc.cycling = true →
      exec (.modeSet t h a.val mode) s = .next (settle ((wait 1 false).answer 0x0203 h { status := stPending }))) ∧
    ((b.ax a).mode ≠ mode → mode ≠ 3 → (b.ax a).enabled = false → b.cyc.cycling = false →
      exec (.modeSet t h a.val mode) s = .next (settle ((modeNow a mode b).answer 0x0203 h (okRsp [])))))

/-- AXIS_DISABLE leaves every axis of its mask disabled (R438). -/
def Obligations.DisabledAxesAreDisabled : Prop :=
  ∀ (s : State) (mask : Nat) (a : AxisId), a ∈ maskAxes mask →
    ((forAxes (maskAxes mask) disableAxis s).ax a).enabled = false ∧
    ((forAxes (maskAxes mask) switchDisabled (forAxes (maskAxes mask) disableAxis s)).ax a).enabled = false

/-- MOVE_QUEUE appends an entry, with REPLACE puts it in the place of all that wait, and answers the fill; MOVE_FLUSH empties a
queue and answers how many entries went; STOP and QUICKSTOP start the stop of their target and name the active tag (R214-R216,
R238, R241).
(The response of a stop of every axis leaves bytes free: log 87.) -/
def Obligations.MoveRequestsComplete : Prop :=
  (∀ (s b : State) (t : Nat) (h : Hdr) (m : MoveReq) (a : AxisId), (s.begin t).taken (.moveQueue t h m) = b →
    b.Serves h 49 true false → m.tgt = a.val →
    firstFail (axMoveChecks b a m) = none →
    let s1 := if m.replace then postDrops a.val 2 (b.ax a).prof.waitingTags b else b
    let s2 := s1.modProf a (fun p => p.enqueue (absEntry (b.ax a).prof m) h.tag)
    exec (.moveQueue t h m) s = .next (settle (s2.answer 0x0210 h (okRsp (toLE 1 (s2.ax a).prof.queue.length))))) ∧
  (∀ (s b : State) (t : Nat) (h : Hdr) (m : MoveReq) (g : Fin 8), (s.begin t).taken (.moveQueue t h m) = b →
    b.Serves h 49 true false → m.tgt = 0x80 + g.val →
    firstFail (grpMoveChecks b g m) = none →
    let s1 := if m.replace then postDrops (0x80 + g.val) 2 (b.grps.get g).prof.waitingTags b else b
    let s2 := s1.modGrp g (fun x => { x with prof := x.prof.enqueue m h.tag })
    exec (.moveQueue t h m) s = .next (settle (s2.answer 0x0210 h (okRsp (toLE 1 (s2.grps.get g).prof.queue.length))))) ∧
  (∀ (s b : State) (t : Nat) (h : Hdr) (a : AxisId), (s.begin t).taken (.moveFlush t h a.val) = b → b.Serves h 1 false false → b.life.lc ≠ 4 →
    exec (.moveFlush t h a.val) s = .next (settle
      (((dropAxisQueue a 1 b).modProf a (fun p => { p with flush := !p.stopping })).answer 0x0211 h
        (okRsp (toLE 1 (b.ax a).prof.waitingTags.length))))) ∧
  (∀ (s b : State) (t : Nat) (h : Hdr) (g : Fin 8), (s.begin t).taken (.moveFlush t h (0x80 + g.val)) = b → b.Serves h 1 false false → b.life.lc ≠ 4 →
    exec (.moveFlush t h (0x80 + g.val)) s = .next (settle
      (((dropGrpQueue g 1 b).modGrp g (fun x => { x with prof := { x.prof with flush := !x.prof.stopping } })).answer 0x0211 h
        (okRsp (toLE 1 (b.grps.get g).prof.waitingTags.length))))) ∧
  (∀ (s b c : State) (t : Nat) (h : Hdr) (tgt : Nat), (s.begin t).taken (.stop t h tgt) = b → (s.begin t).taken (.quickstop t h tgt) = c →
    b.Serves h 1 false false → b.life.lc ≠ 4 → tgt < 32 ∨ (0x80 ≤ tgt ∧ tgt < 0x88) →
    let r1 := stopTarget tgt 1 b
    let r2 := stopTarget tgt 2 c
    exec (.stop t h tgt) s = .next (settle (r1.2.answer 0x0212 h (okRsp (toLE 2 r1.1.1 ++ toLE 1 r1.1.2)))) ∧
    exec (.quickstop t h tgt) s = .next (settle (r2.2.answer 0x0213 h (okRsp (toLE 2 r2.1.1 ++ toLE 1 r2.1.2))))) ∧
  (∀ (s b c : State) (t : Nat) (h : Hdr), (s.begin t).taken (.stop t h 0xFF) = b → (s.begin t).taken (.quickstop t h 0xFF) = c →
    b.Serves h 1 false false → b.life.lc ≠ 4 →
    let c1 := stopEverything 1 { b with free := b.free + 3 }
    let c2 := stopEverything 2 { c with free := c.free + 3 }
    let body := fun (n : Nat) => [Config.freeByte b.free, Config.freeByte (b.free + 1)] ++
      [if n < 256 then BitVec.ofNat 8 n else Config.freeByte (b.free + 2)]
    exec (.stop t h 0xFF) s = .next (settle (c1.2.answer 0x0212 h (okRsp (body c1.1)))) ∧
    exec (.quickstop t h 0xFF) s = .next (settle (c2.2.answer 0x0213 h (okRsp (body c2.1)))))

/-- JOG takes the jog of its axis, HOME starts the phases of its method and waits, LATCH_ARM arms or disarms the channels it
names (R242, R253, R261). -/
def Obligations.JogHomeAndLatchRequestsComplete : Prop :=
  (∀ (s b : State) (t : Nat) (h : Hdr) (j : JogReq) (a : AxisId), (s.begin t).taken (.jog t h j) = b → b.Serves h 24 false false → b.life.lc ≠ 4 →
    j.axis = a.val → j.kind ≤ 1 → (b.ax a).mode = 4 → (b.ax a).prof.stopping = false →
    (∀ g, b.groupOf a = some g → b.grpBusy g = false) →
    (jogDir (b.ax a) j = 1 → swActive b a .pos = false) → (jogDir (b.ax a) j = -1 → swActive b a .neg = false) →
    let p1 := if (b.ax a).prof.kind = .stop ∨ (b.ax a).prof.kind = .qstop then { (b.ax a).prof with kind := .idle, plan := {}, stillRun := 0 }
      else (b.ax a).prof
    exec (.jog t h j) s = .next (settle ((b.modProf a (fun _ =>
      { p1 with
        jog := some (jogWaits p1 j)
        jogUntil := if j.kind = 0 ∧ j.value ≠ 0 then some (b.time.lt + b.pn pAxProfJogTimeoutMs a.val * 1000000) else none })).answer
      0x0214 h (okRsp [])))) ∧
  (∀ (s b : State) (t : Nat) (h : Hdr) (a : AxisId), (s.begin t).taken (.home t h a.val) = b → b.Serves h 1 false false → b.life.lc ≠ 4 →
    (b.ax a).home.req = none →
    ((b.ax a).enabled = true ∧ (b.ax a).mode = 2 ∧ atRest b a = true ∧ (b.ax a).prof.queue = [] ∧ (b.ax a).prof.repl = none) ∨
      ((b.ax a).enabled = false ∧ b.pa pAxHomeMethod a = 5) →
    exec (.home t h a.val) s = .next (settle ((homeStart a (refOf h 0x0220) b).answer 0x0220 h { status := stPending }))) ∧
  (∀ (s b : State) (t : Nat) (h : Hdr) (l : LatchReq) (a : AxisId), (s.begin t).taken (.latchArm t h l) = b →
    b.Serves h 40 false false → b.life.lc ≠ 4 →
    l.axis = a.val → l.mask ≤ 3 → (b.ax a).link.st = .run →
    (bitOf l.mask 0 = true → fieldOf (latchCfg b a 0) 11 2 ≠ 0 → l.win0Start < l.win0End) →
    (bitOf l.mask 1 = true → fieldOf (latchCfg b a 1) 11 2 ≠ 0 → l.win1Start < l.win1End) →
    let s1 := if bitOf l.mask 0 then latchArm1 a 0 l.win0Start l.win0End b else b
    let s2 := if bitOf l.mask 1 then latchArm1 a 1 l.win1Start l.win1End s1 else s1
    (l.mask = 0 → exec (.latchArm t h l) s = .next (settle ((b.modAxis a (fun x =>
      { x with latch0 := { x.latch0 with armed := false }, latch1 := { x.latch1 with armed := false } })).answer 0x0230 h (okRsp [])))) ∧
    (l.mask ≠ 0 → exec (.latchArm t h l) s = .next (settle (s2.answer 0x0230 h (okRsp [])))))

/-- TIDE_DEFINE stages a definition, TIDE_SCHEDULE proposes it to every member, GEAR_ENGAGE takes a function, CAM_LOAD fills a
table in one segment or in several (R271, R276, R290, R292, R435). -/
def Obligations.TideGearAndCamRequestsComplete : Prop :=
  (∀ (s b : State) (t : Nat) (h : Hdr) (body : List Byte) (i : TideId), (s.begin t).taken (.tideDefine t h body) = b →
    b.Serves h 544 true true → b.life.lc ≠ 4 →
    h.length = 544 → body.length = 544 → getU body 0 1 = i.val → tideBad body = none → b.tideOrigin i = true →
    exec (.tideDefine t h body) s = .next (settle
      ((b.modTide i (fun x => { x with staged := some (body, crc32 body) })).answer 0x0301 h (okRsp (toLE 4 (crc32 body)))))) ∧
  (∀ (s b : State) (t : Nat) (h : Hdr) (i : TideId) (n : Nat) (body : List Byte) (crc : Nat), (s.begin t).taken (.tideSchedule t h i.val n) = b →
    b.Serves h 8 false false → b.life.lc ≠ 4 → 17 ≤ extendN b.fabN n - b.fabN → extendN b.fabN n - b.fabN ≤ 2 ^ 31 →
    b.tideOrigin i = true → (b.tides.get i).staged = some (body, crc) → (b.tides.get i).pend = none →
    b.pendBlocks (b.modTide i (fun x => { x with pend := some (schedule b i n) })) = false →
    let at_ := (extendN b.fabN n).toNat
    let c : TideChange := { n := at_, crc := crc, body := body, members := sortBy id (b.tideMembers i ++ [b.fab.addr]), acked := [], req := some (refOf h 0x0302), origin := true, decision := 0, ownAck := false, new := formDef b (b.tides.get i) at_ crc body }
    let s1 := tideAck 17 i (b.modTide i (fun x => { x with staged := none, pend := some c }))
    let s2 := (b.tideMembers i).foldl (fun s a =>
      s.nextMsg.2.ferrySend a 4 s.nextMsg.1 (toLE 1 1 ++ body ++ toLE 4 at_) none (0, 0)) s1
    exec (.tideSchedule t h i.val n) s = .next (settle (s2.answer 0x0302 h { status := stPending }))) ∧
  (∀ (s b : State) (t : Nat) (h : Hdr) (g : GearReq) (a : AxisId), (s.begin t).taken (.gearEngage t h g) = b →
    b.Serves h 56 false false → g.axis = a.val →
    firstFail (gearChecks b a (gearFill b a g)) = none →
    let r := gearTake a (gearFill b a g) (refOf h 0x0303) b
    exec (.gearEngage t h g) s = .next (settle (r.2.answer 0x0303 h r.1))) ∧
  (∀ (s b : State) (t : Nat) (h : Hdr) (c : CamReq), (s.begin t).taken (.camLoad t h c) = b → b.Serves h 20 true true → b.life.lc ≠ 4 →
    c.table ≤ 63 → camSizeOk c.n = true → (h.persist = true → b.camFlash c.table + 8 * c.n ≤ 24 * 2 ^ 20) →
    camInOrder (b.cam c.table) c = true → c.ys ≠ [] → b.camAxes c.table = [] →
    let x := b.cam c.table
    let ys := x.soFar c.segOfs ++ c.ys
    (h.more = true → ys.length ≤ c.n → exec (.camLoad t h c) s = .next (settle
      ((b.setCam c.table { x with n := 0, rise := 0, ys := [], stored := false, load := some (c.n, c.rise, ys) }).answer 0x0304 h (okRsp [])))) ∧
    (h.more = false → ys.length = c.n → exec (.camLoad t h c) s = .next (settle
      ((b.setCam c.table { x with n := c.n, rise := c.rise, ys := ys, stored := h.persist, load := none, flash := if h.persist then some (c.n, c.rise, ys) else x.flash }).answer 0x0304 h (okRsp [])))))

/-- FAULT_READ returns records without changing one, FAULT_ACK closes what may close, FAULT_INJECT acts as a detection would
(R481-R483). -/
def Obligations.FaultRequestsComplete : Prop :=
  (∀ (s b : State) (t : Nat) (h : Hdr) (first count : Nat), (s.begin t).taken (.faultRead t h first count) = b → b.Serves h 4 true false →
    first ≤ 255 ∨ (first = 0xFFFF ∧ b.flt.newest ≠ 0xFFFF) →
    let f := if first = 0xFFFF then b.flt.newest else first
    let held := (b.flt.recs.filter (fun e => decide (e.2.state ≠ 0))).length
    let recs := (slotsDown f (min count (1 + h.length / 32))).map (fun i => (b.frec i).bytes)
    exec (.faultRead t h first count) s = .next (settle (b.answer 0x0401 h
      { status := stOk, detail := b.flt.lost, body := toLE 2 held ++ toLE 2 0 ++ recs.headD (List.replicate 32 0),
        bulk := if h.bulk then some ((recs.tail.flatten).take h.length) else none }))) ∧
  (∀ (s b : State) (t : Nat) (h : Hdr) (count : Nat), (s.begin t).taken (.faultRead t h 0xFFFF count) = b →
    b.Serves h 4 true false → b.flt.newest = 0xFFFF →
    exec (.faultRead t h 0xFFFF count) s = .next (settle (b.answer 0x0401 h
      { status := stOk, detail := b.flt.lost, body := toLE 2 0 ++ toLE 2 0 ++ List.replicate 32 0, bulk := if h.bulk then some [] else none }))) ∧
  (∀ (s b : State) (t : Nat) (h : Hdr) (i : Nat), (s.begin t).taken (.faultAck t h i) = b → b.Serves h 2 false false → b.life.lc ≠ 4 →
    i ≤ 255 → (b.frec i).state = 2 →
    exec (.faultAck t h i) s = .next (settle ((closeRec i b).answer 0x0402 h (okRsp [])))) ∧
  (∀ (s b : State) (t : Nat) (h : Hdr) (i : Nat), (s.begin t).taken (.faultAck t h i) = b → b.Serves h 2 false false → b.life.lc ≠ 4 →
    i ≤ 255 → (b.frec i).state = 1 →
    let r := ackActive i (refOf h 0x0402) b
    exec (.faultAck t h i) s = .next (settle (r.2.answer 0x0402 h r.1))) ∧
  (∀ (s b : State) (t : Nat) (h : Hdr), (s.begin t).taken (.faultAck t h 0xFFFF) = b → b.Serves h 2 false false → b.life.lc ≠ 4 →
    let l := b.openSlots.filter (fun i => decide ((b.frec i).state = 2))
    exec (.faultAck t h 0xFFFF) s = .next (settle
      ((l.foldl (fun s i => closeRec i s) b).answer 0x0402 h { status := stOk, detail := l.length }))) ∧
  (∀ (s b : State) (t : Nat) (h : Hdr) (cls code unit window : Nat) (row : CodeRow), (s.begin t).taken (.faultInject t h cls code unit window) = b →
    b.Serves h 12 false false →
    codeRow code = some row → code / 256 = cls → unitIs row.kind unit = true → cls ≠ 0xD → 1 ≤ window → window ≤ 3600000000 →
    (b.life.lc = 0 ∨ b.life.lc = 1 ∨ b.life.lc = 3 ∨ (b.life.lc = 2 ∧ b.life.service = true)) →
    let met : Occ := ⟨code, unit, none, false, none, 0⟩
    b.findRec met (fun _ => true) ≠ none ∨ (b.p1 pModRm8FaultMode 0 = 1 ∧ b.oldestOf cls ≠ none) ∨ b.freeSlot ≠ none →
    let spared := tileSpared b code unit
    let o : Occ := ⟨code, unit, if code = fTileFail ∧ ¬ spared then some 3 else none, false, none, 0⟩
    let s1 := occur o (some (b.time.lt + window * 1000)) b
    let slot := match s1.findRec o (fun _ => true) with
      | some i => i
      | none => (match s1.oldestOf cls with | some i => i | none => s1.flt.newest)
    exec (.faultInject t h cls code unit window) s = .next (settle
      ((if spared then maskByRecord (tileIdx (unit - 0x60)) (some slot) s1 else s1).answer 0x0403 h (okRsp (toLE 2 slot)))))

/-- A first occurrence of its code and unit, at level 0 or 1 and without another open record of its class, opens a record in the
first free slot, with its class, levels and times, ACTIVE or, of kind E, at once LATCHED, and leaves every other record as it was
(R471-R474); a reaction at level 5 disables every axis and opens both safety outputs (R466, R469). -/
def Obligations.FirstOccurrenceOpensARecord : Prop :=
  (∀ (s : State) (o : Occ) (i lvl : Nat), s.findRec o (fun _ => true) = none → s.p1 pModRm8FaultMode 0 ≠ 1 → s.freeSlot = some i →
    s.otherOpen (o.code / 256) o.incident none = false →
    max (o.level.getD (defaultLevel o.code o.unit)) (s.pn pFltClassBaseLevel (o.code / 256)) = lvl → lvl ≤ 1 →
    let s1 := occur o none s
    let e := decide (clearsOf o.code = .event)
    let first := o.stamp.getD s.recTime.1
    s1.frec i = ({ code := o.code, unit := o.unit, cls := o.code / 256, level := lvl, dflt := lvl, state := if e then 2 else 1, timeLt := s.recTime.2, first := first, last := first, cleared := if e then first else -(2 ^ 63), order := s.flt.opened, incident := o.incident } : FltRec) ∧
    s1.flt.newest = i ∧ s1.flt.opened = s.flt.opened + 1 ∧ (∀ j, j ≠ i → s1.frec j = s.frec j)) ∧
  (∀ (s : State) (unit : Nat) (slot : Option Nat), let s1 := react 5 unit slot s
    (∀ a, (s1.ax a).enabled = false) ∧ s1.safe.soa = false ∧ s1.safe.sob = false ∧ s1.safe.level5 = true)

/-- TRACE_ARM starts or ends an acquisition, TRACE_READ returns whole records, RECORD_FREEZE freezes or runs the recorder,
REPLAY_RUN starts a replay (R438, R541, R556, R557).
TIME_GET reads every time scale at one instant, TIMED_OUTPUT starts or ends the pulses of a channel, TIME_ACCEPT_JUMP accepts
a refused step (R388, R397-R399, R402, R438). -/
def Obligations.RecorderAndTimeRequestsComplete : Prop :=
  (∀ (s b c : State) (t : Nat) (h : Hdr), (s.begin t).taken (.traceArm t h 1) = b → (s.begin t).taken (.traceArm t h 0) = c →
    b.Serves h 1 false false → b.life.lc ≠ 4 →
    (b.cyc.cycling = true → b.acq.armed = false → exec (.traceArm t h 1) s = .next (settle
      ({ b with acq := ({ armed := true, armedAt := b.ft } : AcqState) }.answer 0x0502 h (okRsp [])))) ∧
    exec (.traceArm t h 0) s = .next (settle ((acqEnd 1 c).answer 0x0502 h (okRsp [])))) ∧
  (∀ (s b : State) (t : Nat) (h : Hdr) (ofs : Nat), (s.begin t).taken (.traceRead t h ofs) = b →
    b.Serves h 1 true true → b.life.lc ≠ 4 → ofs % 8 = 0 →
    (b.acq.armed = true → b.acq.triggered = true) →
    let bytes := (((b.acq.recs.drop (ofs / 8)).take (h.length / 8)).map (fun (w : Nat) => toLE 8 (w : Int))).flatten
    exec (.traceRead t h ofs) s = .next (settle (b.answer 0x0503 h
      { status := stOk, body := toLE 4 (bytes.length : Nat) ++ toLE 8 (b.acq.recs.length * 8 : Nat), bulk := some bytes }))) ∧
  (∀ (s b c : State) (t : Nat) (h : Hdr), (s.begin t).taken (.recordFreeze t h 1) = b → (s.begin t).taken (.recordFreeze t h 0) = c →
    b.Serves h 1 false false → b.life.lc ≠ 4 →
    (b.rcd.replay = none → exec (.recordFreeze t h 1) s = .next (settle
      ((if b.rcd.frozen then { b with rcd := ({ upBase := b.rcd.upBase, dnBase := b.rcd.dnBase } : RcdState) } else b).answer 0x0510 h
        (okRsp (toLE 4 0 ++ toLE 4 0))))) ∧
    exec (.recordFreeze t h 0) s = .next (settle
      ((if c.rcd.frozen || c.rcd.freezeDue.isSome then c
        else { c with rcd := { c.rcd with freezeDue := some (if c.cyc.cycling then 1 else 0, false) } }).answer 0x0510 h
        (okRsp (toLE 4 c.window.1 ++ toLE 4 c.window.2))))) ∧
  (∀ (s b : State) (t : Nat) (h : Hdr) (first cycles mask : Nat) (tile : Fin 5) (e : Nat × Nat × Nat), (s.begin t).taken (.replayRun t h first cycles mask) = b →
    b.Serves h 12 false false →
    (b.life.lc = 1 ∨ b.life.lc = 3 ∨ (b.life.lc = 2 ∧ ∀ a, (b.ax a).enabled = false)) →
    let n := if first = 0 then 0 else (extendN b.fabN first).toNat
    (first ≠ 0 → b.window.1 ≤ n ∧ n ≤ b.window.2) → b.rcd.frozen = true → b.replayTile = some tile → b.rcd.replay = none →
    b.snapFor n = some e → e.2.2 = crc32 b.tiles.image →
    let s1 := { b with rcd := { b.rcd with replay := some ⟨refOf h 0x0511, n, cycles, mask, tile⟩ } }
    exec (.replayRun t h first cycles mask) s = .next (settle
      ((if tile.val = 4 then { s1 with tiles := { s1.tiles with checked := 7 } } else s1).answer 0x0511 h { status := stPending }))) ∧
  (∀ (s b : State) (t : Nat) (h : Hdr), (s.begin t).taken (.timeGet t h) = b → b.Serves h 0 false false → b.time.nt = none →
    exec (.timeGet t h) s = .next (settle (b.answer 0x0601 h (okRsp (toLE 8 b.ft ++ toLE 8 (b.time.lt : Int) ++ toLE 8 (b.ntNow / secFine) ++
      toLE 4 (b.ntNow % secFine / 65536) ++ toLE 2 (b.ntNow % 65536) ++ toLE 2 (b2n b.fab.ftValid : Nat) ++ toLE 2 0))))) ∧
  (∀ (s b : State) (t : Nat) (h : Hdr) (r : NtRec), (s.begin t).taken (.timeGet t h) = b → b.Serves h 0 false false → b.time.nt = some r →
    exec (.timeGet t h) s = .next (settle (b.answer 0x0601 h (okRsp (toLE 8 b.ft ++ toLE 8 (b.time.lt : Int) ++ toLE 8 (b.ntNow / secFine) ++
      toLE 4 (b.ntNow % secFine / 65536) ++ toLE 2 (b.ntNow % 65536) ++
      toLE 2 (b2n b.fab.ftValid + 2 * b2n r.valid + 4 * b2n r.utcValid : Nat) ++ toLE 2 r.utcOffset))))) ∧
  (∀ (s b : State) (t : Nat) (h : Hdr) (p : TqReq) (ch : Fin 4), (s.begin t).taken (.timedOutput t h p) = b →
    b.Serves h 32 false false → b.life.lc ≠ 4 →
    p.channel = ch.val → b.p1 pTimeTqMode ch.val = 1 → firstFail (tqRange b p) = none →
    let g : TqProg := { once := decide (p.kind = 0), nt := decide (p.scale = 1), t0 := tqStart p, period := p.period, width := p.width,
                        lowPulse := decide (p.polarity = 1), count := p.count, k := 0 }
    (p.kind = 2 → exec (.timedOutput t h p) s = .next (settle ((b.modTq ch (fun c => { c with prog := none })).answer 0x0602 h (okRsp [])))) ∧
    (p.kind ≠ 2 → (b.time.tq.get ch).pulseEnd = none → exec (.timedOutput t h p) s = .next (settle
      ((b.modTq ch (fun c => { c with prog := progAt g 0, pad := g.lowPulse })).answer 0x0602 h (okRsp [])))) ∧
    (∀ e, p.kind ≠ 2 → (b.time.tq.get ch).pulseEnd = some e → exec (.timedOutput t h p) s = .next (settle
      ((b.modTq ch (fun c => { c with prog := progAt g (edgeFrom g (b.scaleCeil g.nt e)) })).answer 0x0602 h (okRsp []))))) ∧
  (∀ (s b : State) (t : Nat) (h : Hdr) (sec : Nat), (s.begin t).taken (.timeAcceptJump t h sec) = b → b.Serves h 8 false false → b.life.lc ≠ 4 →
    b.time.isSource = true → b.time.jumpPending = true ∨ (b.p1 pTimeNtSource 0 = 2 ∧ b.ntValid = false) →
    exec (.timeAcceptJump t h sec) s = .next (settle ({ b with time := { b.time with jumpAccepted := b.time.jumpPending, ppsiSeconds := if b.p1 pTimeNtSource 0 = 2 then some sec else none } }.answer 0x0603 h (okRsp []))))

/-- FABRIC_DISCOVER starts a census, TIMETABLE_LOAD distributes a table that passes its checks and names the rule of one that
does not, TIMETABLE_SWITCH asks for its switch two cycles ahead (R348, R354, R357). -/
def Obligations.FabricRequestsComplete : Prop :=
  (∀ (s b : State) (t : Nat) (h : Hdr), (s.begin t).taken (.fabricDiscover t h) = b → b.Serves h 0 false false → b.life.lc ≠ 4 →
    b.isHarbour = true → b.fab.st = 4 → b.startupMode = true → b.fab.discover = none →
    exec (.fabricDiscover t h) s = .next (settle ((startCensus (some (refOf h 0x0701)) b).answer 0x0701 h { status := stPending }))) ∧
  (∀ (s b : State) (t : Nat) (h : Hdr) (body : List Byte), (s.begin t).taken (.timetableLoad t h body) = b → b.Serves h 32 true true → b.life.lc ≠ 4 →
    b.isHarbour = true → (b.fab.st = 4 ∨ b.fab.st = 5) →
    (tableBad b body = none → b.fab.ttLoad = none → exec (.timetableLoad t h body) s = .next (settle
      ((distribute body h.persist (some (refOf h 0x0702)) b).answer 0x0702 h { status := stPending }))) ∧
    (∀ rule berth, tableBad b body = some (rule, berth) → exec (.timetableLoad t h body) s = .next (settle
      (b.answer 0x0702 h { status := stCheckFailed, detail := rule, body := toLE 2 (berth : Int) })))) ∧
  (∀ (s b : State) (t : Nat) (h : Hdr) (tt : Nat), (s.begin t).taken (.timetableSwitch t h tt) = b → b.Serves h 1 false false → b.life.lc ≠ 4 →
    (tt ≤ 7 ∧ b.lacksTable tt = false) ∨ (tt = 0xFF ∧ b.anyEnabled = false) → b.isHarbour = true → (b.fab.st = 4 ∨ b.fab.st = 5) → b.fab.ttPend = none →
    let to_ := if tt = 0xFF then 0xF else tt
    (b.startupMode = true → tt ≠ 0xFF → exec (.timetableSwitch t h tt) s = .next (settle
      ((startSwitch tt (some (refOf h 0x0703)) b).answer 0x0703 h { status := stPending }))) ∧
    (b.startupMode = true → tt = 0xFF → exec (.timetableSwitch t h tt) s = .next (settle (b.answer 0x0703 h (okRsp [])))) ∧
    (b.startupMode = false → exec (.timetableSwitch t h tt) s = .next (settle
      ({ b with fab := { b.fab with ttReq := some (to_, b.fabN + 1), ttPend := some { tt := to_, n := b.fabN + 1, members := [], acked := [], req := some (refOf h 0x0703), commit := false, startup := false, own := true } } }.answer 0x0703 h { status := stPending }))))

/-- BIST_RUN waits for the end of cycling, LIFECYCLE_ADVANCE for the fuses; DEBUG_RESPONSE opens what its signature proves, a wrong
one waiting 1 s for AUTH (R563, R567-R569, R575). -/
def Obligations.LifecycleRequestsComplete : Prop :=
  (∀ (s b : State) (t : Nat) (h : Hdr) (scope : Nat), (s.begin t).taken (.bistRun t h scope) = b → b.Serves h 1 false false →
    (scope = 1 ∨ (scope = 0 ∧ b.life.lc ≠ 4 ∧ b.openState = true)) → b.anyAxisOn = false → b.railOk = true → b.refOk = true → b.lidOk = true →
    b.prm.pend = none → b.rcd.replay = none → b.tiles.takeover = none → b.life.bist = none →
    exec (.bistRun t h scope) s = .next (settle
      ({ b with life := { b.life with bist := some (scope, refOf h 0x0801), bistCut := false }, cyc := { b.cyc with stopDue := b.cyc.stopDue || b.cyc.cycling } }.answer 0x0801 h { status := stPending }))) ∧
  (∀ (s b : State) (t : Nat) (h : Hdr) (target row : Nat) (body : List Byte), (s.begin t).taken (.lifecycleAdvance t h target body) = b →
    b.Serves h 1 true false → b.life.lc ≠ 4 →
    transition b.life.lc target = some row → (row = 0 → body.length = 100 ∧ keyBad body = none) → b.authorised row = true →
    b.anyAxisOn = false → b.ss1Runs = false → b.life.bist = none → b.life.update = none → b.vsysOk = true →
    b.life.advance = none → b.life.resetDue = none →
    exec (.lifecycleAdvance t h target body) s = .next (settle
      ({ b with life := { b.life with advance := some (target, refOf h 0x0802, body), serviceAuth := if row = 1 then none else b.life.serviceAuth, returnAuth := if row = 2 then none else b.life.returnAuth } }.answer 0x0802 h { status := stPending }))) ∧
  (∀ (s b : State) (t : Nat) (h : Hdr) (body n : List Byte) (k : Nat), (s.begin t).taken (.debugResponse t h body) = b →
    b.Serves h 0 true false → b.life.lc ≠ 4 →
    b.openNonce = some (k, n) → (if k = 0 then h.bulk = false else h.bulk = true ∧ h.length = 64) → b.life.authFails < 3 →
    let s1 := { b with life := { b.life with nonce := none } }
    (responseOk b k n body = true →
      exec (.debugResponse t h body) s = .next (settle ((responseOpens k s1).answer 0x0804 h (okRsp [])))) ∧
    (responseOk b k n body = false → exec (.debugResponse t h body) s = .next (settle
      ({ s1 with life := { s1.life with authPend := s1.life.authPend ++ [(refOf h 0x0804, b.time.lt + 1000000000)] } }.answer 0x0804 h { status := stPending }))))

/-- DEBUG_CHALLENGE returns 32 bytes and opens its nonce for 60 s in the lifecycle states of its KIND, replacing any open nonce; in
every other state it is refused with LIFECYCLE; the nonce is open until its instant, and the first response uses it up (R566).
(The nonce is a free value: log 5.) -/
def Obligations.ChallengeOpensOneNonce : Prop :=
  (∀ (s b : State) (t : Nat) (h : Hdr) (kind : Nat), (s.begin t).taken (.debugChallenge t h kind) = b → b.Serves h 1 false false → kind ≤ 2 →
    let may : Prop := (kind = 0 ∧ b.life.lc = 1) ∨ (kind = 1 ∧ (b.life.lc = 1 ∨ b.life.lc = 2)) ∨ (kind = 2 ∧ b.life.lc ≤ 3)
    (may → b.life.authFails < 3 → exec (.debugChallenge t h kind) s = .next (settle
      ({ b with free := b.free + 1, life := { b.life with nonce := some (kind, nonceBytes b.free, b.time.lt + 60000000000) } }.answer 0x0803 h
        (okRsp (nonceBytes b.free))))) ∧
    (¬ may → exec (.debugChallenge t h kind) s = .next (settle (b.answer 0x0803 h { status := stLifecycle })))) ∧
  (∀ k : Nat, (nonceBytes k).length = 32) ∧
  (∀ (s : State) (k d : Nat) (n : List Byte), s.life.nonce = some (k, n, d) →
    (s.time.lt < d → s.openNonce = some (k, n)) ∧ (d ≤ s.time.lt → s.openNonce = none)) ∧
  (∀ (s b : State) (t : Nat) (h : Hdr) (body : List Byte), (s.begin t).taken (.debugResponse t h body) = b →
    b.Serves h 0 true false → b.life.lc ≠ 4 → b.openNonce = none →
    h.bulk = false → exec (.debugResponse t h body) s = .next (settle (b.answer 0x0804 h { status := stState }))) ∧
  (∀ (s b : State) (t : Nat) (h : Hdr) (body n : List Byte) (k : Nat), (s.begin t).taken (.debugResponse t h body) = b →
    b.Serves h 0 true false → b.life.lc ≠ 4 →
    b.openNonce = some (k, n) → (if k = 0 then h.bulk = false else h.bulk = true ∧ h.length = 64) → b.life.authFails < 3 →
    ∃ (s1 : State) (r : Rsp), exec (.debugResponse t h body) s = .next (settle (s1.answer 0x0804 h r)) ∧ s1.life.nonce = none)

/-- A firmware update takes an image in segments and ends with its check; SAFETY_CONFIG opens both outputs and starts writing a
block that passes its checks (R492, R493, R571). -/
def Obligations.UpdateAndSafetyConfigRequestsComplete : Prop :=
  (∀ (s b : State) (t : Nat) (h : Hdr) (len version : Nat), (s.begin t).taken (.fwUpdateBegin t h len version) = b →
    b.Serves h 8 false false → b.life.lc ≠ 4 →
    len ≤ 16777216 → b.life.update = none →
    let s1 := b.setOther {}
    exec (.fwUpdateBegin t h len version) s = .next (settle
      ({ s1 with life := { s1.life with update := some (len, version, []) } }.answer 0x0810 h (okRsp [])))) ∧
  (∀ (s b : State) (t : Nat) (h : Hdr) (ofs len version : Nat) (data body : List Byte), (s.begin t).taken (.fwUpdateData t h ofs body) = b →
    b.Serves h 4 true true → b.life.lc ≠ 4 →
    b.life.update = some (len, version, data) → (ofs = 0 ∨ ofs = data.length) →
    exec (.fwUpdateData t h ofs body) s = .next (settle
      ({ b with life := { b.life with update := some (len, version, (if ofs = 0 then [] else data) ++ body) } }.answer 0x0811 h (okRsp [])))) ∧
  (∀ (s b : State) (t : Nat) (h : Hdr) (activate len version : Nat) (data : List Byte), (s.begin t).taken (.fwUpdateEnd t h activate) = b →
    b.Serves h 1 false false →
    b.life.lc ≠ 4 → activate ≤ 1 → b.life.update = some (len, version, data) →
    let s1 := b.respond (refOf h 0x0812) h.bulkOfs { status := stPending }
    let s2 := { s1 with life := { s1.life with update := none } }
    let s3 := s2.setOther { valid := true, version := imageVersion data, floor := imageFloor data, bytes := data }
    (∀ st, st ≠ stPending → imageCheck b len version data = some st →
      exec (.fwUpdateEnd t h activate) s = .next (settle (s2.answer 0x0812 h { status := st }))) ∧
    (imageCheck b len version data = none → activate = 0 →
      exec (.fwUpdateEnd t h activate) s = .next (settle (s3.answer 0x0812 h (okRsp [])))) ∧
    (imageCheck b len version data = none → activate = 1 → exec (.fwUpdateEnd t h activate) s = .next (settle
      ({ s3 with life := { s3.life with active := 1 - b.host.ident.image, newImage := true } }.answer 0x0812 h (okRsp []))))) ∧
  (∀ (s b : State) (t : Nat) (h : Hdr) (body : List Byte), (s.begin t).taken (.safetyConfig t h body) = b → b.Serves h 1 true true → b.life.lc ≠ 4 →
    h.length = 256 → (b.life.lc = 2 → b.life.service = true) → (∀ a, (b.ax a).enabled = false) → b.ss1Runs = false →
    getU body 12 4 = b.configCrc → blockRange b.host.ident.uid body = none → blockConds b body = none → b.safe.writing = none →
    let s2 := safeEvalFrom b { b with safe := { b.safe with writing := some (body, refOf h 0x0901, b.time.lt) } }
    let bad := s2.openSlots.filter (fun i => decide ((s2.frec i).code = fConfigBad ∧ (s2.frec i).state = 1))
    exec (.safetyConfig t h body) s = .next (settle
      ((bad.foldl (fun s i => latchRec i s.recTime.1 s) s2).answer 0x0901 h { status := stPending })))

/-! ### The two host ports -/

/-- A write of REQ_PROD at a port that the ring is bound to, or that binds it, moves the index forward up to 64 entries ahead of
REQ_CONS; RSP_CONS and EVT_CONS move forward up to their producer; every other value is ignored, counts in OVERRUN and raises
RING_OVERRUN (R406, R415, R422). -/
def Obligations.RingIndexWritesMoveForwardOrOverrun : Prop :=
  (∀ (s b : State) (t : Nat) (p : HostPort) (i : Fin 4) (v : Word16), s.begin t = b → b.portOn p = true →
    let r := b.host.rings.get i
    let bound := { b with host := { b.host with hostTxn := true } }.modRing i (fun r => { r with port := if r.port = 0 then portCode p else r.port })
    (r.port = 0 ∨ r.port = portCode p) →
    ((v - r.reqCons).toNat ≤ 64 → (r.reqProd - r.reqCons).toNat ≤ (v - r.reqCons).toNat →
      exec (.reqProdWrite t p i v) s = .next (settle (bound.modRing i (fun r => { r with reqProd := v })))) ∧
    (64 < (v - r.reqCons).toNat ∨ (v - r.reqCons).toNat < (r.reqProd - r.reqCons).toNat →
      exec (.reqProdWrite t p i v) s = .next (settle
        (({ bound with host := { bound.host with overrun := incSat 16 bound.host.overrun } }).raise fRingOverrun 0xFF)))) ∧
  (∀ (s b : State) (t : Nat) (p : HostPort) (i : Fin 4) (v : Word16), s.begin t = b → b.portOn p = true →
    let r := b.host.rings.get i
    (r.port = 0 ∨ r.port = portCode p) →
    ((v - r.rspCons).toNat ≤ (r.rspProd - r.rspCons).toNat → exec (.rspConsWrite t p i v) s =
      .next (settle (flushRsp i (b.modRing i (fun r => { r with rspCons := v }))))) ∧
    ((r.rspProd - r.rspCons).toNat < (v - r.rspCons).toNat → exec (.rspConsWrite t p i v) s = .next (settle
      (({ b with host := { b.host with overrun := incSat 16 b.host.overrun } }).raise fRingOverrun 0xFF)))) ∧
  (∀ (s b : State) (t : Nat) (p : HostPort) (v : Word16), s.begin t = b → b.portOn p = true →
    ((v - b.host.evtCons).toNat ≤ (b.host.evtProd - b.host.evtCons).toNat → exec (.evtConsWrite t p v) s =
      .next (settle { b with host := { b.host with evtCons := v } })) ∧
    ((b.host.evtProd - b.host.evtCons).toNat < (v - b.host.evtCons).toNat → exec (.evtConsWrite t p v) s = .next (settle
      (({ b with host := { b.host with overrun := incSat 16 b.host.overrun } }).raise fRingOverrun 0xFF))))

/-- A write of REQ_PROD or RSP_CONS from the port that the ring is not bound to is ignored and counted in IGNORED (R415); a port
whose domain is off or whose mode is 0 takes no transaction (R408, R412). -/
def Obligations.ForeignAndClosedPortsTakeNothing : Prop :=
  (∀ (s b : State) (t : Nat) (p : HostPort) (i : Fin 4) (v : Word16), s.begin t = b → b.portOn p = true →
    (b.host.rings.get i).port ≠ 0 → (b.host.rings.get i).port ≠ portCode p →
    exec (.reqProdWrite t p i v) s = .next (settle { b with host := { b.host with ignored := incSat 16 b.host.ignored } }) ∧
    exec (.rspConsWrite t p i v) s = .next (settle { b with host := { b.host with ignored := incSat 16 b.host.ignored } })) ∧
  (∀ (s b : State) (t : Nat) (p : HostPort) (i : Fin 4) (v : Word16) (addr : Word16) (bytes : List Byte) (f : EthFrame), s.begin t = b →
    b.portOn p = false →
    exec (.reqProdWrite t p i v) s = .next (settle b) ∧ exec (.registerWrite t p addr bytes) s = .next (settle b) ∧
    exec (.evtRegisterRead t p) s = .next (settle b) ∧
    (p = .eth → exec (.ethWindowRead t f) s = .next (settle b) ∧ exec (.ethWindowWrite t f) s = .next (settle b)))

/-- HEARTBEAT restarts the host watchdog and ends HOST_SILENT, which is raised once the watchdog has run out, and only with HOST_WD
not zero; FLD_OUT takes the commands of the field outputs, a write of OBJ_STAT clears the flags written as 1, and TX_REQ asks
for the object that the port selects (R420, R519, R531, R532).
(An event before its condition changes nothing: the model's choice, log 3.) -/
def Obligations.RegisterWritesTakeEffect : Prop :=
  (∀ (s b : State) (t : Nat) (p : HostPort) (v : Word32), s.begin t = b → b.portOn p = true →
    (b.host.silent = false → exec (.heartbeatWrite t p v) s = .next (settle { b with host := { b.host with lastBeat := b.time.lt } })) ∧
    (b.host.silent = true → exec (.heartbeatWrite t p v) s = .next (settle
      (({ b with host := { b.host with lastBeat := b.time.lt, silent := false } }).clearCond fHostSilent 0xFF))) ∧
    exec (.fldOutWrite t p v) s = .next (settle { b with fld := { b.fld with cmd := v.toNat } })) ∧
  (∀ (s b : State) (t : Nat) (p : HostPort) (v : Byte), s.begin t = b → b.portOn p = true →
    let c := selCh (b.selOf p)
    let o := b.selOf p % 128
    let s1 := b.modObj c o (fun x => { x with new := x.new && !bitOf v.toNat 0, ovr := x.ovr && !bitOf v.toNat 1,
                                              txDone := x.txDone && !bitOf v.toNat 4, txFail := x.txFail && !bitOf v.toNat 5 })
    (b.objReserved c.val o = false → bitOf v.toNat 2 = false → exec (.objStatClear t p v) s = .next (settle s1)) ∧
    (b.objReserved c.val o = true → exec (.objStatClear t p v) s = .next (settle b))) ∧
  (∀ (s b : State) (t : Nat) (p : HostPort), s.begin t = b → b.portOn p = true →
    let c := selCh (b.selOf p)
    let o := b.selOf p % 128
    b.objReserved c.val o = false → b.objKind c.val o = 2 →
    exec (.txReq t p) s = .next (settle (canTxReq c o (b.modObj c o (fun x => x))))) ∧
  (∀ (s b : State) (t : Nat), s.begin t = b →
    (b.host.hostWd ≠ 0 → b.host.silent = false → b.host.lastBeat + b.host.hostWd * 1000000 ≤ b.time.lt →
      exec (.hostSilent t) s = .next (settle (({ b with host := { b.host with silent := true } }).raise fHostSilent 0xFF))) ∧
    (b.host.hostWd = 0 ∨ b.host.silent = true ∨ b.time.lt < b.host.lastBeat + b.host.hostWd * 1000000 →
      exec (.hostSilent t) s = .next (settle b)))

/-- A read of EVT, HOST_ERR, FLD_CNT or CAN_STAT returns the bytes of the register and clears its RC fields, and nothing else
changes (R421, R525, R530). -/
def Obligations.ClearOnReadRegisters : Prop :=
  ∀ (s b : State) (t : Nat) (p : HostPort) (ch : Fin 2), s.begin t = b → b.portOn p = true →
    exec (.evtRegisterRead t p) s = .next (settle
      { b with host := { b.host with evtLost := 0 }, out := { b.out with qspi := (List.range 8).map (byteOf (evtReg b)) } }) ∧
    exec (.hostErrRead t p) s = .next (settle
      { b with host := { b.host with ignored := 0, overrun := 0, ethDiscard := 0 }, out := { b.out with qspi := (List.range 8).map (byteOf (hostErrReg b)) } }) ∧
    exec (.fldCntRead t p) s = .next (settle
      { b with fld := { b.fld with sags := 0, silences := 0 }, out := { b.out with qspi := (List.range 4).map (byteOf b.fldCntReg) } }) ∧
    exec (.canStatRead t p ch) s = .next (settle
      { b.modCan ch (fun x => { x with unmatched := 0, busOffs := 0 }) with out := { b.out with qspi := (List.range 8).map (byteOf (b.canStat ch)) } })

/-- A write transaction in the bulk area changes exactly the bytes it sends and keeps the memory canonical; a read there, at
either port, returns what the memory holds and changes nothing (R407, R411, R413, R414). -/
def Obligations.BulkAreaIsReadAndWritten : Prop :=
  (∀ (s b : State) (t : Nat) (p : HostPort) (addr : Word16) (bytes : List Byte), s.begin t = b → b.portOn p = true →
    0xC000 ≤ addr.toNat → addr.toNat + bytes.length ≤ 0x10000 →
    let m := memWriteN b.host.mem addr.toNat bytes
    exec (.registerWrite t p addr bytes) s = .next (settle { b with host := { b.host with mem := m } }) ∧
    (p = .qspi → exec (.qspiWrite t addr bytes) s = .next (settle { b with host := { b.host with mem := m } })) ∧
    (s.MemOk → memWf m = true ∧
      ∀ a, memRead m a = if h : addr.toNat ≤ a ∧ a - addr.toNat < bytes.length then bytes[a - addr.toNat]'h.2 else memRead b.host.mem a)) ∧
  (∀ (s b : State) (t : Nat) (addr : Word16) (n until_ : Nat), s.begin t = b → b.portOn .qspi = true → 0xC000 ≤ addr.toNat → addr.toNat + n ≤ 0x10000 →
    exec (.qspiRead t addr n until_) s = .next (settle { b with out := { b.out with qspi := memReadN b.host.mem addr.toNat n } })) ∧
  (∀ (s b : State) (t : Nat) (f : EthFrame), s.begin t = b → b.portOn .eth = true → ethBad f = none → f.kind = 1 → 0xC000 ≤ f.addr →
    exec (.ethWindowRead t f) s = .next (settle
      { b with host := { b.host with hostTxn := true },
               out := { b.out with eth := b.out.eth ++ [⟨f.src, 1, 3, f.seq, f.addr, f.len, memReadN b.host.mem f.addr f.len⟩] } })) ∧
  (∀ (s b : State) (t : Nat) (f : EthFrame), s.begin t = b → b.portOn .eth = true → ethBad f = none → f.kind = 2 → 0xC000 ≤ f.addr →
    exec (.ethWindowWrite t f) s = .next (settle
      { b with host := { b.host with hostTxn := true, writeMac := some f.src, mem := memWriteN b.host.mem f.addr (f.data.take f.len) },
               out := { b.out with eth := b.out.eth ++ [⟨f.src, 1, 4, f.seq, f.addr, f.len, []⟩] } }))

/-- A malformed window-access frame is answered with NACK and its reason, and nothing is carried out; a frame that is neither PTP
nor window access to the module, or lies in a VLAN, is discarded and counted; the fast command returns the buffer that the index names and holds it until the transaction ends; an
unknown command ends with nothing done; a change of the Ethernet link raises or ends ETH_LINK (R408-R410, R412-R414, R445). -/
def Obligations.FramesAndTransactionsOfTheTwoPorts : Prop :=
  (∀ (s b : State) (t : Nat) (f : EthFrame) (r : Nat), s.begin t = b → b.portOn .eth = true → ethBad f = some r →
    let s1 := { b with out := { b.out with eth := b.out.eth ++ [⟨f.src, 1, 6, f.seq, f.addr, r, []⟩] } }
    exec (.ethWindowRead t f) s = .next (settle s1) ∧ exec (.ethWindowWrite t f) s = .next (settle s1)) ∧
  (∀ (s b : State) (t : Nat) (f : EthHead), s.begin t = b → b.portOn .eth = true →
    ¬ (f.vlan = 0 ∧ (f.etherType = 0x88F7 ∨ (f.etherType = 0x88B5 ∧ f.own = true))) →
    exec (.ethFrameDiscard t f) s = .next (settle { b with host := { b.host with ethDiscard := incSat 16 b.host.ethDiscard } })) ∧
  (∀ (s b : State) (t : Nat) (addr : Word16) (n until_ : Nat), s.begin t = b → b.portOn .qspi = true → addr.toNat + n ≤ 0x400 →
    exec (.qspiFast t addr n until_) s = .next (settle
      { b with host := { b.host with held := some (b.host.bufIdx, until_) },
               out := { b.out with qspi := (List.range n).map (fun i => fastByte (b.host.bufs.get b.host.bufIdx) (addr.toNat + i)) } })) ∧
  (∀ (s b : State) (t : Nat) (addr : Word16) (n until_ : Nat), s.begin t = b → b.portOn .qspi = true → 0x400 ≤ addr.toNat →
    addr.toNat + n ≤ 0x10000 → exec (.qspiFast t addr n until_) s = .next (settle
      { b with host := { b.host with held := some (b.host.bufIdx, until_) }, out := { b.out with qspi := List.replicate n 0 } })) ∧
  (∀ (s b : State) (t : Nat) (cmd : Byte), s.begin t = b → exec (.qspiUnknownCommand t cmd) s = .next (settle b)) ∧
  (∀ (s b : State) (t : Nat) (up : Bool), s.begin t = b → b.host.ethUp ≠ up → b.p1 pHostEthMode 0 ≠ 0 →
    let s1 := { b with host := { b.host with ethUp := up } }
    exec (.ethLink t up) s = .next (settle (if up then s1.clearCond fEthLink 0xFF else s1.raise fEthLink 0xFF)))

/-- A service pass takes the oldest request of another node at the priority of the ring it came from, else the oldest entry of the
lowest-numbered ring that has one, runs the request that its 64 bytes and the
named bulk region hold, and ends in the next state of that request (R423, R424, R426, R429; that a request of the node's own ring of
the same number goes first is the model's choice, log 104); an entry whose opcode R438 does not have is
answered UNKNOWN_OP (R428); the memory errors that a pass finds reach the collector (R13; that they come with a pass is the model's choice,
log 233). -/
def Obligations.ServicePassRunsTheOldestRequest : Prop :=
  let ops := [0x0101, 0x0102, 0x0103, 0x0110, 0x0111, 0x0112, 0x0201, 0x0202, 0x0203, 0x0210, 0x0211, 0x0212, 0x0213, 0x0214, 0x0220, 0x0230,
    0x0301, 0x0302, 0x0303, 0x0304, 0x0401, 0x0402, 0x0403, 0x0501, 0x0502, 0x0503, 0x0510, 0x0511, 0x0601, 0x0602, 0x0603] ++
    [0x0701, 0x0702, 0x0703, 0x0801, 0x0802, 0x0803, 0x0804, 0x0810, 0x0811, 0x0812, 0x0901]
  (∀ (s b : State) (t : Nat) (errs : List MemErr) (m : RemoteReq), memErrors errs (s.begin t) = b → b.host.hostState = 2 →
    b.remoteFirst = some m →
    let h := entryHdr m.ring (some (m.src, m.msg)) (m.data.take 64)
    let p := if h.bulk then (m.data.drop 64).take h.length else ((m.data.take 64).drop 8).take h.length
    exec (.mailboxServicePass ⟨t, errs⟩) s = runRequest (getU (m.data.take 64) 0 2) t h p
      { b with host := { b.host with remoteIn := b.host.remoteIn.erase m } }) ∧
  (∀ (s b : State) (t : Nat) (errs : List MemErr) (i : Fin 4), memErrors errs (s.begin t) = b → b.host.hostState = 2 → b.remoteFirst = none → b.nextRing = some i →
    let r := b.host.rings.get i
    let e := memReadN b.host.mem (0x1000 + 0x1000 * i.val + 64 * (r.reqCons.toNat % 64)) 64
    let h := entryHdr i none e
    let taken := b.modRing i (fun r => { r with reqCons := r.reqCons + 1 })
    exec (.mailboxServicePass ⟨t, errs⟩) s = runRequest (getU e 0 2) t h (b.entryPayload h e) taken ∧
    (∃ s', exec (.mailboxServicePass ⟨t, errs⟩) s = .next s' ∧ runRequest (getU e 0 2) t h (b.entryPayload h e) taken = .next s') ∧
    (getU e 0 2 ∉ ops → (taken.begin t).canTake h = true →
      let b1 := taken.begin t
      exec (.mailboxServicePass ⟨t, errs⟩) s = .next (settle ((b1.noteCmd (getU e 0 2) h (b.entryPayload h e)).respond (refOf h (getU e 0 2)) h.bulkOfs { status := stUnknownOp })))) ∧
  (∀ (s : State) (t : Nat) (errs : List MemErr), (memErrors errs (s.begin t)).host.hostState ≠ 2 ∨
      ((memErrors errs (s.begin t)).remoteFirst = none ∧ (memErrors errs (s.begin t)).nextRing = none) →
    exec (.mailboxServicePass ⟨t, errs⟩) s = .next (settle ((memErrors errs (s.begin t)).begin t)))

/-! ### Events: the control cycle, the tiles and the recorder -/

/-- The next control cycle starts as the present one ends and not before, a stop takes its place once every last frame has commanded
all switches off, and cycling starts with the priming cycle once the conditions hold (R30, R48, R50, R52).
(An event before its condition changes nothing: the model's choice, log 3.) -/
def Obligations.CycleStartEventsComplete : Prop :=
  ∀ (s b : State) (t n k m : Nat), s.begin t = b → b.nextCycle b.cyc.n b.cyc.k = (n, k) →
    (b.cyc.cycling = true → b.cyc.start + b.cyc.per ≤ b.ft → b.stopWanted = false ∨ b.torqueSent = true →
      exec (.controlCycleStart t) s = .next (settle (beginCycle n k false b))) ∧
    (b.cyc.cycling = true → b.cyc.start + b.cyc.per ≤ b.ft → b.stopWanted = true → b.torqueSent = false →
      exec (.controlCycleStart t) s = .next (settle (stopCycling b))) ∧
    (b.cyc.cycling = true → b.ft < b.cyc.start + b.cyc.per → exec (.controlCycleStart t) s = .next (settle b)) ∧
    (b.cyc.cycling = false → exec (.controlCycleStart t) s = .next (settle (startCycling b))) ∧
    (b.cyc.cycling = false → b.cyc.priming = none → b.canCycle = true →
      exec (.cyclingStart t) s = .next (settle { b with cyc := { b.cyc with priming := some b.primingCycle } })) ∧
    (b.cyc.cycling = false → b.cyc.priming = some m → b.cycleStartFt m 0 ≤ b.ft → b.canCycle = true →
      exec (.cyclingStart t) s = .next (settle
        (beginCycle m 0 true { b with cyc := { b.cyc with priming := none, computed := 0, stopDue := false } }))) ∧
    (b.cyc.cycling = true → exec (.cyclingStart t) s = .next (settle b))

/-- A cycle that begins carries its number and its start, its velocity and position stages fall on the multiples of their
dividers, and its window is still to open (R30, R33, R40); a stop of cycling leaves no cycle and no waiting enable (R50). -/
def Obligations.BeginAndStopOfCycling : Prop :=
  (∀ (s : State) (n k : Nat) (priming : Bool),
    let c := (beginCycle n k priming s).cyc
    c.cycling = true ∧ c.n = n ∧ c.k = k ∧ c.start = s.cycleStartFt n k ∧ c.inPriming = priming ∧ c.opened = false ∧ c.closed = false ∧
      c.flipped = false ∧ (c.velCyc = true ↔ k % s.pn pCycVelDiv 0 = 0) ∧ (c.posCyc = true ↔ k % s.pn pCycPosDiv 0 = 0)) ∧
  (∀ s : State, let c := (stopCycling s).cyc
    c.cycling = false ∧ c.inPriming = false ∧ c.stopDue = false ∧ c.pendEnable = [] ∧ c.posCyc = false ∧ c.velCyc = false)

/-- The tile window opens 2,330 ns after the start and closes after its width, and is open and closed from then on: in the priming
cycle every running link gets a frame with all switches off, in every other the tiles compute, and at the close what they computed
counts and the profile engine runs in a position cycle; the send strobe at t_dn releases the frames that were built (R34-R38, R42,
R48, R86, R610).
(An event before its instant changes nothing: the model's choice, log 3.) -/
def Obligations.TileWindowAndSendEventsComplete : Prop :=
  (∀ (s b : State) (t : Nat) (obs : TileObs), s.begin t = b → b.cyc.cycling = true → b.cyc.opened = false → b.cyc.start + 2330 ≤ b.ft →
    let opens := fun (x : State) => settle (refreshTiles (gapEnds { x with cyc := { x.cyc with opened := true, liveHold := none } }))
    let b1 := swapLive b
    (b.cyc.inPriming = true →
      let s1 := forAxes allAxes (fun a s => if (s.ax a).link.st = .run then offFrame a s else s) (comparePairs (forAxes allAxes tripClearBuild b1))
      exec (.tileWindowOpen t obs) s = .next (opens (settle (swapLive s1)))) ∧
    (b.cyc.inPriming = false →
      let late := forAxes allAxes tripClearBuild (loseMissing b1)
      let s1 := pickChecked (enableMove (enableDue (forAxes allAxes (fun a s => moveSwitch a (switchAxis a s)) (takeoverStep late))))
      let s2 := tilePasses (comparePairs { s1 with tiles := { s1.tiles with journal := allAxes.map (fun a => (a.val, s1.ax a)) } })
      let s3 := observed obs (emuCycle { s2 with tiles := { s2.tiles with after := allAxes.map (fun a => (a.val, s2.ax a)) } })
      exec (.tileWindowOpen t obs) s = .next (opens (settle (swapLive s3)))) ∧
    (∃ x : State, exec (.tileWindowOpen t obs) s = .next (settle x) ∧ x.cyc.opened = true ∧ x.cyc.liveHold = none ∧
      ∀ a, (x.ax a).offLate = false)) ∧
  (∀ (s b : State) (t : Nat) (obs : TileObs), s.begin t = b → b.cyc.cycling = true → b.cyc.opened = true → b.cyc.closed = false →
    b.cyc.start + 2330 + b.windowNs ≤ b.ft →
    let s1 := publishSnaps (closePasses (closeSwitches (closeFailures obs (closeCheck obs b))))
    (b.cyc.inPriming = true → b.cyc.posCyc = true → b.domOn .prof = true →
      let s2 := positionCycle b
      exec (.tileWindowClose t obs) s = .next (settle (refreshTiles { s2 with cyc := { s2.cyc with closed := true } }))) ∧
    (b.cyc.inPriming = true → b.cyc.posCyc = false ∨ b.domOn .prof = false →
      exec (.tileWindowClose t obs) s = .next (settle (refreshTiles { b with cyc := { b.cyc with closed := true } }))) ∧
    (b.cyc.inPriming = false →
      let s2 := acqSample (if b.cyc.posCyc = true ∧ b.domOn .prof = true then positionCycle s1 else s1)
      exec (.tileWindowClose t obs) s = .next (settle (refreshTiles { s2 with cyc := { s2.cyc with closed := true } }))) ∧
    (∃ x : State, exec (.tileWindowClose t obs) s = .next (settle x) ∧ x.cyc.closed = true)) ∧
  (∀ (s b : State) (t : Nat) (stamps : List Nat), s.begin t = b → b.cyc.cycling = true → b.cyc.closed = true →
    (b.cyc.start + 2330 + b.windowNs + 110 ≤ b.ft → exec (.downstreamSend t stamps) s = .next (settle
      (recordBlock (enablesLeft (forAxes allAxes (fun a s => sendFrame a (stamps.getD a.val (8 * t)) s) b))))) ∧
    (b.ft < b.cyc.start + 2330 + b.windowNs + 110 → exec (.downstreamSend t stamps) s = .next (settle b))) ∧
  (∀ (s : State) (a : AxisId) (stamp : Nat), (s.ax a).link.st = .run → (s.ax a).dn.built = true →
    let s1 := sendFrame a stamp s
    (s1.ax a).torque = (s.ax a).dn.enable ∧ (s1.ax a).dn.built = false ∧ (s1.ax a).link.seq = (s.ax a).link.seq + 1 ∧
    (s1.ax a).link.expect = (s.ax a).link.seq ∧ (s1.ax a).link.dStamp = some (s.ftFine8 stamp) ∧
    s1.out.link = s.out.link ++ [(a.val, burstGroups (s1.ax a).link.dnRaw)])

/-- 200 ns before the end of a computed cycle the block is published into the buffer that the index does not name, and the index
changes; while a transaction holds that buffer nothing is published, the index stays and PUB_SKIP counts; a buffer that is held
keeps its contents (R39, R410). -/
def Obligations.FastStatusFlipsUnlessHeld : Prop :=
  ∀ (s b : State) (t : Nat), s.begin t = b → b.cyc.cycling = true → b.cyc.closed = true → b.cyc.flipped = false →
    b.cyc.start + b.cyc.per - 200 ≤ b.ft →
    let other : Fin 2 := if b.host.bufIdx = 0 then 1 else 0
    let s1 := { b with cyc := { b.cyc with flipped := true } }
    ∃ h : HostState, exec (.fastStatusFlip t) s = .next (settle { s1 with host := h }) ∧
      (b.bufHeld other = false → h = { b.host with bufs := b.host.bufs.set other.val (fastBuf b) other.isLt, bufIdx := other }) ∧
      (b.bufHeld other = true → h = { b.host with pubSkip := (b.host.pubSkip + 1) % 2 ^ 16 }) ∧
      (∀ i, b.bufHeld i = true → h.bufs.get i = b.host.bufs.get i)

/-- The slices of a takeover report, a tile that was switched on becomes usable, an idle spare that fails its slice is masked
(R17, R325, R328, R336); a snapshot is copied, a due freeze takes effect, a replay ends with its result (R554, R556, R558); a block begins with its
header and fills whole words, and an axis without an upstream frame shows no upstream difference (R552, R553).
(An event before its condition changes nothing: the model's choice, log 3.) -/
def Obligations.TileAndRecorderEventsComplete : Prop :=
  (∀ (s b : State) (t : Nat) (x y : Bool) (k : Takeover), s.begin t = b → b.tiles.takeover = some k →
    exec (.selfTestSliceDone t x y) s = .next (settle { b with tiles := { b.tiles with takeover := some { k with result := some (x, y) } } })) ∧
  (∀ (s b : State) (t d : Nat) (i : Fin 5), s.begin t = b → (b.tiles.tiles.get i).powerDue = some d →
    (d ≤ b.time.lt → exec (.tilePowered t i) s = .next (settle (refreshTiles (b.modTile i (fun x => { x with powerDue := none }))))) ∧
    (b.time.lt < d → exec (.tilePowered t i) s = .next (settle b))) ∧
  (∀ (s b : State) (t : Nat), s.begin t = b → b.spareMode = 1 → b.tileReady 4 = true → b.rowEmpty 4 = true → b.inSlice 4 = false →
    exec (.coldSpareSelfTest t true) s = .next (settle b) ∧
    exec (.coldSpareSelfTest t false) s = .next (settle
      (refreshTiles ((lastEvent 4 3 0 0 0 (maskTile 4 (needTile 4 b))).raise fSpareFail 0x64)))) ∧
  (∀ (s b : State) (t : Nat), s.begin t = b →
    exec (.snapshotCopyDone t) s = .next (settle { b with rcd := { b.rcd with copying := none } })) ∧
  (∀ (s b : State) (t : Nat) (byFault : Bool), s.begin t = b → b.rcd.frozen = false →
    (b.rcd.freezeDue = some (0, byFault) → exec (.recorderFreeze t) s = .next (settle (freezeNow byFault b))) ∧
    (b.rcd.freezeDue = none → exec (.recorderFreeze t) s = .next (settle b))) ∧
  (∀ (s b : State) (t d n k a w : Nat) (p : Replay) (e : Nat × Nat × Nat), s.begin t = b → b.rcd.replay = some p → b.snapFor p.first = some e →
    replayRun b p.mask (replayBlocks b p e) (e.1, e.2.1) = (d, (n, k), a, w) →
    exec (.replayDone t) s = .next (settle (({ b with rcd := { b.rcd with replay := none } } : State).finish p.req
      { status := stOk, detail := d, body := toLE 4 n ++ toLE 2 k ++ toLE 1 a ++ toLE 1 0 ++ toLE 2 w }))) ∧
  (∀ (s : State) (first snap : Bool), let l := blockBytes s first snap
    l.length % 8 = 0 ∧ 24 ≤ l.length ∧ l.take 1 = [0xC1] ∧
    getU l 1 1 = b2n s.cyc.posCyc + 2 * b2n snap + 4 * b2n (applySince s) + 8 * b2n first ∧
    getU l 4 4 = l.length % 2 ^ 32 ∧ getU l 8 4 = s.cyc.n % 2 ^ 32 ∧ getU l 12 2 = s.cyc.k % 2 ^ 16) ∧
  (∀ (s : State) (a : AxisId), (s.ax a).link.fresh = false → getU (axisEntry s a) 4 10 = 0)

/-! ### Events: the axis link -/

/-- An upstream burst that carries the expected frame in time is accepted; one that does not is lost, and a code violation or a
CRC error, but no wrong length, starts fast adaptation (R36, R59, R64, R88). In MEASURE no burst is late (DEDUCED, log 225). -/
def Obligations.UpstreamFramesAreAcceptedOrLost : Prop :=
  ∀ (s b : State) (t : Nat) (a : AxisId) (x : Burst), rateWindow a (s.begin t) = b →
    ((b.ax a).link.st = .measure ∨ (b.ax a).link.st = .ready ∨ ((b.ax a).link.st = .run ∧ (b.ax a).link.virt = none)) →
    (b.ax a).link.fresh = false → (b.ax a).link.lost = false →
    let u := parseUp x.body
    let crcOk := decide (getU x.body 78 2 = crc16 (x.body.take 78))
    let fits := decide (u.type = (b.ax a).link.expType ∧ u.seq = (b.ax a).link.expect.toNat)
    let inTime := decide ((b.ax a).link.st = .measure ∨ b.ftFine8 x.stampEnd - sampleInstant a b * 2 ^ 16 < 2300 * 2 ^ 16)
    (x.codeOk = true → x.body.length = 80 → crcOk = true → fits = true → inTime = true →
      exec (.upstreamFrameRx t a x) s = .next (settle (frameAccepted a x u b))) ∧
    (x.codeOk = true → x.body.length = 80 → crcOk = true → fits = false ∨ inTime = false →
      exec (.upstreamFrameRx t a x) s = .next (settle (frameLost a b))) ∧
    (x.codeOk = true → x.body.length = 80 → crcOk = false →
      exec (.upstreamFrameRx t a x) s = .next (settle (frameLost a (eqDiscarded a false true b)))) ∧
    (x.codeOk = true → x.body.length ≠ 80 →
      exec (.upstreamFrameRx t a x) s = .next (settle (frameLost a (eqDiscarded a false false b)))) ∧
    (x.codeOk = false →
      exec (.upstreamFrameRx t a x) s = .next (settle (frameLost a (eqDiscarded a true false b))))

/-- 2,300 ns into the cycle every frame that a running link has not accepted is late, lost and counted, and nothing else of an axis
changes; a threshold of losses that has been reached is reported once; eight losses in a row return a link to LISTEN (R35, R36, R70,
R88, R89); in MEASURE, up to 64 times, and in READY an IDLE frame of the next number leaves (R65, R69, R73, R86).
(An event before its condition changes nothing: the model's choice, log 3.) -/
def Obligations.LinkLossAndIdleEventsComplete : Prop :=
  (∀ (s b : State) (t : Nat), s.begin t = b → b.cyc.cycling = true → b.cyc.inPriming = false → b.cyc.start + 2300 ≤ b.ft →
    ∃ x : State, exec (.upstreamDeadline t) s = .next (settle x) ∧ ∀ a : AxisId,
      let l := (b.ax a).link
      (l.st = .run → l.virt = none → l.fresh = false → l.lost = false →
        (x.ax a).link.lost = true ∧ (x.ax a).link.late = true ∧ (x.ax a).link.lostRun = l.lostRun + 1 ∧
        (x.ax a).link.lostCount = incSat 32 l.lostCount) ∧
      (l.st ≠ .run ∨ l.virt ≠ none ∨ l.fresh = true ∨ l.lost = true → x.ax a = b.ax a)) ∧
  (∀ (s b : State) (t : Nat), s.begin t = b → b.cyc.cycling = false ∨ b.cyc.inPriming = true ∨ b.ft < b.cyc.start + 2300 →
    exec (.upstreamDeadline t) s = .next (settle b)) ∧
  (∀ (s b : State) (t : Nat) (a : AxisId), s.begin t = b → b.cyc.cycling = true → (b.ax a).link.st = .run →
    let l := (b.ax a).link
    (l.lostRun = 2 → l.lostRep < 2 → l.lostTimes.length ≤ 16 →
      exec (.lostFrameLimit t a) s = .next (settle ((b.raiseAt fUpLost a.val 1).modLink a (fun l => { l with lostRep := 2 })))) ∧
    (3 ≤ l.lostRun → l.lostRep < 3 → l.lostTimes.length ≤ 16 →
      exec (.lostFrameLimit t a) s = .next (settle ((b.raiseAt fUpLost a.val 3).modLink a (fun l => { l with lostRep := 3 })))) ∧
    (min l.lostRun 3 ≤ l.lostRep → 16 < l.lostTimes.length → l.rateOver = false →
      exec (.lostFrameLimit t a) s = .next (settle ((b.raise fLostRate a.val).modLink a (fun l => { l with rateOver := true })))) ∧
    (min l.lostRun 3 ≤ l.lostRep → l.lostTimes.length ≤ 16 ∨ l.rateOver = true →
      exec (.lostFrameLimit t a) s = .next (settle b))) ∧
  (∀ (s b : State) (t : Nat) (a : AxisId), s.begin t = b → b.cyc.cycling = false ∨ (b.ax a).link.st ≠ .run →
    exec (.lostFrameLimit t a) s = .next (settle b)) ∧
  (∀ (s b : State) (t : Nat) (a : AxisId), s.begin t = b →
    ((b.ax a).link.st = .ready ∨ (b.ax a).link.st = .run → 8 ≤ (b.ax a).link.lostRun →
      exec (.linkLost t a) s = .next (settle (toListen a b))) ∧
    ((b.ax a).link.lostRun < 8 → exec (.linkLost t a) s = .next (settle b))) ∧
  (∀ (s b c : State) (t stamp : Nat) (a : AxisId), s.begin t = b →
    ((b.ax a).link.st = .measure ∧ (b.ax a).link.measCount < 64) ∨ (b.ax a).link.st = .ready →
    (if (b.ax a).link.virt.isSome = true ∧ (b.ax a).link.fresh = false ∧ (b.ax a).link.lost = false then frameLost a b else b) = c →
    let l := if (c.ax a).link.st = .ready then followDelay (c.ax a).link else (c.ax a).link
    let ts := match (b.ax a).link.virt with
      | some v => v.1 + virtLength c v.1
      | none => c.ft + 94000
    let len := virtLength c ts
    let f : DnFrame := { type := 0x12, car := offCarrier c a (c.ax a), sideAddr := l.idRot }
    let bytes := dnBytes f l.seq.toNat (sampleOfs ts (c.ftFine8 stamp) l.dUse) (upOfs l.dUse) (4 * len)
    let s1 := c.modAxis a (fun x => { x with torque := false, link := { l with virt := some (ts, len), expect := l.seq, expType := 0x92, seq := l.seq + 1, dStamp := some (c.ftFine8 stamp), dnRaw := bytes, fresh := false, lost := false, idRot := (l.idRot + 1) % 13, measCount := if l.st = .measure then l.measCount + 1 else l.measCount } })
    exec (.linkIdleExchange t a stamp) s = .next (settle { s1 with out := { s1.out with link := s1.out.link ++ [(a.val, burstGroups bytes)] } })) ∧
  (∀ (s b : State) (t stamp : Nat) (a : AxisId), s.begin t = b → (b.ax a).link.st = .measure → 64 ≤ (b.ax a).link.measCount →
    exec (.linkIdleExchange t a stamp) s = .next (settle b))

/-- The third WAKE burst in a row leads to TRAIN; an exchange of TRAIN counts, and the exit condition leads to MEASURE; 1,024
exchanges without it lead back to LISTEN, the fourth time with a record; after 64 exchanges of MEASURE the link is READY, or
fails and listens again (R65, R67, R68).
EYE_LOW, STO_MISMATCH and the timeout of a trip clear are reported once their times have passed and not again (R64, R100,
R126), and an estimate at its bound for a second while it is applied (R153).
(An event before its condition changes nothing: the model's choice, log 3.) -/
def Obligations.LinkTrainingAndSupervisionEventsComplete : Prop :=
  (∀ (s b : State) (t : Nat) (a : AxisId) (x : Burst), s.begin t = b → (b.ax a).link.st = .listen →
    (prbsOk x 0x94 = true → (b.ax a).link.wakes < 2 → exec (.linkWakeRx t a x) s =
      .next (settle (b.modLink a (fun l => { adapt x l with wakes := l.wakes + 1 })))) ∧
    (prbsOk x 0x94 = true → 2 ≤ (b.ax a).link.wakes → exec (.linkWakeRx t a x) s = .next (settle
      (sendTrain a (setLink a .train (b.modLink a (fun l => { adapt x l with wakes := 0, exchanges := 0, errorFree := 0 })))))) ∧
    (prbsOk x 0x94 = false → exec (.linkWakeRx t a x) s = .next (settle (b.modLink a (fun l => { l with wakes := 0 }))))) ∧
  (∀ (s b : State) (t : Nat) (a : AxisId) (x : Burst), s.begin t = b → (b.ax a).link.st = .train → (b.ax a).link.exchanges < 1023 →
    let l1 := { adaptTrain x (b.ax a).link with exchanges := (b.ax a).link.exchanges + 1, errorFree := if prbsOk x 0x93 then (b.ax a).link.errorFree + 1 else 0 }
    let s1 := b.modLink a (fun _ => l1)
    (l1.exchanges < 256 ∨ l1.errorFree < 64 ∨ l1.eyePct < 50 → exec (.linkTrainRx t a x) s = .next (settle (sendTrain a s1))) ∧
    (256 ≤ l1.exchanges → 64 ≤ l1.errorFree → 50 ≤ l1.eyePct → (b.ax a).link.trainFails < 4 →
      exec (.linkTrainRx t a x) s = .next (settle (setLink a .measure (s1.modLink a (fun l =>
        { l with seq := 0, expect := 0, measCount := 0, measAccepted := 0, idRegs := [], idRot := 0, trainFails := 0, samples := [], dEst := none, dUse := 0, discards := 0, dStamp := none, virt := none, eyePct := 100, up := none, statBPrev := 0, fresh := false, lost := false, lostRun := 0 })))))) ∧
  (∀ (s b : State) (t : Nat) (a : AxisId), s.begin t = b → (b.ax a).link.st = .train → 1024 ≤ (b.ax a).link.exchanges →
    let s1 := toListen a (b.modLink a (fun l => { l with trainFails := l.trainFails + 1 }))
    exec (.trainFail t a) s = .next (settle (if (b.ax a).link.trainFails = 3 then s1.raise fTrainFail a.val else s1))) ∧
  (∀ (s b : State) (t : Nat) (a : AxisId) (e : Rat), s.begin t = b → (b.ax a).link.st = .measure → 64 ≤ (b.ax a).link.measCount →
    (b.ax a).link.answered b.ft = true → (b.ax a).link.dEst = some e →
    (e ≤ 120 * 2 ^ 17 → fieldOf (alGet 0 0 (b.ax a).link.idRegs) 8 8 = 1 → 48 ≤ (b.ax a).link.measAccepted →
      exec (.measureDone t a) s = .next (settle (setLink a .ready (b.modAxis a (fun x =>
        { x with link := { x.link with dUse := e, sinceReady := false, up := none, lostRun := 0, lostRep := 0 }, cur := { x.cur with coefReady := true } }))))) ∧
    (120 * 2 ^ 17 < e ∨ fieldOf (alGet 0 0 (b.ax a).link.idRegs) 8 8 ≠ 1 ∨ (b.ax a).link.measAccepted < 48 →
      exec (.measureDone t a) s = .next (settle (toListen a (b.raise fMeasureFail a.val))))) ∧
  (∀ (s b : State) (t x : Nat) (a : AxisId), s.begin t = b → (b.ax a).link.eyeLowSince = some x →
    (x + 1000000000 ≤ b.time.lt → (b.ax a).link.eyeRep = false →
      exec (.eyeLow t a) s = .next (settle ((b.raise fEyeLow a.val).modLink a (fun l => { l with eyeRep := true })))) ∧
    (b.time.lt < x + 1000000000 ∨ (b.ax a).link.eyeRep = true → exec (.eyeLow t a) s = .next (settle b))) ∧
  (∀ (s b : State) (t x : Nat) (a : AxisId), s.begin t = b → some x ∈ (b.ax a).link.stoSince → x + 10000000 < b.time.lt →
    ((b.ax a).link.stoRep = false →
      exec (.stoMismatch t a) s = .next (settle ((b.raise fStoMismatch a.val).modLink a (fun l => { l with stoRep := true })))) ∧
    ((b.ax a).link.stoRep = true → exec (.stoMismatch t a) s = .next (settle b))) ∧
  (∀ (s b : State) (t : Nat) (a : AxisId) (c : TripClear) (u : UpFrame), s.begin t = b → (b.ax a).link.tripClear = [c] →
    (b.ax a).link.up = some u → u.trip = true → 16 ≤ c.framesSent →
    exec (.tripClearTimeout t a) s = .next (settle (((b.modLink a (fun l => { l with tripClear := [] })).modRec c.slot (fun r => { r with acting := false })).finish c.req { status := stTimeout }))) ∧
  (∀ (s b : State) (t x : Nat) (a : AxisId), s.begin t = b → b.pa pAxCurAdapt a = 2 → some x ∈ (b.ax a).cur.id.boundSince ∨ (b.ax a).vel.jBoundSince = some x →
    x + 1000000000 ≤ b.time.lt →
    ((b.ax a).cur.id.boundRep = false → exec (.idBound t a) s = .next (settle
      ((b.modAxis a (fun x => { x with cur := { x.cur with id := { x.cur.id with boundRep := true } } })).raise fIdBound a.val))) ∧
    ((b.ax a).cur.id.boundRep = true → exec (.idBound t a) s = .next (settle b)))

/-! ### Events: staged commits -/

/-- An APPLY takes effect with the first position cycle that starts after its preparation, or at once without cycling; the store
of the topcoat ends with OK or FLASH_STORE; a fabric-wide apply is decided 8 cycles ahead and switches, is cancelled, or stays
undecided at its cycle (R441, R443, R444, R611).
(An event before its condition changes nothing: the model's choice, log 3.) -/
def Obligations.ApplyEventsComplete : Prop :=
  (∀ (s b : State) (t : Nat) (p : PendApply), s.begin t = b → b.prm.pend = some p → p.prepared = false → b.tilesPowered = true →
    let at_ := if p.fabric then p.n else b.time.lt
    let s1 := { b with prm := { b.prm with pend := some { p with prepared := true, n := at_ } } }
    (p.fabric = true ∨ b.cyc.cycling = true → exec (.applyPrepared t) s = .next (settle s1)) ∧
    (p.fabric = false → b.cyc.cycling = false → exec (.applyPrepared t) s = .next (settle (applyTake b.fabN 0 s1)))) ∧
  (∀ (s b : State) (t : Nat) (p : PendApply), s.begin t = b → b.prm.pend = some p → p.prepared = true → p.fabric = false →
    (b.cyc.cycling = false → exec (.applyTakeEffect t) s = .next (settle (applyTake b.fabN 0 b))) ∧
    (b.cyc.cycling = true → b.cyc.posCyc = true → b.cyc.opened = false → b.ftOf p.n ≤ b.cyc.start →
      exec (.applyTakeEffect t) s = .next (settle (applyTake b.cyc.n b.cyc.k b))) ∧
    (b.cyc.cycling = true → b.cyc.posCyc = false ∨ b.cyc.opened = true ∨ b.cyc.start < b.ftOf p.n →
      exec (.applyTakeEffect t) s = .next (settle b))) ∧
  (∀ (s b : State) (t gen n k : Nat) (q : ReqRef), s.begin t = b → b.prm.persist = some q → b.prm.persistResult = (gen, n, k) →
    exec (.applyPersistDone t true) s = .next (settle (({ b with prm := { b.prm with persist := none, persistSet := [], stored := some b.prm.persistSet }, tiles := { b.tiles with storedImage := bankImage b.prm.persistSet } } : State).finish q
      (okRsp (toLE 4 gen ++ toLE 4 n ++ toLE 2 k)))) ∧
    exec (.applyPersistDone t false) s = .next (settle ((({ b with prm := { b.prm with persist := none, persistSet := [] } } : State).finish q
      { status := stTimeout }).raise fFlashStore 0xFF))) ∧
  (∀ (s b : State) (t : Nat) (p : PendApply), s.begin t = b → b.prm.pend = some p → p.fabric = true → p.origin = b.fab.addr → p.decision = 0 →
    p.n ≤ b.fabN + 8 → b.startupMode = false →
    exec (.fabricApplyDecision t) s = .next (settle { b with prm := { b.prm with pend := some { p with
      decision := if p.members ≠ [] ∧ ∀ a ∈ p.members, a ∈ p.acked then 1 else 2 } } })) ∧
  (∀ (s b : State) (t : Nat) (p : PendApply), s.begin t = b → b.prm.pend = some p → p.fabric = true → p.n ≤ b.fabN →
    (p.decision = 1 → p.ownAck = true → b.cyc.cycling = false → exec (.fabricApplySwitch t) s = .next (settle (applyTake b.fabN 0 b))) ∧
    (p.decision = 1 → p.ownAck = true → b.cyc.cycling = true → b.stopsCycling = false →
      exec (.fabricApplySwitch t) s = .next (settle (applyTake b.fabN (if b.cyc.n = b.fabN then b.cyc.k else 0) b))) ∧
    (p.decision = 1 → p.ownAck = true → b.cyc.cycling = true → b.stopsCycling = true → exec (.fabricApplySwitch t) s = .next (settle b)) ∧
    (p.decision = 2 → exec (.fabricApplySwitch t) s = .next (settle (applyCancel p b))) ∧
    (p.decision = 0 → p.origin ≠ b.fab.addr → p.ownAck = true → exec (.fabricApplySwitch t) s = .next (settle
      (({ b with prm := { b.prm with pend := none, frozen := false } } : State).raise fApplyUndecided 0xFF))))

/-- When an APPLY takes effect the whole undercoat becomes the topcoat, which is the point where it is valid, the generation rises
by one modulo 2^32, and nothing waits any more (R441). -/
def Obligations.ApplyMakesTheUndercoatTheTopcoat : Prop :=
  ∀ (s : State) (n k : Nat) (p : PendApply), s.prm.pend = some p →
    let s1 := applyTake n k s
    s1.prm.topcoat = s.prm.undercoat ∧ s1.prm.undercoat = s.prm.undercoat ∧ s1.prm.topcoatValid = true ∧
    s1.prm.applyGen = (s.prm.applyGen + 1) % 2 ^ 32 ∧ s1.prm.pend = none ∧ s1.prm.frozen = false

/-! ### Events: modes, motion, homing, switches, tides and gears -/

/-- A switch cycle makes the waiting mode switch of its axis, and cycle s of an enable enables its axes, before the tile window
opens (R176, R178, R183); a held stepper goes to its hold current, a timed start is released, a jog that is not repeated ramps to
rest, and a stop ends with standstill or its timeout (R145, R218, R237, R242).
The phases of HOME end on their conditions and lead to the next phase or to a record (R254, R255); a pressed axis takes its
reference where it stands (R256, R257); a switch input is taken after its debounce time and counted as chattering, and chatter
ends after the stable time (R250, R251); the encoder emulation places the edges that are due (R207).
(An event before its condition changes nothing: the model's choice, log 3.) -/
def Obligations.MotionHomingAndSwitchEventsComplete : Prop :=
  (∀ (s b : State) (t : Nat) (a : AxisId), s.begin t = b → b.cyc.cycling = true → b.cyc.opened = false →
    exec (.modeSwitchCycle t a) s = .next (settle (switchAxis a (switchDisabled a b))) ∧
    exec (.enableCycle t) s = .next (settle (enableDue b))) ∧
  (∀ (s b : State) (t : Nat) (p : PendEnable), s.begin t = b → b.cyc.cycling = true → b.cyc.opened = false → b.cyc.posCyc = true →
    b.cyc.pendEnable = [p] → p.effective = false → p.at_ ≤ b.cyc.posNo → (∀ a ∈ maskAxes p.mask, b.computes a = true) →
    exec (.enableCycle t) s = .next (settle (forAxes (maskAxes p.mask) enableAxis
      { b with cyc := { b.cyc with pendEnable := [{ p with effective := true }] } }))) ∧
  (∀ (s b : State) (t since : Nat) (a : AxisId), s.begin t = b → (b.ax a).cur.stp.holdSince = some since → (b.ax a).mode = 5 →
    (b.ax a).cur.stp.holding = false → since + b.pn pAxStpHoldDelayMs a.val * 1000000 ≤ b.time.lt →
    exec (.stepperHoldReduce t a) s = .next (settle (b.modAxis a (fun x =>
      { x with cur := { x.cur with stp := { x.cur.stp with holding := true, rampStep := 0 } } })))) ∧
  (∀ (s b : State) (t : Nat) (a : AxisId) (m : MoveReq) (tag : Nat) (r : List (MoveReq × Nat)), s.begin t = b → (b.ax a).prof.waiting = true →
    (b.ax a).prof.queue = (m, tag) :: r → m.startAt = true →
    (b.startNs m.startN ≤ b.ft → exec (.moveStartAtDue t a.val) s = .next (settle (b.modProf a (fun p => { p with released := true })))) ∧
    (b.ft < b.startNs m.startN → exec (.moveStartAtDue t a.val) s = .next (settle b))) ∧
  (∀ (s b : State) (t d : Nat) (a : AxisId), s.begin t = b → (b.ax a).prof.jogUntil = some d →
    (d ≤ b.time.lt → (b.ax a).mode = 4 → exec (.jogTimeout t a) s = .next (settle ((b.modProf a (fun p =>
      { axRamp b a (limitsOf p.lim) p with kind := .jogv, jogUntil := none, jog := none })).raise fJogTimeout a.val))) ∧
    (b.time.lt < d → exec (.jogTimeout t a) s = .next (settle b))) ∧
  (∀ (s b : State) (t : Nat) (a : AxisId), s.begin t = b → 8 ≤ (b.ax a).prof.stillRun →
    let s1 := b.modProf a (fun p => { p with stopDeadline := none })
    ((b.ax a).prof.offAtStill = false → exec (.standstill t a) s = .next (settle s1)) ∧
    ((b.ax a).prof.offAtStill = true → exec (.standstill t a) s = .next (settle (axisOff a 4 s1)))) ∧
  (∀ (s b : State) (t d : Nat) (a : AxisId), s.begin t = b → (b.ax a).prof.stopDeadline = some d → d ≤ b.time.lt → (b.ax a).prof.stillRun < 8 →
    exec (.stopTimeout t a) s = .next (settle
      ((axisOff a 4 (b.modProf a (fun p => { p with stopDeadline := none }))).raise fStopTimeout a.val))) ∧
  (∀ (s b : State) (t : Nat) (a : AxisId), s.begin t = b → (b.ax a).home.next = none →
    let k := homeTarget b a
    ((b.ax a).home.phase = 1 → (b.ax a).home.met = true → ((b.ax a).sw k).chatter = false →
      exec (.homePhaseEnd t a) s = .next (settle (homeStop a 2 b))) ∧
    ((b.ax a).home.phase = 2 → (b.ax a).home.met = true → ((b.ax a).sw k).chatter = false → b.pa pAxHomeMethod a = 0 →
      exec (.homePhaseEnd t a) s = .next (settle (homeStop a 6 b))) ∧
    ((b.ax a).home.phase = 2 → (b.ax a).home.met = true → ((b.ax a).sw k).chatter = false → b.pa pAxHomeMethod a ≠ 0 →
      exec (.homePhaseEnd t a) s = .next (settle (homeStop a 3 b))) ∧
    ((b.ax a).home.phase = 1 ∨ (b.ax a).home.phase = 2 → (b.ax a).home.met = true → ((b.ax a).sw k).chatter = true →
      exec (.homePhaseEnd t a) s = .next (settle (b.raise fHomeChatter a.val))) ∧
    ((b.ax a).home.phase = 3 → (b.ax a).home.met = true → ((b.ax a).sw .home).chatter = false →
      exec (.homePhaseEnd t a) s = .next (settle (homeStop a (if b.pa pAxHomeMethod a = 1 then 6 else 4) b))) ∧
    ((b.ax a).home.phase = 1 ∨ (b.ax a).home.phase = 2 ∨ (b.ax a).home.phase = 3 → (b.ax a).home.met = false →
      exec (.homePhaseEnd t a) s = .next (settle b)) ∧
    ((b.ax a).home.phase = 4 → (b.ax a).home.ref ≠ none → exec (.homePhaseEnd t a) s = .next (settle (homeStop a 6 b)))) ∧
  (∀ (s b : State) (t since : Nat) (a : AxisId), s.begin t = b → (b.ax a).home.pressSince = some since → (b.ax a).home.phase = 5 →
    (b.ax a).home.next = none → since + b.pn pAxHomePressMs a.val * 1000000 ≤ b.time.lt →
    let p := (b.ax a).fb.pFb
    exec (.homePressed t a) s = .next (settle (homeSet a (b.modAxis a (fun x =>
      { x with home := { x.home with phase := 6, ref := some (p - x.fb.pRef) }, vel := velClear x.vel, pSet := p, vSet := 0, aSet := 0, spEven := { x.spEven with p := p, v := 0, a := 0 }, spOdd := { x.spOdd with p := p, v := 0, a := 0 }, prof := { x.prof with kind := .stop, plan := restPlan p, vt := 0, sp := ⟨p, 0, 0, true⟩ } }))))) ∧
  (∀ (s : State) (a : AxisId) (k : SwitchSel) (active : Bool), homeInput s a (s.ax a).home.phase = some (k, active) → (s.ax a).home.met = false →
    (s.ax a).home.next = none →
    ((homeSees a k active s).ax a).home.met = true ∧ (homeSees a k (!active) s).ax a = s.ax a ∧
    (homeIsRef s a (s.ax a).home.phase = true → ((s.ax a).sw k).edgePend = false →
      ((homeSees a k active s).ax a).home.ref = some ((s.ax a).sw k).stampBase)) ∧
  (∀ (s b : State) (t : Nat) (a : AxisId) (k : SwitchSel), s.begin t = b → ((b.ax a).sw k).pend = true →
    ((b.ax a).sw k).raw ≠ ((b.ax a).sw k).deb → ((b.ax a).sw k).chatter = false → swSource b a k ≠ 0xFF →
    ((b.ax a).sw k).tE + b.pa pAxLimDebounceUs a * 4000 ≤ ((b.ax a).sw k).evalAt →
    b.pa pAxLimDebounceUs a ≠ 0 ∨ ((b.ax a).sw k).again = true →
    let l := ((b.ax a).sw k).changes.filter (fun x => decide (b.time.lt < x + b.pn pAxLimChatterWindowMs a.val * 1000000)) ++ [b.time.lt]
    let cnt := b.pa pAxLimChatterCount a
    let taken := fun (c : Bool) => b.modSw a k (fun w =>
      { w with deb := w.raw, pend := false, stamp := w.tE, stampBase := w.edgeBase, changes := l, chatter := c })
    (cnt = 0 ∨ (l.length : Int) ≤ cnt → exec (.limitDebounce t a k) s = .next (settle (swBecame a k (swActive b a k) (taken false)))) ∧
    (cnt ≠ 0 → cnt < l.length → exec (.limitDebounce t a k) s = .next (settle
      (swBecame a k (swActive b a k) ((taken true).raise fLimChatter a.val))))) ∧
  (∀ (s b : State) (t : Nat) (a : AxisId) (k : SwitchSel), s.begin t = b → ((b.ax a).sw k).chatter = true →
    max ((b.ax a).sw k).tE ((b.ax a).sw k).chatFrom + b.pa pAxLimStableMs a * 4000000 ≤ 4 * b.ft →
    let s1 := endChatter a (b.modSw a k (fun w => { w with chatter := false, deb := w.raw, pend := false, stamp := w.tE, stampBase := w.edgeBase }))
    let l := ((b.ax a).sw k).counted (b.pn pAxLimChatterWindowMs a.val * 1000000) b.time.lt
    (swActive s1 a k = true → exec (.chatterEnd t a k) s = .next (settle s1)) ∧
    (swActive s1 a k = false → chatters b a l = false → exec (.chatterEnd t a k) s = .next (settle
      (swBecame a k (swActive b a k) (s1.modSw a k (fun w => { w with changes := l }))))) ∧
    (swActive s1 a k = false → chatters b a l = true → exec (.chatterEnd t a k) s = .next (settle
      ((s1.modSw a k (fun w => { w with changes := l, chatter := true, chatFrom := 4 * b.ft })).raise fLimChatter a.val)))) ∧
  (∀ (s b : State) (t : Nat), s.begin t = b → exec (.emulatorEdge t) s = .next (settle { b with emu := emuRun b.ft b.emu }))

/-- A tide change is decided 8 cycles ahead and switches at its cycle; a diverged node adopts the origin's definition; silent
sources and masters are stale (R277, R280, R285, R286); an engage begins at m0 and is synced at its sync point (R290).
(An event before its condition changes nothing: the model's choice, log 3.) -/
def Obligations.TideAndGearEventsComplete : Prop :=
  (∀ (s b : State) (t : Nat) (i : TideId) (c : TideChange), s.begin t = b → (b.tides.get i).pend = some c → c.origin = true → c.decision = 0 →
    c.n ≤ b.fabN + 8 →
    exec (.tideDecision t i) s = .next (settle (b.modTide i (fun x => { x with pend := some { c with
      decision := if ∀ a ∈ c.members, a ∈ c.acked then 1 else 2 } })))) ∧
  (∀ (s b : State) (t : Nat) (i : TideId) (c : TideChange), s.begin t = b → (b.tides.get i).pend = some c →
    (c.n ≤ b.fabN → b.applyFirst c.n = false → c.decision = 1 →
      let d := newDef (b.tides.get i) c
      exec (.tideSwitch t i) s = .next (settle
        ((b.modTide i (fun x => { x with defn := some d, old := x.defn, pend := none, st := 1 })).finish? c.req (okRsp (toLE 4 d.gen))))) ∧
    (c.n ≤ b.fabN → b.applyFirst c.n = false → c.decision = 2 → c.origin = true →
      exec (.tideSwitch t i) s = .next (settle
        (((b.modTide i (fun x => { x with pend := none })).finish? c.req { status := stTimeout }).raise fTideCancel (0x40 + i.val)))) ∧
    (b.fabN < c.n ∨ b.applyFirst c.n = true → exec (.tideSwitch t i) s = .next (settle b))) ∧
  (∀ (s b : State) (t : Nat) (i : TideId) (d : TideDef), s.begin t = b → (b.tides.get i).fetched = some d → (b.tides.get i).st = 2 →
    (b.tides.get i).adopt = true → b.tideAxes i.val = [] →
    exec (.tideAdopt t i) s = .next (settle ((b.modTide i (fun x =>
      { x with defn := if tideSegs d.body = [] then none else some d, old := x.defn, fetched := none, adopt := false, st := 1, diverged := 0, agreed := true })).clearCond fTideDiverged (0x40 + i.val)))) ∧
  (∀ (s b : State) (t : Nat) (i : TideId), s.begin t = b → 0x80 ≤ b.pn pTideSource i.val → b.pn pTideStaleCycles i.val ≤ (b.tides.get i).noRec →
    (b.tides.get i).st ≠ 3 →
    exec (.tideStale t i) s = .next (settle ((b.modTide i (fun x => { x with st := 3 })).raise fTideStale (0x40 + i.val)))) ∧
  (∀ (s b : State) (t code : Nat) (a : AxisId), s.begin t = b → code ∈ (b.ax a).gear.masters → fieldOf code 0 8 = 4 →
    (b.ax a).gear.masterStale = false →
    b.pubRec (fieldOf code 16 8) (fieldOf code 8 8) = none ∨
      (∃ r, b.pubRec (fieldOf code 16 8) (fieldOf code 8 8) = some r ∧ b.pn pTideStaleCycles 0 ≤ r.age) →
    exec (.masterStale t a) s = .next (settle
      ((b.modAxis a (fun x => { x with gear := { x.gear with masterStale := true } })).raise fMasterStale a.val))) ∧
  (∀ (s b : State) (t : Nat) (a : AxisId) (c : GCurve), s.begin t = b → (b.ax a).gear.next = some c →
    ((b.ax a).gear.st = 1 ∨ (b.ax a).gear.st = 3 → c.len ≠ 0 → c.m0 ≤ (b.ax a).gear.mNext →
      exec (.gearEngageBegin t a) s = .next (settle (b.modAxis a (fun x => { x with gear := { x.gear with st := 2 } })))) ∧
    ((b.ax a).gear.st ≠ 0 → c.mS ≤ (b.ax a).gear.mNext → c.kind ≠ 1 →
      exec (.gearSynced t a) s = .next (settle ((b.modAxis a (fun x =>
        { x with gear := { x.gear with st := 3, run := { c with len := 0 }, next := none, u := 0 } })).postEvent 0x8005 (b.ax a).gear.tag a.val [0xFF]))) ∧
    ((b.ax a).gear.mNext < c.m0 → exec (.gearEngageBegin t a) s = .next (settle b)) ∧
    ((b.ax a).gear.mNext < c.mS → exec (.gearSynced t a) s = .next (settle b)))

/-! ### Events: the Causeway -/

/-- A fabric cycle starts at its anchor; an own berth that is due is launched; a frame of the circuit is counted by its CRC, goes on,
and is consumed or has come back to its owner; the clock correction follows the midpoint of the sources (R344-R347, R362, R379).
(An event before its condition changes nothing: the model's choice, log 3.) -/
def Obligations.FabricCycleEventsComplete : Prop :=
  (∀ (s b : State) (t : Nat), s.begin t = b → (nextAnchor b).lt ≤ b.time.lt → b.domOn .sup = true →
    let f := b.fab
    let s1 := { b with time := { b.time with anchors := (nextAnchor b :: b.time.anchors).take 5 }, fab := { f with corrPrev := f.corrNow, corrNow := f.corr, corr := 0, synced := false, devs := [], devsPrev := f.devs, rx := [], rxPrev := f.rx, consumed := [], launched := [], withdrawn := decide (0 < f.outOfW), startupRun := if f.st = 4 then f.startupRun + 1 else f.startupRun } }
    let s2 := (List.finRange 4).foldl (fun s i => tideBoundary i (tideCompare i (tideAck 16 i s))) (recordsGovern s1)
    exec (.fabricCycleStart t) s = .next (settle (loneWork (loadCheck (followTable (missingCounts (snapshotMembers s2))))))) ∧
  (∀ (s b : State) (t : Nat), s.begin t = b → b.time.lt < (nextAnchor b).lt ∨ b.domOn .sup = false →
    exec (.fabricCycleStart t) s = .next (settle b)) ∧
  (∀ (s b : State) (t i : Nat) (q : PortId), s.begin t = b → b.berthDue i = true → (berthOf b.ttBody i).kind = 1 → b.launchPort b.portActive = some q →
    exec (.berthLaunch t i) s = .next (settle (({ b with fab := { b.fab with launched := i :: b.fab.launched } } : State).sendFab q
      (sealFrame (frameHead 1 0 b.fab.ttNow b.fab.addr i (b.fabN % 2 ^ 32) (b.lateness (berthOf b.ttBody i).ofs) (syncPayload b)) false)))) ∧
  (∀ (s b : State) (t i : Nat), s.begin t = b → b.berthDue i = false → exec (.berthLaunch t i) s = .next (settle b)) ∧
  (∀ (s b : State) (t : Nat) (p : PortId) (f : CFrame), s.begin t = b → b.fabLive = true → (b.port p).st = 2 ∨ (b.port p).st = 3 →
    let heard := { b with fab := { b.fab with heard := some b.time.lt } }
    (frameState f = 1 → exec (.berthFrameRx t p f) s = .next (settle b)) ∧
    (frameState f = 0 → 1 ≤ fType f.body → fType f.body ≤ 4 → b.fab.st = 5 → fOwner f.body ≠ b.fab.addr →
      exec (.berthFrameRx t p f) s = .next (settle (berthOther p f 0 heard))) ∧
    (frameState f = 0 → 1 ≤ fType f.body → fType f.body ≤ 4 → b.fab.st = 5 → fOwner f.body = b.fab.addr → b.fab.addr ≠ 0xFF → fCycle f.body = b.fabN % 2 ^ 32 →
      b.portActive p = true → b.isBack b.portActive p = true →
      exec (.berthFrameRx t p f) s = .next (settle (berthReturn 0 f.body heard))) ∧
    (frameState f = 0 → 1 ≤ fType f.body → fType f.body ≤ 4 → b.fab.st = 5 → fOwner f.body = b.fab.addr → b.fab.addr ≠ 0xFF → fCycle f.body = b.fabN % 2 ^ 32 →
      b.portActive p = true → b.isBack b.portActive p = false → b.berthMatch f.body = none →
      exec (.berthFrameRx t p f) s = .next (settle (berthForward p f f.body false heard))) ∧
    (frameState f = 0 → fType f.body = 1 → b.fab.st = 1 → fOwner f.body ≠ b.fab.addr →
      exec (.berthFrameRx t p f) s = .next (settle (berthOther p f 0
        { b with fab := { b.fab with st := 3, stepped := false, joinRun := 0, leader := false, ftValid := false, heard := some b.time.lt } }))) ∧
    (frameState f = 2 → 1 ≤ fType f.body → fType f.body ≤ 4 → fOwner f.body ≠ b.fab.addr →
      exec (.berthFrameRx t p f) s = .next (settle (berthOther p f 2 (b.modPort p (fun x => { x with crcErrors := incSat 16 x.crcErrors })))))) ∧
  (∀ (s b : State) (t : Nat), s.begin t = b → b.fab.st = 4 ∨ b.fab.st = 5 → b.fab.synced = false → b.ftReached b.fabN b.lastSyncOfs = true →
    b.fab.fallback = false → b.listed ≠ [] → absI b.fab.rho ≠ 112589990684 →
    let c := syncCalc b (b.sourcesFor false b.fab.devs)
    c.limited = false →
    ∃ f : FabState, exec (.clockSyncUpdate t) s = .next (settle { b with fab := f }) ∧ f.synced = true ∧ f.mid = c.mid ∧ f.corr = c.corr ∧
      f.rho = c.rho ∧ f.sources = c.count ∧ f.fallback = false ∧ f.st = b.fab.st ∧ f.addr = b.fab.addr ∧ f.ports = b.fab.ports ∧
      f.tables = b.fab.tables) ∧
  (∀ (s b : State) (t : Nat), s.begin t = b → b.fab.st ≤ 2 ∨ b.fab.synced = true → exec (.clockSyncUpdate t) s = .next (settle b))

/-- The node leaves synchronism, goes on without it, comes back and completes its join as its counts say, and reports nodes whose
sync berths are missing (R364, R365, R367, R368, R372).
(An event before its condition changes nothing: the model's choice, log 3.) -/
def Obligations.SynchronismEventsComplete : Prop :=
  (∀ (s b : State) (t : Nat), s.begin t = b →
    (8 ≤ b.fab.noListed → b.fab.fallback = false → exec (.noSource t) s = .next (settle
      (({ b with fab := { b.fab with fallback := true, listedRun := 0 } } : State).raise fNoSource 0xFF))) ∧
    (b.fab.noListed < 8 ∨ b.fab.fallback = true → exec (.noSource t) s = .next (settle b))) ∧
  (∀ (s b : State) (t : Nat), s.begin t = b → b.fab.st = 4 ∨ b.fab.st = 5 →
    (3 ≤ b.fab.outOfW ∨ 8 ≤ b.fab.noSrc ∨ 3 ≤ b.fab.harbourOut → exec (.syncLost t) s = .next (settle
      (({ b with fab := { b.fab with st := 6, inHalfW := 0, harbourOnly := b.fab.harbourOnly || decide (3 ≤ b.fab.harbourOut) } } : State).raise fSyncLost 0xFF))) ∧
    (b.fab.outOfW < 3 → b.fab.noSrc < 8 → b.fab.harbourOut < 3 → exec (.syncLost t) s = .next (settle b))) ∧
  (∀ (s b : State) (t : Nat), s.begin t = b → b.fab.st = 6 →
    (8 ≤ b.fab.inHalfW → b.startupMode = true ∨ (b.table b.fab.ttNow).isSome → exec (.silentReturn t) s = .next (settle
      (((tidesAnew { b with fab := { b.fab with st := b.syncedSt, outOfW := 0, noSrc := 0, harbourOut := 0, harbourOnly := false, withdrawn := false } }).clearCond
        fSyncLost 0xFF).clearCond fFtFar 0xFF))) ∧
    (b.fab.inHalfW < 8 → exec (.silentReturn t) s = .next (settle b))) ∧
  (∀ (s b : State) (t : Nat), s.begin t = b → b.fab.st = 3 → b.fab.stepped = true →
    (8 ≤ b.fab.joinRun → exec (.joinComplete t) s = .next (settle
      { tidesAnew b with fab := { b.fab with st := b.syncedSt, ftValid := true, outOfW := 0, noSrc := 0, noListed := 0, harbourOut := 0, leader := false } })) ∧
    (b.fab.joinRun < 8 → exec (.joinComplete t) s = .next (settle b))) ∧
  (∀ (s b : State) (t a : Nat) (r : List Nat), s.begin t = b → b.fab.lostRep = false → b.atBreak = false →
    sortBy id ((b.fab.missing.filter (fun e => decide (8 ≤ e.2))).map (fun e => e.1)) = a :: r →
    let s1 := settle (({ b with fab := { b.fab with lostRep := true } } : State).raise fNodesLost a)
    let hit := s1.openSlots.filter (fun i => decide ((s1.frec i).code = fNodesLost ∧ (s1.frec i).unit = a))
    exec (.nodesLost t) s = .next (settle (hit.foldl (fun s i => s.modRec i (fun x => { x with repeat_ := min (1 + r.length) 65535 })) s1)))

/-- A port aligns, is lost and probes its neighbour (R339-R341); a node starts the fabric when it hears nothing, and becomes the leader
with its eighth frame; the lower UID wins (R369, R370).
(An event before its condition changes nothing: the model's choice, log 3.) -/
def Obligations.PortAndColdstartEventsComplete : Prop :=
  (∀ (s b : State) (t : Nat) (p : PortId), s.begin t = b → b.fabLive = true → (b.port p).st = 0 → b.p1 pFabPortEnable p.val = 1 →
    (b.unitMasked (0x68 + p.val) = false → exec (.portLock t p) s = .next (settle (b.modPort p (fun x =>
      { ({} : Port) with st := 1, crcErrors := x.crcErrors, stomped := x.stomped, table := x.table })))) ∧
    (b.unitMasked (0x68 + p.val) = true → exec (.portLock t p) s = .next (settle b))) ∧
  (∀ (s b : State) (t : Nat) (p : PortId), s.begin t = b → (b.port p).delayRep = false →
    ((b.port p).st = 2 → exec (.linkDown t p .lock) s = .next (settle (dropPort p b))) ∧
    ((b.port p).st = 3 → exec (.linkDown t p .lock) s = .next (settle
      (({ dropPort p b with fab := { (dropPort p b).fab with ring := false } } : State).raise fLinkDown (0x68 + p.val)))) ∧
    ((b.port p).st = 0 → exec (.linkDown t p .lock) s = .next (settle b)) ∧
    ((b.port p).missed < 4 → exec (.linkDown t p .probes) s = .next (settle b))) ∧
  (∀ (s b : State) (t stamp a : Nat) (p : PortId), s.begin t = b → b.fabLive = true → (b.port p).st = 1 → b.fab.ftValid = false →
    (b.port p).probeAt = some a → a + 1000000 ≤ b.time.lt →
    let s2 := b.sendFab p (sealFrame (frameHead 0x20 0 0xFF b.fab.addr 0 (b.fabN % 2 ^ 32) 0 (probePayload b p)) false)
    let s3 := s2.modPort p (fun x => { x with txPrev := x.txStamp, txStamp := some (s2.ftFine8 stamp), probeAt := some s2.time.lt, readySent := b.readyAt p, probes := if x.seen then x.probes else 0, missed := if x.seen = true ∨ x.probeAt.isNone = true then 0 else x.missed + 1, seen := false })
    exec (.probeSend t p stamp) s = .next (settle { s3 with fab := { s3.fab with launched := probeMark p :: s3.fab.launched } })) ∧
  (∀ (s b : State) (t : Nat) (p : PortId) (f : CFrame), s.begin t = b → b.fabLive = true → (b.port p).st ≠ 0 → frameState f = 0 → fType f.body = 0x20 →
    (fPayload f.body).length = 40 →
    let q := fPayload f.body
    let x := b.port p
    let at_ := b.ftFine8 f.stamp
    probeSample x at_ (getS q 8 8) (getS q 16 8) = none →
    exec (.probeRx t p f) s = .next (settle (admitPort p (getU q 24 8) (getU q 32 1) (getU q 35 1) (alignEnd p (b.modPort p (fun _ =>
      { x with probes := 0, seen := true, rxStamp := some at_, nUid := getU q 0 8, nAddr := getU q 34 1, nLeader := getU q 24 8 })))))) ∧
  (∀ (s b : State) (t a : Nat), s.begin t = b → b.fab.st = 1 → b.fab.listenSince = some a → a + 4000000 ≤ b.time.lt → b.p1 pModColdstartAllowed 0 = 1 →
    (∀ h, b.fab.heard = some h → h + 4000000 ≤ b.time.lt) →
    (b.cyc.cycling = false → exec (.coldstartEntry t) s = .next (settle { b with
      fab := { b.fab with st := 2, rho := 0, corr := 0, corrNow := 0, corrPrev := 0, coldSent := 0 }
      time := { b.time with anchors := [⟨b.time.lt / max 1 b.cycleNs, b.time.lt, (b.time.lt : Int) * 65536, 0⟩] } })) ∧
    (b.cyc.cycling = true → exec (.coldstartEntry t) s = .next (settle { b with
      fab := { b.fab with st := 2, corr := 0, corrNow := 0, corrPrev := 0, coldSent := 0 } }))) ∧
  (∀ (s b : State) (t : Nat), s.begin t = b → b.fabLive = true → b.fab.st = 2 → b.fab.launched.contains coldMark = false →
    let x := sealFrame (frameHead 0x21 0 0xFF b.fab.addr 0 (b.fabN % 2 ^ 32) (b.lateness 0) (coldPayload b.host.ident.uid b.cycleNs 0)) false
    let s1 := (allPorts.filter b.portUp).foldl (fun s p => s.sendFab p x) b
    let s2 := { s1 with fab := { s1.fab with launched := coldMark :: b.fab.launched, coldSent := b.fab.coldSent + 1 } }
    (b.fab.coldSent < 7 → exec (.coldstartSend t) s = .next (settle s2)) ∧
    (7 ≤ b.fab.coldSent → exec (.coldstartSend t) s = .next (settle
      { s2 with fab := { s2.fab with st := 4, leader := true, leaderUid := b.host.ident.uid, ftValid := true, startupRun := 0 } }))) ∧
  (∀ (s b : State) (t uid : Nat) (p : PortId) (f : CFrame), s.begin t = b → b.fabLive = true → b.portUp p = true → frameState f = 0 → fType f.body = 0x21 →
    (fPayload f.body).length = 16 → getU (fPayload f.body) 0 8 = uid → uid ≠ b.host.ident.uid → (uid, fCycle f.body) ∉ b.fab.coldSeen →
    getU (fPayload f.body) 8 4 = b.cycleNs → (∀ i ∈ b.openSlots, (b.frec i).code ≠ fCycleMismatch) →
    exec (.coldstartRx t p f) s = .next (settle (coldTake p f uid (coldForward p f.stamp f.body
      { b with fab := { b.fab with coldSeen := ((uid, fCycle f.body) :: b.fab.coldSeen).take 64, heard := some b.time.lt } }))))

/-- A census passes on, comes back and is judged; a table of addresses is taken; the harbour node discovers on its own after 64
cycles; START frames visit every node and come back (R348-R352, R355, R358, R443).
A timetable switches at its cycle when every member has acknowledged and is abandoned otherwise; ferry messages are taken,
repeated after 4 cycles up to 8 times and then abandoned; the timetable in force is repeated every 256 cycles, and a load ends with
TIMEOUT after 256 (R355-R358).
(An event before its condition changes nothing: the model's choice, log 3.) -/
def Obligations.DiscoveryTimetableAndFerryEventsComplete : Prop :=
  (∀ (s b : State) (t : Nat) (p : PortId) (f : CFrame) (l : List Nat), s.begin t = b → b.fabLive = true → b.portUp p = true → frameState f = 0 →
    fType f.body = 0x22 → 16 ≤ (fPayload f.body).length → bitOf (getU f.body 1 1) 1 = false → getU (fPayload f.body) 0 8 ≠ b.host.ident.uid →
    b.fab.census = some (censusKey (fPayload f.body), l) →
    let q := fPayload f.body
    let s1 := { b with fab := { b.fab with heard := some b.time.lt } }
    let s2 := s1.modPort p (fun x => { x with closing := true })
    (l.contains p.val = true → exec (.censusRx t p f) s = .next (settle (sendCensus p (nextPort s1.censusOk p) f false q s1))) ∧
    (l.contains p.val = false → exec (.censusRx t p f) s = .next (settle (sendCensus p p f true (censusUpdate s2 q) s2)))) ∧
  (∀ (s b : State) (t : Nat) (p : PortId) (f : CFrame), s.begin t = b → b.fabLive = true → b.portUp p = true → frameState f = 0 → fType f.body = 0x22 →
    16 ≤ (fPayload f.body).length → bitOf (getU f.body 1 1) 1 = false → b.fab.census = none → b.fab.discover = none →
    let q := fPayload f.body
    let uid := getU q 0 8
    let depth := getU q 8 1 + 1
    let s1 := allPorts.foldl (fun s q => s.modPort q (fun x => { x with closing := false })) { b with fab := { b.fab with heard := some b.time.lt } }
    let s2 := { s1 with fab := { s1.fab with parent := some p.val, depth := depth, census := some (censusKey q, []) } }
    exec (.censusRx t p f) s = .next (settle (sendCensus p (nextPort s2.censusOk p) f false
      (censusHead uid depth (getU q 9 1) ++ q.drop 16 ++ censusEntry s2 depth p.val) s2))) ∧
  (∀ (s b : State) (t : Nat) (f : CFrame), s.begin t = b → frameState f = 0 → fType f.body = 0x22 → 16 ≤ (fPayload f.body).length →
    getU (fPayload f.body) 0 8 = b.host.ident.uid → b.fab.discover.isSome = true → b.fabLive = true →
    exec (.censusReturn t f) s = .next (settle (censusDone (fPayload f.body) b))) ∧
  (∀ (s b : State) (t : Nat) (p : PortId) (f : CFrame), s.begin t = b → b.fabLive = true → b.portUp p = true → frameState f = 0 → fType f.body = 0x23 →
    b.fab.discover = none → b.fab.topoCrc ≠ crc32 (fPayload f.body) →
    let a := applyAssign (fPayload f.body) (fOwner f.body) (assignEntries (fPayload f.body)) b
    let s1 := { a with fab := { a.fab with census := none } }
    a.fab.discover = none →
    exec (.assignRx t p f) s = .next (settle (relay p (nextPort s1.startOk p) f.stamp f.body s1))) ∧
  (∀ (s b : State) (t : Nat), s.begin t = b → b.p1 pFabHarbour 0 = 1 → b.fab.st = 4 → b.startupMode = true → 64 ≤ b.fab.startupRun →
    b.fab.autoDone = false → b.fab.discover = none →
    exec (.autoDiscovery t) s = .next (settle (startCensus none { b with fab := { b.fab with autoDone := true } }))) ∧
  (∀ (s b : State) (t : Nat) (p : PortId) (f : CFrame), s.begin t = b → b.fabLive = true → b.portUp p = true → frameState f = 0 → fType f.body = 0x24 →
    48 ≤ (fPayload f.body).length →
    let q := fPayload f.body
    (fOwner f.body = b.fab.addr → b.isBack b.startOk p = true → exec (.startFrameRx t p f) s = .next (settle (startBack q b))) ∧
    (fOwner f.body ≠ b.fab.addr →
      let r := startTake q b
      let map := if r.1 = true ∧ bitOf (getU q 16 32) b.fab.addr = false then getU q 16 32 + b.ownBit else getU q 16 32
      exec (.startFrameRx t p f) s = .next (settle (relay p (nextPort r.2.startOk p) f.stamp
        (f.body.take 16 ++ q.take 16 ++ toLE 32 (map : Int) ++ q.drop 48 ++ toLE 4 0) r.2)))) ∧
  (∀ (s b : State) (t : Nat) (p : TtPend), s.begin t = b → b.fab.ttPend = some p → p.startup = false →
    (b.fabN < p.n + 2 → exec (.timetableSwitchAt t) s = .next (settle b)) ∧
    (p.n + 2 ≤ b.fabN → p.members ≠ [] → (∀ a ∈ p.members, a ∈ p.acked) →
      exec (.timetableSwitchAt t) s = .next (settle ((setTimetable p.tt b).finish? p.req (okRsp [])))) ∧
    (p.n + 2 ≤ b.fabN → p.own = true → (∃ a ∈ p.members, a ∉ p.acked) →
      exec (.timetableSwitchAt t) s = .next (settle
        ((({ b with fab := { b.fab with ttPend := none, ttReq := none, ttAck := none } } : State).finish? p.req { status := stTimeout }).raise fTtAbandon 0xFF)))) ∧
  (∀ (s b : State) (t : Nat) (x : List Byte), s.begin t = b →
    (b.fabLive = true → exec (.ferrySegmentRx t x) s = .next (settle (ferryTake x b))) ∧
    (b.fabLive = false → exec (.ferrySegmentRx t x) s = .next (settle b))) ∧
  (∀ (s b : State) (t n l : Nat) (m : FerryMsg), s.begin t = b → b.fab.ferryOut = [m] → m.again = false → m.sentAt = some (n, l) → n + 4 ≤ b.fabN →
    (m.repeats < 8 → exec (.ferryRetransmit t m.msg m.seg) s = .next (settle
      { b with fab := { b.fab with ferryOut := [{ m with repeats := m.repeats + 1, again := true }] } })) ∧
    (∀ q, 8 ≤ m.repeats → m.kind = 1 → m.req = some q → exec (.ferryRetransmit t m.msg m.seg) s = .next (settle
      (({ b with fab := { b.fab with ferryOut := [] } } : State).respond q m.region.1 { status := stUnreachable }))) ∧
    (8 ≤ m.repeats → m.kind ≠ 1 → exec (.ferryRetransmit t m.msg m.seg) s = .next (settle { b with fab := { b.fab with ferryOut := [] } }))) ∧
  (∀ (s b : State) (t : Nat), s.begin t = b → b.isHarbour = true → b.fab.st = 5 → (∃ n ∈ b.fab.nodes, n.addr ∉ b.heardNodes) →
    (b.fab.lastRepeat + 256 ≤ b.fabN →
      let r := ({ b with fab := { b.fab with lastRepeat := b.fabN } } : State).nextMsg
      exec (.timetableRepeat t) s = .next (settle (r.2.ferrySend 0xFF 5 r.1 (b.ttBody ++ [0]) none (0, 0)))) ∧
    (b.fabN < b.fab.lastRepeat + 256 → exec (.timetableRepeat t) s = .next (settle b))) ∧
  (∀ (s b : State) (t : Nat) (l : TtLoad), s.begin t = b → b.fab.ttLoad = some l →
    (l.since + 256 ≤ b.fabN → exec (.timetableLoadTimeout t) s = .next (settle
      (({ b with fab := { b.fab with ttLoad := none } } : State).finish? l.req { status := stTimeout }))) ∧
    (b.fabN < l.since + 256 → exec (.timetableLoadTimeout t) s = .next (settle b)))

/-! ### Events: network time, timed outputs and clocks -/

/-- The PTP port takes its master by the announced rank and measures by its Sync messages, sends what its state sends, and is lost
without Sync (R386, R387, R391, R403); the PPS input gives seconds (R402); the source's record leaves every 16 cycles and applies at
its cycle (R385, R388); without a candidate NT runs free (R386), and the KEEP counter follows NT (R390).
(An event before its condition changes nothing: the model's choice, log 3.) -/
def Obligations.NetworkTimeEventsComplete : Prop :=
  (∀ (s b : State) (t : Nat), s.begin t = b → b.p1 pTimePtpMode 0 ≠ 0 →
    (∀ rank steps gm q utc l61 l59, b.time.master = none →
      let m : Master := { rank := rank, steps := steps, gmId := gm, quality := q, utcOffset := utc, leap61 := l61, leap59 := l59 }
      let st := ptpDecide b m
      exec (.ptpMessageRx t (.announce (b.pn pTimePtpDomain 0) rank steps gm q utc l61 l59)) s = .next (settle
        { b with time := { b.time with master := some m, portState := st, lastSync := if st = 9 ∧ b.time.portState ≠ 9 then some b.time.lt else b.time.lastSync, isSource := b.time.isSource && (decide (b.p1 pTimeNtSource 0 ≠ 1) || decide (st = 9)) } })) ∧
    (∀ (stamp : Nat) (origin corr : Int), b.time.portState = 9 →
      let t1 := origin + corr
      let t2 := b.ntStamp stamp
      let s1 := ({ b with time := { b.time with lastSync := some b.time.lt, ptpSync := some (t1, t2) } } : State).clearCond fPtpLost 0xFF
      exec (.ptpMessageRx t (.sync (b.pn pTimePtpDomain 0) stamp origin corr)) s = .next (settle
        (if b.p1 pTimeNtSource 0 = 1 then ntMeasure (t2 - t1 - b.time.ptpPath) s1 else s1))) ∧
    (∀ t1 t2 t3 t4 : Int, b.time.portState = 9 → b.p1 pTimePtpDelay 0 = 0 → b.time.ptpSync = some (t1, t2) → b.time.ptpReq = some t3 →
      exec (.ptpMessageRx t (.delayResp (b.pn pTimePtpDomain 0) t4)) s = .next (settle
        { b with time := { b.time with ptpPath := ptpDelay t1 t2 t3 t4, ptpReq := none } })) ∧
    (∀ (stamp : Nat) (t1 t2 t3 : Int), b.p1 pTimePtpDelay 0 = 1 → b.time.ptpReq = some t1 →
      exec (.ptpMessageRx t (.pdelayResp (b.pn pTimePtpDomain 0) stamp t2 t3)) s = .next (settle
        { b with time := { b.time with ptpPath := ptpDelay t1 t2 t3 (b.ntStamp stamp), ptpReq := none } })) ∧
    (b.host.ethUp = true → exec (.ptpMessageRx t .managementGet) s = .next (settle { b with out := { b.out with ptp := b.out.ptp ++ [.managementResp] } })) ∧
    exec (.ptpMessageRx t .other) s = .next (settle { b with time := { b.time with ptpUnsupported := incSat 32 b.time.ptpUnsupported } })) ∧
  (∀ (s b : State) (t : Nat) (m : PtpMsg), s.begin t = b → b.p1 pTimePtpMode 0 = 0 → exec (.ptpMessageRx t m) s = .next (settle b)) ∧
  (∀ (s b : State) (t : Nat), s.begin t = b → b.host.ethUp = true →
    (b.time.portState = 6 → exec (.ptpMessageSend t .sync) s = .next (settle { b with out := { b.out with ptp := b.out.ptp ++ [.sync b.ntEgress] } }) ∧
      exec (.ptpMessageSend t .announce) s = .next (settle { b with out := { b.out with ptp := b.out.ptp ++ [b.announced] } })) ∧
    (b.time.portState = 9 → exec (.ptpMessageSend t .delayReq) s = .next (settle
      { b with out := { b.out with ptp := b.out.ptp ++ [.delayReq] }, time := { b.time with ptpReq := some b.ntEgress } }))) ∧
  (∀ (s b : State) (t l : Nat), s.begin t = b → b.time.portState = 9 → b.time.lastSync = some l →
    (l + 6000000000 ≤ b.time.lt → exec (.ptpLost t) s = .next (settle
      (({ b with time := { b.time with portState := 4, master := none, ptpSync := none, ptpReq := none, ptpPath := 0, isSource := b.time.isSource && decide (b.p1 pTimeNtSource 0 ≠ 1) } } : State).raise fPtpLost 0xFF))) ∧
    (b.time.lt < l + 6000000000 → exec (.ptpLost t) s = .next (settle b))) ∧
  (∀ (s b : State) (t : Nat), s.begin t = b →
    (b.time.ppsiLast = none → exec (.ppsiEdge t) s = .next (settle { b with time := { b.time with ppsiLast := some b.ftNow } })) ∧
    (∀ l, b.time.ppsiLast = some l → b.ftNow - l - secFine < -100000 * 65536 ∨ 100000 * 65536 ≤ b.ftNow - l - secFine → exec (.ppsiEdge t) s = .next (settle
      (({ b with time := { b.time with ppsiOk := false, ppsiBad := incSat 32 b.time.ppsiBad } } : State).raise fPpsBad 0xFF))) ∧
    (∀ l, b.time.ppsiLast = some l → -100000 * 65536 ≤ b.ftNow - l - secFine → b.ftNow - l - secFine < 100000 * 65536 → b.p1 pTimeNtSource 0 ≠ 2 → exec (.ppsiEdge t) s = .next (settle
      { b with time := { b.time with ppsiLast := some b.ftNow, ppsiOk := true } }))) ∧
  (∀ (s b : State) (t n : Nat) (r : NtRec), s.begin t = b → b.time.isSource = true → b.time.ntSent = some n → n + 16 ≤ b.fabN → b.time.stepDue = none →
    b.time.nt = some r → r.valid = true → b.time.ntNext = none → b.time.ntLater = [] → b.p1 pTimeNtSource 0 = 2 → b.fab.st ≠ 5 →
    let a := b.fabN + 8
    let sN := b.startOf a * 65536
    exec (.ntRecordSend t) s = .next (settle { b with time := { b.time with ntNext := some { gen := (r.gen + 1) % 2 ^ 32, applyN := a, o := r.offsetAt sN, valid := true, step := false, utcValid := false, leap61 := false, leap59 := false, slew := b.time.servoS, utcOffset := 0, source := b.fab.addr, gmId := b.ntOwn.2.1, gmQuality := b.ntOwn.1, steps := b.ntOwn.2.2, sN := sN }, ntSent := some b.fabN, stepDue := none } })) ∧
  (∀ (s b : State) (t : Nat) (r : NtRec), s.begin t = b → b.time.ntNext = some r →
    (b.fabN < r.applyN → exec (.ntRecordApply t) s = .next (settle b)) ∧
    (r.applyN ≤ b.fabN → r.step = false → b.ntValid = true → b.time.holdover = false → b.p1 pTimePtpMode 0 ≠ 3 →
      exec (.ntRecordApply t) s = .next (settle { b with time := { b.time with nt := some r, ntNext := b.time.ntLater.head?, ntLater := b.time.ntLater.drop 1 } }))) ∧
  (∀ (s b : State) (t : Nat) (r : NtRec), s.begin t = b → b.time.nt = some r → r.valid = true → b.ntCandidate = false → b.ntFresh = false →
    b.time.isSource = false → b.time.ntNext = none → b.time.holdover = false →
    let n := r.applyN + 16 * ((b.fabN - r.applyN) / 16 + 1)
    let sN := b.startOf n * 65536
    exec (.ntHoldover t) s = .next (settle (({ b with time := { b.time with ntNext := some { r with applyN := n, o := r.offsetAt sN, sN := sN, slew := 0, step := false }, holdover := true } } : State).raise fNtHoldover 0xFF))) ∧
  (∀ (s b : State) (t c : Nat), s.begin t = b → b.ntValid = true → b.time.keepCorrected = some c →
    (c + 600000000000 ≤ b.time.lt → exec (.keepSecondsCorrect t) s = .next (settle
      { b with time := { b.time with keepSeconds := b.ntSeconds, keepCorrected := some b.time.lt } })) ∧
    (b.time.lt < c + 600000000000 → exec (.keepSecondsCorrect t) s = .next (settle b)))

/-- A timed output starts its pulses at their edges, ends them after their width, and stays low in mode 0 (R396-R399); the PPS output is
high for 100 ms from a whole second (R401).
The clocks are compared within their bounds, PLL detectors report the loss and the return of lock (R21), and a record that is
only injected becomes LATCHED at the end of its window (R484).
(An event before its condition changes nothing: the model's choice, log 3.) -/
def Obligations.TimedOutputClockAndInjectionEventsComplete : Prop :=
  (∀ (s b : State) (t : Nat) (ch : Fin 4), s.begin t = b → b.power.refStopped = false → b.domOn .sup = true →
    (b.p1 pTimeTqMode ch.val = 0 → exec (.tqEdge t ch) s = .next (settle (b.modTq ch (fun c => { c with prog := none, pulseEnd := none, pad := false })))) ∧
    (∀ e, b.p1 pTimeTqMode ch.val ≠ 0 → (b.time.tq.get ch).pulseEnd = some e →
      (e ≤ b.ft → exec (.tqEdge t ch) s = .next (settle (b.modTq ch (fun c => { c with pulseEnd := none, pad := (match c.prog with | some p => p.lowPulse | none => c.pulseLow), pulseLow := false })))) ∧
      (b.ft < e → exec (.tqEdge t ch) s = .next (settle b))) ∧
    (∀ p : TqProg, b.p1 pTimeTqMode ch.val = 1 → (b.time.tq.get ch).pulseEnd = none → (b.time.tq.get ch).prog = some p → p.nt = false →
      ((p.t0 + p.k * p.period) * 65536 ≤ b.ftNow → exec (.tqEdge t ch) s = .next (settle (b.modTq ch (fun c =>
        { c with prog := progAt p (p.k + 1), pad := !p.lowPulse, pulseLow := p.lowPulse, pulseEnd := some (p.t0 + p.k * p.period + p.width) })))) ∧
      (b.ftNow < (p.t0 + p.k * p.period) * 65536 → exec (.tqEdge t ch) s = .next (settle b)))) ∧
  (∀ (s b : State) (t : Nat), s.begin t = b →
    (∀ e, b.time.ppsoEnd = some e → e ≤ b.ft → exec (.ppsoEdge t) s = .next (settle { b with time := { b.time with ppso := false, ppsoEnd := none } })) ∧
    (b.time.ppsoEnd = none → b.p1 pTimePpsOut 0 = 2 → b.ftNow % secFine < 2 * 65536 → exec (.ppsoEdge t) s = .next (settle
      { b with time := { b.time with ppso := true, ppsoEnd := some (b.ft + 100000000) } })) ∧
    (b.time.ppsoEnd = none → b.p1 pTimePpsOut 0 = 2 → 2 * 65536 ≤ b.ftNow % secFine → exec (.ppsoEdge t) s = .next (settle b))) ∧
  (∀ (s b : State) (t : Nat) (ppm : Int) (stopped : Bool), s.begin t = b → b.domOn .sup = true →
    exec (.clockCheck t .safeRef ppm stopped) s = .next (settle (condLevel (outside 100000 ppm stopped) fSafeClock 0xFF { b with power := { b.power with safePpm := ppm } })) ∧
    exec (.clockCheck t .refSafe ppm stopped) s = .next (settle (condLevel (outside 100000 ppm stopped) fSafeClock 0xFF { b with power := { b.power with safePpm := ppm } })) ∧
    exec (.clockCheck t .field ppm stopped) s = .next (settle (condLevel (outside 100000 ppm stopped) fFieldClock 0xFF b)) ∧
    (let s1 := condLevel (outside 1000 ppm stopped) fRefFail 0xFF (condLevel (outside 200 ppm stopped) fRefDrift 0xFF { b with power := { b.power with refPpm := ppm, refStopped := stopped } })
     exec (.clockCheck t .refKeep ppm stopped) s = .next (settle (bistWindow (if stopped then tqLow s1 else s1))))) ∧
  (∀ (s b : State) (t : Nat) (p : Fin 14), s.begin t = b → b.domOn .sup = true → p.val ∉ b.power.pllLost →
    exec (.pllUnlock t p) s = .next (settle (({ b with power := { b.power with pllLost := b.power.pllLost ++ [p.val] } } : State).raise fPllUnlock 0xFF))) ∧
  (∀ (s b : State) (t : Nat) (p : Fin 14), s.begin t = b →
    (b.power.pllLost = [p.val] → exec (.pllLockRegained t p) s = .next (settle (({ b with power := { b.power with pllLost := [] } } : State).clearCond fPllUnlock 0xFF))) ∧
    (p.val ∉ b.power.pllLost → exec (.pllLockRegained t p) s = .next (settle b))) ∧
  (∀ (s b : State) (t i : Nat), s.begin t = b → (b.frec i).state = 1 → (b.frec i).isInj = true → (b.frec i).real = false →
    ((b.frec i).winEnd ≤ b.time.lt → exec (.injectionWindowEnd t i) s = .next (settle (latchRec i b.recTime.1 b))) ∧
    (b.time.lt < (b.frec i).winEnd → exec (.injectionWindowEnd t i) s = .next (settle b)))

/-! ### Events: machine safety -/

/-- A frame between the paths brings the inputs, the CRC and the readbacks; a frame with a bad CRC, or none, counts as a demand on every
subscription (R26, R27); a level held past its time passes the input filter (R495); test pulses, the discrepancy time, the end of an SS1
delay, a released reset and a readback that differs act as R496-R502 say.
(An event before its condition changes nothing: the model's choice, log 3.) -/
def Obligations.SafetyPathEventsComplete : Prop :=
  (∀ (s b : State) (t : Nat) (f : SafetyFrame), s.begin t = b → f.crcOk = false →
    exec (.safetyExchangeFrame t f) s = .next (settle
      (safeEvalFrom b { b with safe := { b.safe with stuck := f.stuck && b.safe.proc.closed, logicSubs := 0xFF } }))) ∧
  (∀ (s b : State) (t : Nat), s.begin t = b →
    (b.safe.lastFrame + 500000 ≤ b.time.lt →
      exec (.safetyExchangeAbsence t) s = .next (settle (safeEvalFrom b { b with safe := { b.safe with logicSubs := 0xFF } }))) ∧
    (b.time.lt < b.safe.lastFrame + 500000 → exec (.safetyExchangeAbsence t) s = .next (settle b))) ∧
  (∀ (s b : State) (t : Nat) (f : SafetyFrame), s.begin t = b → f.crcOk = true →
    let s0 := { b with safe := { b.safe with stuck := f.stuck && b.safe.proc.closed } }
    let s1 := pathRaw .proc s0.cellLevels s0
    let s2 := { s1 with safe := { s1.safe with logicSubs := s1.subMask .proc, sobSeen := b.safe.logic.closed, lastFrame := b.time.lt } }
    let s3 := safeEvalFrom b (takeReadback f.readSoa f.readSob (compareCrc f.logicCrc s2))
    exec (.safetyExchangeFrame t f) s = .next (settle (s3.safe.acks.foldl ackReadback s3))) ∧
  (∀ (s b : State) (t : Nat) (p : SPath) (i : Fin 8) (level : Bool), s.begin t = b → b.resetIn ≠ i.val → bitOf (b.spath p).raw i.val = level →
    bitOf (b.spath p).filt i.val ≠ level →
    ((b.spath p).rawSince.getD i.val 0 + 1000000 < b.time.lt →
      exec (.safeInputFilter t p i level) s = .next (settle (safeEval (b.modPath p (fun q => { q with filt := Nat.xor q.filt (2 ^ i.val) }))))) ∧
    (b.time.lt < (b.spath p).rawSince.getD i.val 0 + 1000000 → exec (.safeInputFilter t p i level) s = .next (settle b))) ∧
  (∀ (s b : State) (t : Nat) (tp : Fin 2) (r : Byte), s.begin t = b →
    exec (.testPulse t tp false r) s = .next (settle { b with safe := { b.safe with tp := b.safe.tp.set tp.val false tp.isLt } }) ∧
    (b.pulseDue tp = true → b.safe.config = none → exec (.testPulse t tp true r) s = .next (settle
      { b with safe := { b.safe with tp := b.safe.tp.set tp.val true tp.isLt, tpLast := some (tp.val, b.time.lt) } })) ∧
    (b.pulseDue tp = false → exec (.testPulse t tp true r) s = .next (settle b))) ∧
  (∀ (s b : State) (t since : Nat) (p : SPath) (i : Fin 4), s.begin t = b → ((b.spath p).pairs.get i).discSince = some since →
    b.safe.config ≠ none → b.pairFn i.val ≠ 0 → ((b.spath p).pairs.get i).discDone = false → since + b.pairDisc i.val * 1000000 ≤ b.time.lt →
    exec (.discrepancy t p i) s = .next (settle (safeEval ((b.raise fDiscrepancy (0xB0 + i.val)).modPath p
      (fun q => { q with pairs := q.pairs.set i.val { (b.spath p).pairs.get i with discDone := true } i.isLt }))))) ∧
  (∀ (s b : State) (t start ms : Nat) (p : SPath), s.begin t = b → (b.spath p).ss1 = some (start, ms) →
    (start + ms * 950000 ≤ b.time.lt → exec (.ss1TimerEnd t p) s = .next (settle
      (safeFollow b.safe (b.modPath p (fun q => { q with closed := false, ss1 := none, seen := b.time.lt }))))) ∧
    (b.time.lt < start + ms * 950000 → exec (.ss1TimerEnd t p) s = .next (settle b))) ∧
  (∀ (s b : State) (t x : Nat) (p : SPath), s.begin t = b → (b.spath p).resetSince = some x → b.resetIn < 8 →
    bitOf (b.spath p).raw b.resetIn = false → bitOf (b.spath p).filt b.resetIn = true →
    let low := (b.spath p).rawSince.getD b.resetIn 0
    low + 1000000 ≤ b.time.lt →
    let s1 := safeEval (b.modPath p (fun q => { q with filt := q.filt - 2 ^ b.resetIn, resetSince := none, resetValid := false }))
    ((b.spath p).resetValid = true → x + 50000000 ≤ low → low ≤ x + 5000000000 → resetConds s1 p = true →
      exec (.resetRelease t p) s = .next (settle (safeEval (s1.modPath p (fun q => { q with resetMade := true, waitLocal := false }))))) ∧
    (low < x + 50000000 ∨ x + 5000000000 < low → exec (.resetRelease t p) s = .next (settle s1))) ∧
  (∀ (s b : State) (t since : Nat), s.begin t = b → b.safe.readDiff.getD 0 none = some since → b.safe.readRep.getD 0 false = false →
    (since + 2000000 < b.time.lt →
      let s1 := b.raise fSoReadback 0xA8
      exec (.soReadback t .proc .soa) s = .next (settle { s1 with safe := { s1.safe with readRep := s1.safe.readRep.set 0 true } })) ∧
    (b.time.lt ≤ since + 2000000 → exec (.soReadback t .proc .soa) s = .next (settle b)))

/-- A safe message is sent on a change of its data or after its period, a copy is checked and taken, a network without copies is
reported after the watchdog time, and a configuration block comes into force when both paths report its CRC (R493, R505-R509).
(An event before its condition changes nothing: the model's choice, log 3.) -/
def Obligations.SafetyMessageEventsComplete : Prop :=
  (∀ (s b : State) (t : Nat), s.begin t = b → b.safe.config ≠ none → bitOf (b.cfgU 1 1) 0 = true → b.domOn .safe = true → b.domOn .sup = true →
    let m := safeMessage b b.safe.txSeq b.safeData
    (b.safe.txData ≠ some b.safeData → (b.can.get 1).st = 0 → exec (.safeMessageSend t) s = .next (settle { b with safe := { b.safe with txSeq := (b.safe.txSeq + 1) % 2 ^ 16, txData := some b.safeData, txAt := b.time.lt, txQueue := b.safe.txQueue ++ [m] } })) ∧
    (b.safe.txData = some b.safeData → b.time.lt < b.safe.txAt + b.cfgU 8 2 * 1000000 → exec (.safeMessageSend t) s = .next (settle b))) ∧
  (∀ (s b : State) (t : Nat) (net : SNet) (m : List Byte), s.begin t = b → b.safe.config ≠ none → b.domOn .safe = true → m.length = 32 →
    (getU m 28 4 = crc32c (m.take 28) → getU m 0 1 = 1 → exec (.safeMessageRx t net m) s = .next (settle
      (safeEvalFrom b ((List.finRange 8).foldl (fun s i => subCopy net m i s) b)))) ∧
    (getU m 28 4 ≠ crc32c (m.take 28) → exec (.safeMessageRx t net m) s = .next (settle b))) ∧
  (∀ (s b : State) (t : Nat) (i : Fin 8), s.begin t = b → b.safe.config ≠ none → i.val < b.safeSubs → (b.safe.subs.get i).wd.getD 0 false = false →
    ((b.safe.subs.get i).since.getD 0 0 + b.safeWdMs * 1000000 ≤ b.time.lt → exec (.msgWatchdog t i .causeway) s = .next (settle
      (({ b with safe := { b.safe with subs := b.safe.subs.set i.val { b.safe.subs.get i with wd := (b.safe.subs.get i).wd.set 0 true, equalRun := 0 } i.isLt } } : State).raise fMsgWatchdog 0xFF))) ∧
    (b.time.lt < (b.safe.subs.get i).since.getD 0 0 + b.safeWdMs * 1000000 → exec (.msgWatchdog t i .causeway) s = .next (settle b))) ∧
  (∀ (s b : State) (t c d since : Nat) (x : List Byte) (q : ReqRef), s.begin t = b → b.safe.writing = some (x, q, since) →
    (b.time.lt ≤ since + 500000000 →
      let s1 := safeInstall x b
      exec (.safetyConfigDone t (blockCrc x) (blockCrc x)) s = .next (settle
        ((safeEval { s1 with safe := { s1.safe with storedConfig := some x, crcHold := false } }).finish q (okRsp (toLE 4 (blockCrc x)))))) ∧
    (c ≠ d ∨ c ≠ blockCrc x → b.time.lt < since + 500000000 → exec (.safetyConfigDone t c d) s = .next (settle b)) ∧
    (c ≠ d ∨ c ≠ blockCrc x → since + 500000000 ≤ b.time.lt →
      exec (.safetyConfigDone t c d) s = .next (settle ((safeEval { b with safe := { b.safe with writing := none, proc := { b.safe.proc with resetMade := false }, logic := { b.safe.logic with resetMade := false } } }).finish q { status := stTimeout }))))

/-! ### Events: field channels and CAN -/

/-- An input edge starts its filter or passes at once without one, the filter and the wire-break monitor take their levels (R516, R517);
the frames of the two field links carry inputs, commands and holds, and their silence is detected on both sides (R518, R519, R524,
R525).
(An event before its condition changes nothing: the model's choice, log 3.) -/
def Obligations.FieldInputAndLinkEventsComplete : Prop :=
  (∀ (s b : State) (t : Nat) (i : Fin 16) (level : Bool), s.begin t = b → b.domOn .field = true → 8 ≤ i.val → (b.fld.di.get i).raw ≠ level →
    let s1 := b.modDi i (fun d => { d with raw := level, edgeAt := b.ft, edgeLt := b.time.lt })
    (diHold b i ≠ 0 → exec (.diEdge t i level) s = .next (settle s1)) ∧
    (diHold b i = 0 → (b.fld.di.get i).wb = false → (b.fld.di.get i).filt ≠ level → exec (.diEdge t i level) s = .next (settle (setFilt i level s1)))) ∧
  (∀ (s b : State) (t : Nat) (i : Fin 16) (level : Bool), s.begin t = b → b.domOn .field = true → i.val < 8 → (b.fld.di.get i).raw ≠ level → diHold b i ≠ 0 →
    exec (.diEdge t i level) s = .next (settle (cellsToLogic (b.modDi i (fun d => { d with raw := level, edgeAt := b.ft, edgeLt := b.time.lt }))))) ∧
  (∀ (s b : State) (t : Nat) (i : Fin 16), s.begin t = b → b.domOn .field = true → (b.fld.di.get i).filt ≠ (b.fld.di.get i).level →
    let need := if i.val < 8 then diHold b i * 95 / 100 else diHold b i
    ((b.fld.di.get i).edgeLt + need ≤ b.time.lt → exec (.diFilterExpiry t i) s = .next (settle (setFilt i (b.fld.di.get i).level b))) ∧
    (b.time.lt < (b.fld.di.get i).edgeLt + need → exec (.diFilterExpiry t i) s = .next (settle b))) ∧
  (∀ (s b : State) (t : Nat) (i : Fin 16), s.begin t = b → 8 ≤ i.val → bitOf b.fld.die.wireBreak i.val = true → 1800 ≤ b.fld.vfld → (b.fld.di.get i).wb = false →
    let s1 := (b.modDi i (fun d => { d with wb := true, edgeAt := b.ft, edgeLt := b.time.lt })).raise fWireBreak (0x90 + i.val)
    exec (.wireBreak t i true) s = .next (settle (if (b.fld.di.get i).filt then setFilt i false s1 else s1))) ∧
  (∀ (s b : State) (t : Nat), s.begin t = b → b.domOn .sup = true → b.domOn .field = true →
    exec (.fieldLinkDownFrame t) s = .next (settle (safeEval (applyOut (endBreaks { b with
      fld := { b.fld with lastDown := b.time.lt, dieCmd := b.fld.cmd % 256, die := b.dieCfg, l5Held := b.safe.level5, silentHeld := false, sag := b.fld.sag && !b.fld.releaseDue, restored := b.fld.restored && !b.fld.releaseDue, releaseDue := false }
      out := { b.out with field := b.out.field ++ [⟨b.fld.cmd % 256, b.safe.level5, b.dieCfg⟩] } }))))) ∧
  (∀ (s b : State) (t : Nat) (f : FieldUp), s.begin t = b → b.domOn .sup = true → b.domOn .field = true → b.fld.stale = false →
    let m := b.dieLevels + (b.fld.fldIn / 256) * 256
    exec (.fieldLinkUpFrame t f) s = .next (settle ((List.range 8).foldl (fun s i => evalDi i (bitOf m i) none s)
      { b with fld := { b.fld with lastUp := b.time.lt, stale := false, fldIn := m, wbReg := b.dieBreaks, vfld := f.vfld % 65536, diag := b.fldDiag f.acting, restored := b.fld.restored && decide (1800 ≤ f.vfld) } }))) ∧
  (∀ (s b : State) (t : Nat), s.begin t = b →
    (b.domOn .sup = true → b.fld.stale = false → b.fld.lastUp + b.pn pFldSilenceTimeoutMs 0 * 1000000 ≤ b.time.lt →
      exec (.fieldSilent t) s = .next (settle ((forcedSwitches b { b with fld := { b.fld with stale := true } }).raise fFieldSilent 0xFF))) ∧
    (b.domOn .field = true → b.fld.silentHeld = false → b.fld.lastDown + b.fld.die.silenceMs * 1000000 ≤ b.time.lt →
      exec (.fieldDownSilence t) s = .next (settle (safeEval (applyOut { b with fld := { b.fld with silentHeld := true, silences := incSat 16 b.fld.silences } }))))) 

/-- VFLD_SAG switches the outputs off and counts; the restore follows `fld.restore_auto` (R523); overload, external voltage and open
load show on their outputs and end on their conditions (R521, R522).
(An event before its condition changes nothing: the model's choice, log 3.) -/
def Obligations.FieldOutputEventsComplete : Prop :=
  (∀ (s b : State) (t : Nat), s.begin t = b → b.fld.vfldValid = true →
    (b.fld.sag = false → exec (.vfldSag t) s = .next (settle (applyOut
      (({ b with fld := { b.fld with sag := true, restored := false, releaseDue := false, sags := incSat 16 b.fld.sags } } : State).raise fVfldSag 0xFF)))) ∧
    (b.fld.sag = true → b.fld.die.restoreAuto = false → exec (.vfldRestore t) s = .next (settle { b with fld := { b.fld with restored := true } })) ∧
    (b.fld.sag = true → b.fld.die.restoreAuto = true →
      let s1 := applyOut { b with fld := { b.fld with sag := false, restored := false } }
      exec (.vfldRestore t) s = .next (settle (s1.sagRecs.foldl (fun s i => latchRec i s.recTime.1 s) s1)))) ∧
  (∀ (s b : State) (t : Nat), s.begin t = b → b.fld.vfldValid = false →
    exec (.vfldSag t) s = .next (settle b) ∧ exec (.vfldRestore t) s = .next (settle (applyOut { b with fld := { b.fld with vfldValid := true } }))) ∧
  (∀ (s b : State) (t : Nat) (o : Fin 8), s.begin t = b →
    (bitOf b.fld.out o.val = true → (b.fld.dq.get o).overload = false →
      exec (.dqOverload t o) s = .next (settle ((b.raise fDqOverload (0xA0 + o.val)).modDq o (fun d => { d with overload := true })))) ∧
    ((b.fld.dq.get o).overload = true →
      exec (.dqOverloadCleared t o) s = .next (settle ((b.clearCond fDqOverload (0xA0 + o.val)).modDq o (fun d => { d with overload := false })))) ∧
    (bitOf b.fld.out o.val = false → (b.fld.dq.get o).external = false →
      exec (.dqExternal t o) s = .next (settle ((b.raise fDqExternal (0xA0 + o.val)).modDq o (fun d => { d with external := true })))) ∧
    ((b.fld.dq.get o).external = true →
      exec (.dqExternalCleared t o) s = .next (settle ((b.clearCond fDqExternal (0xA0 + o.val)).modDq o (fun d => { d with external := false })))) ∧
    (bitOf b.fld.out o.val = true → exec (.openLoad t o) s = .next (settle (b.modDq o (fun d => { d with openLoad := true })))) ∧
    (bitOf b.fld.out o.val = false → exec (.openLoad t o) s = .next (settle b)))

/-- A frame goes to the lowest-numbered receive object that matches and is counted where none does; a pending object is sent, and a
periodic one asks at the multiples of its period (R529, R532); errors, bus-off and integration follow R530 and R533.
(An event before its condition changes nothing: the model's choice, log 3.) -/
def Obligations.CanEventsComplete : Prop :=
  (∀ (s b : State) (t : Nat) (c : Fin 2) (f : CanFrame), s.begin t = b → (b.can.get c).st = 2 → (b.can.get c).rec_ = 0 → (b.can.get c).tec ≤ 127 → f.remote = false → f.fdf = false ∨ b.p1 pCanMode c.val ≠ 1 → b.safe.config = none →
    (∀ o, (List.range 128).find? (objMatches b c.val f) = some o → exec (.canFrameRx t c f) s = .next (settle (storeFrame c o f b))) ∧
    ((List.range 128).find? (objMatches b c.val f) = none →
      exec (.canFrameRx t c f) s = .next (settle (b.modCan c (fun x => { x with unmatched := incSat 16 x.unmatched }))))) ∧
  (∀ (s b : State) (t sof : Nat) (c : Fin 2) (o : Fin 128) (f : CanFrame), s.begin t = b → (b.can.get c).st = 2 ∨ (b.can.get c).st = 3 →
    b.sendFrame c o.val sof = some f → b.arbFirst c o.val sof = true →
    let flags := b.objU c.val o.val 9 1
    let id := b.objU c.val o.val 0 4 % 2 ^ 30
    let s2 := canSuccess c true (b.modObj c o.val (fun x =>
      { x with txPend := decide (sof < 8 * x.askAt), pendAt := x.askAt, txDone := true, dlc := f.dlc, fdf := f.fdf, brs := f.brs, id := id, ts := shrHalfUp (b.ftFine8 sof) 16 }))
    exec (.canTxDone t c o true sof) s = .next (settle { s2 with out := { s2.out with can := s2.out.can ++ [(c.val, f)] } }) ∧
    (bitOf flags 2 = true → exec (.canTxDone t c o false sof) s = .next (settle (b.modObj c o.val (fun x =>
      { x with txPend := decide (sof < 8 * x.askAt), pendAt := x.askAt, txFail := true })))) ∧
    (bitOf flags 2 = false → exec (.canTxDone t c o false sof) s = .next (settle b))) ∧
  (∀ (s b : State) (t : Nat) (c : Fin 2) (o : Fin 128), s.begin t = b → b.objKind c.val o.val = 2 → b.objU c.val o.val 12 2 ≠ 0 →
    (b.canObj c o.val).buf ≠ none → b.objConflict c.val o.val = false → b.p1 pCanMode c.val ≠ 3 →
    let k := (b.ft / ((b.objU c.val o.val 12 2 : Nat) * 1000000 : Int)).toNat
    ((b.canObj c o.val).served ≤ k → (b.can.get c).st = 2 ∨ (b.can.get c).st = 3 → exec (.canPeriodicDue t c o) s = .next (settle (b.modObj c o.val (fun x =>
      { x with served := k + 1, txPend := true, pendAt := if x.txPend then x.pendAt else b.time.lt, askAt := b.time.lt })))) ∧
    ((b.canObj c o.val).served ≤ k → (b.can.get c).st ≠ 2 → (b.can.get c).st ≠ 3 →
      exec (.canPeriodicDue t c o) s = .next (settle (b.modObj c o.val (fun x => { x with served := k + 1 })))) ∧
    (k < (b.canObj c o.val).served → exec (.canPeriodicDue t c o) s = .next (settle b))) ∧
  (∀ (s b : State) (t : Nat) (c : Fin 2) (e : CanError), s.begin t = b →
    ((b.can.get c).st = 2 ∨ (b.can.get c).st = 3 → exec (.canBusError t c e) s = .next (settle (canLimits c (b.modCan c (fun x =>
      { x with tec := ((x.tec : Int) + e.tecDelta).toNat, rec_ := min 255 ((x.rec_ : Int) + e.recDelta).toNat }))))) ∧
    ((b.can.get c).st = 4 → exec (.busOffRecovery t c) s = .next (settle
      ((b.clearCond fBusOff (0xAC + c.val)).modCan c (fun x => { x with st := 2, tec := 0, rec_ := 0 })))) ∧
    ((b.can.get c).st = 1 → exec (.canBusIntegration t c) s = .next (settle (b.modCan c (fun x => { x with st := 2 })))) ∧
    ((b.can.get c).st = 0 → exec (.canBusError t c e) s = .next (settle b) ∧ exec (.busOffRecovery t c) s = .next (settle b) ∧
      exec (.canBusIntegration t c) s = .next (settle b)))

/-! ### Events: lifecycle, ageing, power and reset -/

/-- A self-test ends with its response and cycling starts again under its conditions; the fuses are programmed and the reset follows
10 ms later; challenges expire and failed responses answer AUTH; a trial of an image ends (R563-R569, R573, R576); ageing is measured
and margins are planned anew (R579-R583).
(An event before its condition changes nothing: the model's choice, log 3.) -/
def Obligations.LifecycleEventsComplete : Prop :=
  (∀ (s b : State) (t : Nat) (scope : Nat) (q : ReqRef) (x y : Bool), s.begin t = b → b.life.bist = some (scope, q) →
    (b.cyc.cycling = true → exec (.bistDone t x y) s = .next (settle b)) ∧
    (b.cyc.cycling = false → scope ≠ 0 → x = true → y = true → b.life.bistCut = false → exec (.bistDone t x y) s = .next (settle
      (startCycling (({ b with life := { b.life with bist := none, bistCut := false } } : State).finish q (okRsp [1]))))) ∧
    (b.cyc.cycling = false → scope = 0 → x = false ∨ y = false → exec (.bistDone t x y) s = .next (settle
      (startCycling ((({ b with life := { b.life with bist := none, bistCut := false }, rcd := {}, acq := { b.acq with recs := [] } } : State).raise fBistFail 0xFF).finish q (okRsp [0])))))) ∧
  (∀ (s b : State) (t target : Nat) (q : ReqRef) (body : List Byte), s.begin t = b → b.life.advance = some (target, q, body) →
    let s1 := (advanceEffect target body b).finish q (okRsp [])
    exec (.lifecycleProgrammed t) s = .next (settle { s1 with life := { s1.life with advance := none, resetDue := some (b.time.lt + 10000000) } })) ∧
  (∀ (s b : State) (t d : Nat) (o : BootObs), s.begin t = b → b.life.resetDue = some d →
    (d ≤ b.time.lt → exec (.lifecycleReset t o) s = .next (settle (boot 5 o (lastFrames b)))) ∧
    (b.time.lt < d → exec (.lifecycleReset t o) s = .next (settle b))) ∧
  (∀ (s b : State) (t k d : Nat) (n : List Byte), s.begin t = b → b.life.nonce = some (k, n, d) →
    (d ≤ b.time.lt → exec (.debugNonceExpire t) s = .next (settle { b with life := { b.life with nonce := none } })) ∧
    (b.time.lt < d → exec (.debugNonceExpire t) s = .next (settle b))) ∧
  (∀ (s b : State) (t d : Nat) (q : ReqRef), s.begin t = b → b.life.authPend = [(q, d)] →
    (d ≤ b.time.lt → exec (.debugAuthDelay t) s = .next (settle
      (({ b with life := { b.life with authPend := [], authFails := b.life.authFails + 1 } } : State).finish q { status := stAuth }))) ∧
    (b.time.lt < d → exec (.debugAuthDelay t) s = .next (settle b))) ∧
  (∀ (s b : State) (t a : Nat) (o : BootObs), s.begin t = b → b.life.trial = some a →
    (b.life.trialReady = none → a + 2000000000 ≤ b.time.lt → exec (.fwTrialReadyTimeout t o) s = .next (settle (boot 3 o (rollBack (lastFrames b))))) ∧
    (∀ r, b.life.trialReady = some r → exec (.fwTrialReadyTimeout t o) s = .next (settle b)) ∧
    (∀ r, b.life.trialReady = some r → r + 60000000000 ≤ b.time.lt → exec (.fwTrialEnd t) s = .next (settle
      { b with life := { b.life with trial := none, trialReady := none, rollback := max b.life.rollback (if b.host.ident.image = 0 then b.life.imgA else b.life.imgB).floor } })) ∧
    (∀ r, b.life.trialReady = some r → b.time.lt < r + 60000000000 → exec (.fwTrialEnd t) s = .next (settle b))) ∧
  (∀ (s b : State) (t : Nat) (l : List Int) (m : List (List Int)), s.begin t = b → b.domOn .sup = true →
    (b.life.bist = none → b.age.measured < b.time.lt / 600000000000 →
      let s1 := takeReadings l { b with age := { b.age with measured := b.time.lt / 600000000000 } }
      exec (.ageingMeasure t l) s = .next (settle (setTarget (wantedVt b.reserve s1.age.vFail) s1))) ∧
    (b.time.lt / 600000000000 ≤ b.age.measured → exec (.ageingMeasure t l) s = .next (settle b)) ∧
    (b.life.bist = none → b.age.planAt + 86400000000000 ≤ b.time.lt → exec (.marginReplan t m) s = .next (settle
      (projectMargins (closeDay (replan b.age.minPeriod m b))))) ∧
    (b.life.bist ≠ none → exec (.marginReplan t m) s = .next (settle b) ∧ (b.age.measured < b.time.lt / 600000000000 →
      exec (.ageingMeasure t l) s = .next (settle { b with age := { b.age with measured := b.time.lt / 600000000000 } }))))

/-- The module starts when VSYS has risen and RST_N is high, warns below 17.5 V until 18 V, goes down below 15.5 V and with RST_N
low; a lost domain, a watchdog, VBAK and the temperature act as R19, R476, R591-R598 say.
(An event before its condition changes nothing: the model's choice, log 3.) -/
def Obligations.PowerAndResetEventsComplete : Prop :=
  (∀ (s b : State) (t : Nat) (o : BootObs), s.begin t = b → b.domOn .sup = false →
    (b.power.rstLow = false → 16500 ≤ o.vsysMv → exec (.powerUp t o) s = .next (settle (boot (b.causeOf 0) o b))) ∧
    (b.power.rstLow = true ∨ o.vsysMv < 16500 → exec (.powerUp t o) s = .next (settle b))) ∧
  (∀ (s b : State) (t mv : Nat), s.begin t = b → b.domOn .sup = true →
    let s1 := { b with power := { b.power with vsysMv := mv } }
    (mv < 17500 → b.power.vsysLow = false → exec (.vsysLow t mv) s = .next (settle
      (({ s1 with power := { s1.power with vsysLow := true } } : State).raise fVsysLow 0xFF))) ∧
    (17500 ≤ mv → exec (.vsysLow t mv) s = .next (settle s1)) ∧
    (18000 ≤ mv → b.power.vsysLow = true → exec (.vsysLowClear t mv) s = .next (settle
      (({ s1 with power := { s1.power with vsysLow := false } } : State).clearCond fVsysLow 0xFF))) ∧
    (mv < 18000 → exec (.vsysLowClear t mv) s = .next (settle s1)) ∧
    (mv < 15500 → exec (.shutdown t mv) s = .next (settle (powerDown (lastFrames s1)))) ∧
    (15500 ≤ mv → exec (.shutdown t mv) s = .next (settle s1)) ∧
    exec (.rstNLow t) s = .next (settle (powerDown (lastFrames { b with power := { b.power with rstLow := true } })))) ∧
  (∀ (s b : State) (t : Nat) (o : BootObs), s.begin t = b →
    (b.power.rstLow = true → 16500 ≤ o.vsysMv → exec (.rstNHigh t o) s = .next (settle (boot 1 o { b with power := { b.power with rstLow := false } }))) ∧
    (b.power.rstLow = false → exec (.rstNHigh t o) s = .next (settle b))) ∧
  (∀ (s b : State) (t : Nat) (d : Domain), s.begin t = b →
    (b.domOn d = false → exec (.domainLost t d) s = .next (settle b)) ∧
    (b.domOn d = true → d = .sup ∨ d = .mem → exec (.domainLost t d) s = .next (settle
      (powerDown (keepFault fDomainLost (0x70 + (domIdx d).val) 5 (lastFrames b))))) ∧
    (b.domOn d = true → d = .prof ∨ d = .axl ∨ d = .fab ∨ d = .host ∨ d = .safe ∨ d = .field → exec (.domainLost t d) s = .next (settle
      (domainEffect d (settle (({ b with power := { b.power with lost := b.power.lost ++ [(domIdx d).val] } } : State).raise fDomainLost
        (0x70 + (domIdx d).val)))))) ∧
    (b.domOn .t0 = true → exec (.domainLost t .t0) s = .next (settle (tileDomainLost 0 b)))) ∧
  (∀ (s b : State) (t mv : Nat) (temp : Int), s.begin t = b → b.domOn .sup = true →
    exec (.vbakCheck t mv) s = .next (settle (condLevel (decide (mv < 1950)) fVbakLow 0xFF { b with power := { b.power with vbakMv := mv } })) ∧
    exec (.tempThreshold t temp) s = .next (settle (bistWindow (tempEval { b with power := { b.power with temp := temp } })))) ∧
  (∀ (s b : State) (t : Nat) (o : BootObs), s.begin t = b → b.domOn .sup = true → b.life.trial = none →
    exec (.supWatchdog t o) s = .next (settle (boot 4 o (keepFault fSupWatchdog 0xFF 5 (lastFrames (settle (b.raise fSupWatchdog 0xFF)))))))

/-- A start begins LT anew, takes the lifecycle state from the fuses, counts itself, and keeps the fuses, the images' bounds and the queue
of commands (R378, R431, R560, R573). -/
def Obligations.StartBeginsAnew : Prop :=
  ∀ (cause : Nat) (o : BootObs) (s : State), let s1 := boot cause o s
    s1.time.lt = 0 ∧ s1.life.lc = s.life.fuse ∧ s1.life.fuse = s.life.fuse ∧ s1.life.rollback = s.life.rollback ∧
    s1.host.ident.bootCount = (s.host.ident.bootCount + 1) % 2 ^ 32 ∧ s1.pending = s.pending ∧ s1.cyc.cycling = false
end

