-- ==== Sys2Proof/Laws/Bytes.lean ====
section
/-! SUPPORT. Laws of the byte order of R3: what a field of bytes holds after it was written from a number. -/

namespace Sys2Proof.Machine

@[simp] theorem toLE_length (n : Nat) (x : Int) : (toLE n x).length = n := by
  induction n generalizing x with
  | zero => rfl
  | succ n ih => simp [toLE, ih]

/-- The unsigned value of the bytes of `x` is `x` reduced to as many bits. -/
theorem ofLE_toLE (n : Nat) (x : Int) : (ofLE (toLE n x) : Int) = x % 2 ^ (8 * n) := by
  induction n generalizing x with
  | zero => simp [toLE, ofLE]
  | succ n ih =>
    simp only [toLE, ofLE]
    push_cast
    rw [ih]
    have h1 : ((BitVec.ofInt 8 x).toNat : Int) = x % 256 := by
      rw [BitVec.toNat_ofInt]
      simp only [Nat.reducePow, Nat.cast_ofNat]
      rw [Int.toNat_of_nonneg (Int.emod_nonneg _ (by norm_num))]
    rw [h1]
    have h2 : (2 : Int) ^ (8 * (n + 1)) = 256 * 2 ^ (8 * n) := by
      rw [show 8 * (n + 1) = 8 + 8 * n by ring, pow_add]; norm_num
    have h3 := Int.emod_add_mul_ediv x 256
    have h4 := Int.emod_add_mul_ediv (x / 256) (2 ^ (8 * n))
    have h5 : x / (256 * 2 ^ (8 * n)) = x / 256 / 2 ^ (8 * n) := by
      rw [Int.ediv_ediv_of_nonneg (by norm_num)]
    have h6 := Int.emod_add_mul_ediv x (256 * 2 ^ (8 * n))
    rw [h2]
    rw [h5] at h6
    nlinarith

/-- A number that fits is read back. -/
theorem ofLE_toLE_nat {n v : Nat} (h : v < 2 ^ (8 * n)) : ofLE (toLE n (v : Int)) = v := by
  have h1 := ofLE_toLE n (v : Int)
  have h2 : (v : Int) % 2 ^ (8 * n) = v := Int.emod_eq_of_lt (by omega) (by exact_mod_cast h)
  rw [h2] at h1
  exact_mod_cast h1

/-- A signed number that fits is read back. -/
theorem ofLES_toLE {n : Nat} {v : Int} (hn : 0 < n) (h1 : -(2 ^ (8 * n - 1)) ≤ v) (h2 : v < 2 ^ (8 * n - 1)) : ofLES (toLE n v) = v := by
  unfold ofLES wrapS
  simp only [toLE_length, ofLE_toLE, Int.emod_emod_of_dvd v (dvd_refl _)]
  have h3 : (2 : Int) ^ (8 * n) = 2 * 2 ^ (8 * n - 1) := by
    rw [← pow_succ']; congr 1; omega
  have hpos : (0 : Int) < 2 ^ (8 * n - 1) := by positivity
  rcases lt_or_ge v 0 with h | h
  · have : v % 2 ^ (8 * n) = v + 2 ^ (8 * n) := by
      rw [← Int.add_emod_right, Int.emod_eq_of_lt] <;> omega
    rw [this, if_pos] <;> omega
  · have : v % 2 ^ (8 * n) = v := Int.emod_eq_of_lt h (by omega)
    rw [this, if_neg]; omega

theorem bytesAt_of_le {l : List Byte} {o n : Nat} (h : o + n ≤ l.length) : bytesAt l o n = (l.drop o).take n := by
  unfold bytesAt
  have : ((l.drop o).take n).length = n := by simp; omega
  simp [this]

/-- A field in the middle of bytes. -/
theorem bytesAt_mid (a m r : List Byte) : bytesAt (a ++ m ++ r) a.length m.length = m := by
  rw [bytesAt_of_le (by simp)]
  simp

/-- A field that stands behind `l`. -/
theorem getU_skip {l r : List Byte} {o n : Nat} (h : l.length ≤ o) : getU (l ++ r) o n = getU r (o - l.length) n := by
  unfold getU bytesAt
  rw [List.drop_append, List.drop_eq_nil_of_le h, List.nil_append]

theorem getS_skip {l r : List Byte} {o n : Nat} (h : l.length ≤ o) : getS (l ++ r) o n = getS r (o - l.length) n := by
  unfold getS bytesAt
  rw [List.drop_append, List.drop_eq_nil_of_le h, List.nil_append]

/-- A field at the start of bytes. -/
theorem bytesAt_head (m r : List Byte) : bytesAt (m ++ r) 0 m.length = m := by
  simpa using bytesAt_mid [] m r

theorem getU_head {n v : Nat} (h : v < 2 ^ (8 * n)) (r : List Byte) : getU (toLE n (v : Int) ++ r) 0 n = v := by
  have := bytesAt_head (toLE n (v : Int)) r
  rw [toLE_length] at this
  rw [getU, this, ofLE_toLE_nat h]

theorem getS_head {n : Nat} {v : Int} (hn : 0 < n) (h1 : -(2 ^ (8 * n - 1)) ≤ v) (h2 : v < 2 ^ (8 * n - 1)) (r : List Byte) :
    getS (toLE n v ++ r) 0 n = v := by
  have := bytesAt_head (toLE n v) r
  rw [toLE_length] at this
  rw [getS, this, ofLES_toLE hn h1 h2]

/-- Groups of equal length are cut apart again. -/
theorem chunks_flatten {n : Nat} (l : List (List Byte)) (h : ∀ x ∈ l, x.length = n) : chunks n l.length l.flatten = l := by
  induction l with
  | nil => rfl
  | cons x r ih =>
    have hx : x.length = n := h x (by simp)
    simp only [List.length_cons, List.flatten_cons, chunks]
    rw [List.take_append_of_le_length (by omega), List.take_of_length_le (by omega), List.drop_append, List.drop_eq_nil_of_le (by omega), hx,
      Nat.sub_self, List.drop_zero, List.nil_append, ih (fun y hy => h y (by simp [hy]))]

end Sys2Proof.Machine
end

