-- ==== Sys2Proof/Laws/Mailbox.lean ====
section
/-! SUPPORT. What `runOp`, the shared operation of every mailbox request, does: the four ways a request ends (R424, R428, R429). -/

namespace Sys2Proof.Machine

variable {opc need : Nat} {ba br : Bool} {h : Hdr} {pay : List Byte} {s : State}
  {checks : State → List (Bool × Nat × Nat)} {effect : ReqRef → State → Rsp × State}

/-- A request that cannot be taken changes nothing. -/
theorem runOp_not_taken (hc : s.canTake h = false) : runOp opc need ba br h pay s checks effect = s := by
  simp [runOp, hc]

/-- A wrong LENGTH is answered BAD_LENGTH. -/
theorem runOp_bad_length (hc : s.canTake h = true) (hl : lengthOk h need ba br = false) :
    runOp opc need ba br h pay s checks effect = (s.noteCmd opc h pay).answer opc h { status := stBadLength } := by
  simp [runOp, hc, hl, State.answer]

/-- A request for another node leaves by ferry, or is answered UNREACHABLE. -/
theorem runOp_elsewhere (hc : s.canTake h = true) (hl : lengthOk h need ba br = true) (hi : s.isLocal h = false) :
    runOp opc need ba br h pay s checks effect = (s.noteCmd opc h pay).forward h (refOf h opc) pay := by
  have hi' : (s.noteCmd opc h pay).isLocal h = false := hi
  simp [runOp, hc, hl, hi']

/-- The first failing check is the answer, and nothing else happens. -/
theorem runOp_refused {st d : Nat} (hs : s.Serves h need ba br) (hf : firstFail (checks (s.noteCmd opc h pay)) = some (st, d)) (hp : st ≠ stPending) :
    runOp opc need ba br h pay s checks effect = (s.noteCmd opc h pay).answer opc h { status := st, detail := d } := by
  obtain ⟨hc, hl, hi⟩ := hs
  have hi' : (s.noteCmd opc h pay).isLocal h = true := hi
  simp [runOp, hc, hl, hi', hf, State.answer, hp]

/-- Where every check passes, the operation has its effect and its answer is posted. -/
theorem runOp_served (hs : s.Serves h need ba br) (hf : firstFail (checks (s.noteCmd opc h pay)) = none) :
    runOp opc need ba br h pay s checks effect =
      (effect (refOf h opc) (s.noteCmd opc h pay)).2.answer opc h (effect (refOf h opc) (s.noteCmd opc h pay)).1 := by
  obtain ⟨hc, hl, hi⟩ := hs
  have hi' : (s.noteCmd opc h pay).isLocal h = true := hi
  simp [runOp, hc, hl, hi', hf, State.answer]

theorem firstFail_nil : firstFail [] = none := rfl

theorem firstFail_cons (b : Bool) (st d : Nat) (r : List (Bool × Nat × Nat)) :
    firstFail ((b, st, d) :: r) = if b then some (st, d) else firstFail r := rfl

/-- No check fails exactly where every condition is false. -/
theorem firstFail_eq_none (l : List (Bool × Nat × Nat)) : firstFail l = none ↔ ∀ e ∈ l, e.1 = false := by
  induction l with
  | nil => simp [firstFail]
  | cons x r ih =>
    obtain ⟨b, st, d⟩ := x
    cases b <;> simp [firstFail, ih]

end Sys2Proof.Machine
end

