-- ==== Sys2Proof/Laws/Memory.lean ====
section
/-! SUPPORT. Laws of the sparse canonical lists and of the window memory: a read after a write, and the canonical form kept. -/

namespace Sys2Proof.Machine

variable {α : Type} [DecidableEq α] {d : α}

/-- The keys of a canonical list lie above `k`. -/
def alAbove (k : Nat) : List (Nat × α) → Prop
  | [] => True
  | (j, _) :: _ => k < j

theorem alWf_cons {k : Nat} {v : α} {l : List (Nat × α)} : alWf d ((k, v) :: l) = true ↔ v ≠ d ∧ alAbove k l ∧ alWf d l = true := by
  cases l with
  | nil => simp [alWf, alAbove]
  | cons x r => obtain ⟨j, w⟩ := x; simp [alWf, alAbove, and_assoc]

theorem alGet_above {k : Nat} {l : List (Nat × α)} (hw : alWf d l = true) (ha : alAbove k l) : alGet d k l = d := by
  induction l with
  | nil => rfl
  | cons x r ih =>
    obtain ⟨j, w⟩ := x
    simp only [alAbove] at ha
    rw [alWf_cons] at hw
    have hne : j ≠ k := by omega
    simp only [alGet, hne, if_false]
    refine ih hw.2.2 ?_
    cases r with
    | nil => trivial
    | cons y r => exact Nat.lt_trans ha hw.2.1

omit [DecidableEq α] in
theorem alAbove_put {j k : Nat} {v : α} {l : List (Nat × α)} (ha : alAbove j l) (hk : j < k) : alAbove j (alPut k v l) := by
  cases l with
  | nil => exact hk
  | cons x r =>
    obtain ⟨i, w⟩ := x
    simp only [alPut]
    split
    · exact hk
    · split
      · exact hk
      · exact ha

theorem alAbove_del {j k : Nat} {l : List (Nat × α)} (hw : alWf d l = true) (ha : alAbove j l) : alAbove j (alDel k l) := by
  cases l with
  | nil => trivial
  | cons x r =>
    obtain ⟨i, w⟩ := x
    simp only [alDel]
    rw [alWf_cons] at hw
    split
    · cases r with
      | nil => trivial
      | cons y r => exact Nat.lt_trans ha hw.2.1
    · exact ha

theorem alWf_put {k : Nat} {v : α} {l : List (Nat × α)} (hw : alWf d l = true) (hv : v ≠ d) : alWf d (alPut k v l) = true := by
  induction l with
  | nil => simp [alPut, alWf, hv]
  | cons x r ih =>
    obtain ⟨i, w⟩ := x
    simp only [alPut]
    have hw' := alWf_cons.mp hw
    split
    · rw [alWf_cons]; exact ⟨hv, by assumption, hw⟩
    · split
      · rename_i h1 h2
        subst h2
        rw [alWf_cons]; exact ⟨hv, hw'.2.1, hw'.2.2⟩
      · rw [alWf_cons]
        exact ⟨hw'.1, alAbove_put hw'.2.1 (by omega), ih hw'.2.2⟩

theorem alWf_del {k : Nat} {l : List (Nat × α)} (hw : alWf d l = true) : alWf d (alDel k l) = true := by
  induction l with
  | nil => rfl
  | cons x r ih =>
    obtain ⟨i, w⟩ := x
    have hw' := alWf_cons.mp hw
    simp only [alDel]
    split
    · exact hw'.2.2
    · rw [alWf_cons]
      exact ⟨hw'.1, alAbove_del hw'.2.2 hw'.2.1, ih hw'.2.2⟩

/-- A write keeps the canonical form. -/
theorem alWf_set {k : Nat} {v : α} {l : List (Nat × α)} (hw : alWf d l = true) : alWf d (alSet d k v l) = true := by
  unfold alSet
  split
  · exact alWf_del hw
  · exact alWf_put hw ‹_›

omit [DecidableEq α] in
theorem alGet_put (k j : Nat) (v : α) (l : List (Nat × α)) : alGet d j (alPut k v l) = if j = k then v else alGet d j l := by
  induction l with
  | nil =>
    simp only [alPut, alGet]
    by_cases h : k = j
    · simp [h]
    · simp [h, Ne.symm h]
  | cons x r ih =>
    obtain ⟨i, w⟩ := x
    simp only [alPut]
    split
    · simp only [alGet]
      by_cases h : k = j
      · simp [h]
      · simp [h, Ne.symm h]
    · split
      · rename_i h1 h2
        subst h2
        simp only [alGet]
        by_cases h : k = j
        · simp [h]
        · simp [h, Ne.symm h]
      · rename_i h1 h2
        simp only [alGet, ih]
        by_cases h : i = j
        · subst h; simp [Ne.symm h2]
        · simp [h]

theorem alGet_del {k j : Nat} {l : List (Nat × α)} (hw : alWf d l = true) : alGet d j (alDel k l) = if j = k then d else alGet d j l := by
  induction l with
  | nil => simp [alDel, alGet]
  | cons x r ih =>
    obtain ⟨i, w⟩ := x
    have hw' := alWf_cons.mp hw
    simp only [alDel]
    split
    · rename_i h; subst h
      by_cases h : j = i
      · subst h; simp [alGet_above hw'.2.2 hw'.2.1]
      · simp [alGet, h, Ne.symm h]
    · rename_i h1
      simp only [alGet, ih hw'.2.2]
      by_cases h : i = j
      · subst h; simp [h1]
      · simp [h]

/-- A read after a write: the value at its key, and every other key as before. -/
theorem alGet_set {k j : Nat} {v : α} {l : List (Nat × α)} (hw : alWf d l = true) :
    alGet d j (alSet d k v l) = if j = k then v else alGet d j l := by
  unfold alSet
  split
  · rename_i h; subst h; exact alGet_del hw
  · exact alGet_put k j v l

theorem memWf_write {m : List Host.Cell} (h : memWf m = true) (a : Nat) (b : Byte) : memWf (memWrite m a b) = true := alWf_set h

theorem memRead_write {m : List Host.Cell} (h : memWf m = true) (a a' : Nat) (b : Byte) :
    memRead (memWrite m a b) a' = if a' = a then b else memRead m a' := alGet_set h

theorem memWf_writeN {m : List Host.Cell} (h : memWf m = true) (a : Nat) (l : List Byte) : memWf (memWriteN m a l) = true := by
  induction l generalizing m a with
  | nil => exact h
  | cons b r ih => exact ih (memWf_write h a b) (a + 1)

/-- After a write of several bytes each of them is read at its address, and every other byte is as before. -/
theorem memRead_writeN {m : List Host.Cell} (hm : memWf m = true) (a a' : Nat) (l : List Byte) :
    memRead (memWriteN m a l) a' = if h : a ≤ a' ∧ a' - a < l.length then l[a' - a]'h.2 else memRead m a' := by
  induction l generalizing m a with
  | nil => simp [memWriteN]
  | cons b r ih =>
    simp only [memWriteN]
    rw [ih (memWf_write hm a b), memRead_write hm]
    by_cases h1 : a + 1 ≤ a' ∧ a' - (a + 1) < r.length
    · have h2 : a ≤ a' ∧ a' - a < (b :: r).length := by simp only [List.length_cons]; omega
      rw [dif_pos h1, dif_pos h2]
      have h3 : a' - a = (a' - (a + 1)) + 1 := by omega
      simp only [h3, List.getElem_cons_succ]
    · rw [dif_neg h1]
      by_cases h4 : a' = a
      · subst h4
        simp
      · rw [if_neg h4, dif_neg]
        simp only [List.length_cons]; omega

theorem memReadN_length (m : List Host.Cell) (a n : Nat) : (memReadN m a n).length = n := by
  induction n generalizing a with
  | zero => rfl
  | succ n ih => simp [memReadN, ih]

theorem memReadN_eq (m : List Host.Cell) (a n : Nat) : memReadN m a n = (List.range n).map (fun i => memRead m (a + i)) := by
  induction n generalizing a with
  | zero => rfl
  | succ n ih =>
    rw [List.range_succ_eq_map, List.map_cons, List.map_map]
    simp only [memReadN, ih, Nat.add_zero]
    congr 1
    refine List.map_congr_left ?_
    intro i _
    simp only [Function.comp]
    congr 1
    omega

theorem memWriteN_append (m : List Host.Cell) (a : Nat) (l r : List Byte) :
    memWriteN m a (l ++ r) = memWriteN (memWriteN m a l) (a + l.length) r := by
  induction l generalizing m a with
  | nil => rfl
  | cons b l ih =>
    simp only [List.cons_append, memWriteN, ih, List.length_cons]
    congr 1
    omega

/-- What has just been written is read. -/
theorem memReadN_writeN {m : List Host.Cell} (hm : memWf m = true) (a : Nat) (l : List Byte) : memReadN (memWriteN m a l) a l.length = l := by
  rw [memReadN_eq]
  apply List.ext_getElem
  · simp
  · intro i h1 h2
    simp only [List.getElem_map, List.getElem_range]
    rw [memRead_writeN hm, dif_pos ⟨by omega, by omega⟩]
    congr 1
    omega

/-- Reset's memory lists nothing. -/
theorem reset_memWf : memWf State.reset.host.mem = true := rfl

end Sys2Proof.Machine
end

