-- ==== Sys2Proof/Laws/PerInstr.lean ====
section
/-! SUPPORT. Statements made for every command, one lemma per constructor: what the form of a request says. -/

namespace Sys2Proof.Laws.RequestForm

open Sys2Proof.Machine

/-- A well-formed command that is a request has a well-formed header, an opcode of 16 bits, and takes bulk data where it requires them
(R426, R428). -/
def Statement (i : Instr) : Prop :=
  ∀ f, requestForm i = some f → i.wf = true → f.h.wf = true ∧ f.opc < 2 ^ 16 ∧ (f.bulkRequired = true → f.bulkAllowed = true)

/-- A command that is no request has no form. -/
theorem of_none {i : Instr} (h : requestForm i = none) : Statement i := by
  intro f hf; rw [h] at hf; cases hf

/-- The statement for a request whose well-formedness begins with its header. -/
theorem of_some {i : Instr} {f : ReqForm} (h : requestForm i = some f) (hw : i.wf = true → f.h.wf = true) (ho : f.opc < 2 ^ 16)
    (hb : f.bulkRequired = true → f.bulkAllowed = true) : Statement i := by
  intro g hg w; rw [h] at hg; cases hg; exact ⟨hw w, ho, hb⟩

theorem left0 {a : Bool} (w : a = true) : a = true := by
  exact w
theorem left1 {a b : Bool} (w : (a && b) = true) : a = true := by
  cases a
  · simp at w
  · rfl
theorem left2 {a b c : Bool} (w : (a && b && c) = true) : a = true := by
  cases a
  · simp at w
  · rfl
theorem left3 {a b c d : Bool} (w : (a && b && c && d) = true) : a = true := by
  cases a
  · simp at w
  · rfl
theorem left4 {a b c d e : Bool} (w : (a && b && c && d && e) = true) : a = true := by
  cases a
  · simp at w
  · rfl

theorem paramGet (t : Nat) (h : Hdr) (id count bank : Nat) : Statement (.paramGet t h id count bank) :=
  of_some rfl (fun w => left3 w) (by simp) (by simp)
theorem paramSet (t : Nat) (h : Hdr) (id count : Nat) (vals : List Byte) : Statement (.paramSet t h id count vals) :=
  of_some rfl (fun w => left2 w) (by simp) (by simp)
theorem paramStage (t : Nat) (h : Hdr) (id count ofs : Nat) (vals : List Byte) : Statement (.paramStage t h id count ofs vals) :=
  of_some rfl (fun w => left4 w) (by simp) (by simp)
theorem check (t : Nat) (h : Hdr) : Statement (.check t h) :=
  of_some rfl (fun w => left0 w) (by simp) (by simp)
theorem apply (t : Nat) (h : Hdr) (when_ n : Nat) : Statement (.apply t h when_ n) :=
  of_some rfl (fun w => left2 w) (by simp) (by simp)
theorem discard (t : Nat) (h : Hdr) : Statement (.discard t h) :=
  of_some rfl (fun w => left0 w) (by simp) (by simp)
theorem axisEnable (t : Nat) (h : Hdr) (mask : Nat) : Statement (.axisEnable t h mask) :=
  of_some rfl (fun w => left1 w) (by simp) (by simp)
theorem axisDisable (t : Nat) (h : Hdr) (mask : Nat) : Statement (.axisDisable t h mask) :=
  of_some rfl (fun w => left1 w) (by simp) (by simp)
theorem modeSet (t : Nat) (h : Hdr) (axis mode : Nat) : Statement (.modeSet t h axis mode) :=
  of_some rfl (fun w => left2 w) (by simp) (by simp)
theorem moveQueue (t : Nat) (h : Hdr) (m : MoveReq) : Statement (.moveQueue t h m) :=
  of_some rfl (fun w => left1 w) (by simp) (by simp)
theorem moveFlush (t : Nat) (h : Hdr) (tgt : Nat) : Statement (.moveFlush t h tgt) :=
  of_some rfl (fun w => left1 w) (by simp) (by simp)
theorem stop (t : Nat) (h : Hdr) (tgt : Nat) : Statement (.stop t h tgt) :=
  of_some rfl (fun w => left1 w) (by simp) (by simp)
theorem quickstop (t : Nat) (h : Hdr) (tgt : Nat) : Statement (.quickstop t h tgt) :=
  of_some rfl (fun w => left1 w) (by simp) (by simp)
theorem jog (t : Nat) (h : Hdr) (j : JogReq) : Statement (.jog t h j) :=
  of_some rfl (fun w => left1 w) (by simp) (by simp)
theorem home (t : Nat) (h : Hdr) (axis : Nat) : Statement (.home t h axis) :=
  of_some rfl (fun w => left1 w) (by simp) (by simp)
theorem latchArm (t : Nat) (h : Hdr) (l : LatchReq) : Statement (.latchArm t h l) :=
  of_some rfl (fun w => left1 w) (by simp) (by simp)
theorem tideDefine (t : Nat) (h : Hdr) (body : List Byte) : Statement (.tideDefine t h body) :=
  of_some rfl (fun w => left0 w) (by simp) (by simp)
theorem tideSchedule (t : Nat) (h : Hdr) (tide n : Nat) : Statement (.tideSchedule t h tide n) :=
  of_some rfl (fun w => left2 w) (by simp) (by simp)
theorem gearEngage (t : Nat) (h : Hdr) (g : GearReq) : Statement (.gearEngage t h g) :=
  of_some rfl (fun w => left1 w) (by simp) (by simp)
theorem camLoad (t : Nat) (h : Hdr) (c : CamReq) : Statement (.camLoad t h c) :=
  of_some rfl (fun w => left1 w) (by simp) (by simp)
theorem faultRead (t : Nat) (h : Hdr) (first count : Nat) : Statement (.faultRead t h first count) :=
  of_some rfl (fun w => left2 w) (by simp) (by simp)
theorem faultAck (t : Nat) (h : Hdr) (record : Nat) : Statement (.faultAck t h record) :=
  of_some rfl (fun w => left1 w) (by simp) (by simp)
theorem faultInject (t : Nat) (h : Hdr) (cls code unit window : Nat) : Statement (.faultInject t h cls code unit window) :=
  of_some rfl (fun w => left4 w) (by simp) (by simp)
theorem traceSetup (t : Nat) (h : Hdr) (pairs : List (Nat × Nat)) : Statement (.traceSetup t h pairs) :=
  of_some rfl (fun w => left1 w) (by simp) (by simp)
theorem traceArm (t : Nat) (h : Hdr) (action : Nat) : Statement (.traceArm t h action) :=
  of_some rfl (fun w => left1 w) (by simp) (by simp)
theorem traceRead (t : Nat) (h : Hdr) (ofs : Nat) : Statement (.traceRead t h ofs) :=
  of_some rfl (fun w => left1 w) (by simp) (by simp)
theorem recordFreeze (t : Nat) (h : Hdr) (action : Nat) : Statement (.recordFreeze t h action) :=
  of_some rfl (fun w => left1 w) (by simp) (by simp)
theorem replayRun (t : Nat) (h : Hdr) (first cycles mask : Nat) : Statement (.replayRun t h first cycles mask) :=
  of_some rfl (fun w => left3 w) (by simp) (by simp)
theorem timeGet (t : Nat) (h : Hdr) : Statement (.timeGet t h) :=
  of_some rfl (fun w => left0 w) (by simp) (by simp)
theorem timedOutput (t : Nat) (h : Hdr) (p : TqReq) : Statement (.timedOutput t h p) :=
  of_some rfl (fun w => left1 w) (by simp) (by simp)
theorem timeAcceptJump (t : Nat) (h : Hdr) (seconds : Nat) : Statement (.timeAcceptJump t h seconds) :=
  of_some rfl (fun w => left1 w) (by simp) (by simp)
theorem fabricDiscover (t : Nat) (h : Hdr) : Statement (.fabricDiscover t h) :=
  of_some rfl (fun w => left0 w) (by simp) (by simp)
theorem timetableLoad (t : Nat) (h : Hdr) (body : List Byte) : Statement (.timetableLoad t h body) :=
  of_some rfl (fun w => left0 w) (by simp) (by simp)
theorem timetableSwitch (t : Nat) (h : Hdr) (tt : Nat) : Statement (.timetableSwitch t h tt) :=
  of_some rfl (fun w => left1 w) (by simp) (by simp)
theorem bistRun (t : Nat) (h : Hdr) (scope : Nat) : Statement (.bistRun t h scope) :=
  of_some rfl (fun w => left1 w) (by simp) (by simp)
theorem lifecycleAdvance (t : Nat) (h : Hdr) (target : Nat) (body : List Byte) : Statement (.lifecycleAdvance t h target body) :=
  of_some rfl (fun w => left1 w) (by simp) (by simp)
theorem debugChallenge (t : Nat) (h : Hdr) (kind : Nat) : Statement (.debugChallenge t h kind) :=
  of_some rfl (fun w => left1 w) (by simp) (by simp)
theorem debugResponse (t : Nat) (h : Hdr) (body : List Byte) : Statement (.debugResponse t h body) :=
  of_some rfl (fun w => left0 w) (by simp) (by simp)
theorem fwUpdateBegin (t : Nat) (h : Hdr) (len version : Nat) : Statement (.fwUpdateBegin t h len version) :=
  of_some rfl (fun w => left2 w) (by simp) (by simp)
theorem fwUpdateData (t : Nat) (h : Hdr) (ofs : Nat) (body : List Byte) : Statement (.fwUpdateData t h ofs body) :=
  of_some rfl (fun w => left1 w) (by simp) (by simp)
theorem fwUpdateEnd (t : Nat) (h : Hdr) (activate : Nat) : Statement (.fwUpdateEnd t h activate) :=
  of_some rfl (fun w => left1 w) (by simp) (by simp)
theorem safetyConfig (t : Nat) (h : Hdr) (body : List Byte) : Statement (.safetyConfig t h body) :=
  of_some rfl (fun w => left0 w) (by simp) (by simp)
theorem reqProdWrite (t : Nat) (port : HostPort) (ring : Fin 4) (v : Word16) : Statement (.reqProdWrite t port ring v) := of_none rfl
theorem rspConsWrite (t : Nat) (port : HostPort) (ring : Fin 4) (v : Word16) : Statement (.rspConsWrite t port ring v) := of_none rfl
theorem evtConsWrite (t : Nat) (port : HostPort) (v : Word16) : Statement (.evtConsWrite t port v) := of_none rfl
theorem heartbeatWrite (t : Nat) (port : HostPort) (v : Word32) : Statement (.heartbeatWrite t port v) := of_none rfl
theorem hostSilent (t : Nat) : Statement (.hostSilent t) := of_none rfl
theorem evtRegisterRead (t : Nat) (port : HostPort) : Statement (.evtRegisterRead t port) := of_none rfl
theorem hostErrRead (t : Nat) (port : HostPort) : Statement (.hostErrRead t port) := of_none rfl
theorem fldCntRead (t : Nat) (port : HostPort) : Statement (.fldCntRead t port) := of_none rfl
theorem canStatRead (t : Nat) (port : HostPort) (ch : Fin 2) : Statement (.canStatRead t port ch) := of_none rfl
theorem fldOutWrite (t : Nat) (port : HostPort) (v : Word32) : Statement (.fldOutWrite t port v) := of_none rfl
theorem objStatClear (t : Nat) (port : HostPort) (v : Byte) : Statement (.objStatClear t port v) := of_none rfl
theorem txReq (t : Nat) (port : HostPort) : Statement (.txReq t port) := of_none rfl
theorem registerWrite (t : Nat) (port : HostPort) (addr : Word16) (bytes : List Byte) : Statement (.registerWrite t port addr bytes) := of_none rfl
theorem qspiFast (t : Nat) (addr : Word16) (n : Nat) (until_ : Nat) : Statement (.qspiFast t addr n until_) := of_none rfl
theorem qspiRead (t : Nat) (addr : Word16) (n : Nat) (until_ : Nat) : Statement (.qspiRead t addr n until_) := of_none rfl
theorem qspiWrite (t : Nat) (addr : Word16) (bytes : List Byte) : Statement (.qspiWrite t addr bytes) := of_none rfl
theorem qspiUnknownCommand (t : Nat) (cmd : Byte) : Statement (.qspiUnknownCommand t cmd) := of_none rfl
theorem ethWindowRead (t : Nat) (f : EthFrame) : Statement (.ethWindowRead t f) := of_none rfl
theorem ethWindowWrite (t : Nat) (f : EthFrame) : Statement (.ethWindowWrite t f) := of_none rfl
theorem ethFrameDiscard (t : Nat) (f : EthHead) : Statement (.ethFrameDiscard t f) := of_none rfl
theorem ethLink (t : Nat) (up : Bool) : Statement (.ethLink t up) := of_none rfl
theorem mailboxServicePass (p : ServicePass) : Statement (.mailboxServicePass p) := of_none rfl
theorem controlCycleStart (t : Nat) : Statement (.controlCycleStart t) := of_none rfl
theorem upstreamFrameRx (t : Nat) (ax : AxisId) (b : Burst) : Statement (.upstreamFrameRx t ax b) := of_none rfl
theorem upstreamDeadline (t : Nat) : Statement (.upstreamDeadline t) := of_none rfl
theorem lostFrameLimit (t : Nat) (ax : AxisId) : Statement (.lostFrameLimit t ax) := of_none rfl
theorem tileWindowOpen (t : Nat) (obs : TileObs) : Statement (.tileWindowOpen t obs) := of_none rfl
theorem tileWindowClose (t : Nat) (obs : TileObs) : Statement (.tileWindowClose t obs) := of_none rfl
theorem selfTestSliceDone (t : Nat) (txPass t4Pass : Bool) : Statement (.selfTestSliceDone t txPass t4Pass) := of_none rfl
theorem snapshotCopyDone (t : Nat) : Statement (.snapshotCopyDone t) := of_none rfl
theorem downstreamSend (t : Nat) (stamps : List Nat) : Statement (.downstreamSend t stamps) := of_none rfl
theorem fastStatusFlip (t : Nat) : Statement (.fastStatusFlip t) := of_none rfl
theorem cyclingStart (t : Nat) : Statement (.cyclingStart t) := of_none rfl
theorem applyPrepared (t : Nat) : Statement (.applyPrepared t) := of_none rfl
theorem applyTakeEffect (t : Nat) : Statement (.applyTakeEffect t) := of_none rfl
theorem applyPersistDone (t : Nat) (ok : Bool) : Statement (.applyPersistDone t ok) := of_none rfl
theorem fabricApplyDecision (t : Nat) : Statement (.fabricApplyDecision t) := of_none rfl
theorem fabricApplySwitch (t : Nat) : Statement (.fabricApplySwitch t) := of_none rfl
theorem modeSwitchCycle (t : Nat) (ax : AxisId) : Statement (.modeSwitchCycle t ax) := of_none rfl
theorem enableCycle (t : Nat) : Statement (.enableCycle t) := of_none rfl
theorem linkWakeRx (t : Nat) (ax : AxisId) (b : Burst) : Statement (.linkWakeRx t ax b) := of_none rfl
theorem linkTrainRx (t : Nat) (ax : AxisId) (b : Burst) : Statement (.linkTrainRx t ax b) := of_none rfl
theorem trainFail (t : Nat) (ax : AxisId) : Statement (.trainFail t ax) := of_none rfl
theorem measureDone (t : Nat) (ax : AxisId) : Statement (.measureDone t ax) := of_none rfl
theorem linkIdleExchange (t : Nat) (ax : AxisId) (stamp : Nat) : Statement (.linkIdleExchange t ax stamp) := of_none rfl
theorem linkLost (t : Nat) (ax : AxisId) : Statement (.linkLost t ax) := of_none rfl
theorem eyeLow (t : Nat) (ax : AxisId) : Statement (.eyeLow t ax) := of_none rfl
theorem stoMismatch (t : Nat) (ax : AxisId) : Statement (.stoMismatch t ax) := of_none rfl
theorem tripClearTimeout (t : Nat) (ax : AxisId) : Statement (.tripClearTimeout t ax) := of_none rfl
theorem idBound (t : Nat) (ax : AxisId) : Statement (.idBound t ax) := of_none rfl
theorem stepperHoldReduce (t : Nat) (ax : AxisId) : Statement (.stepperHoldReduce t ax) := of_none rfl
theorem moveStartAtDue (t : Nat) (tgt : Nat) : Statement (.moveStartAtDue t tgt) := of_none rfl
theorem jogTimeout (t : Nat) (ax : AxisId) : Statement (.jogTimeout t ax) := of_none rfl
theorem standstill (t : Nat) (ax : AxisId) : Statement (.standstill t ax) := of_none rfl
theorem stopTimeout (t : Nat) (ax : AxisId) : Statement (.stopTimeout t ax) := of_none rfl
theorem homePhaseEnd (t : Nat) (ax : AxisId) : Statement (.homePhaseEnd t ax) := of_none rfl
theorem homePressed (t : Nat) (ax : AxisId) : Statement (.homePressed t ax) := of_none rfl
theorem limitDebounce (t : Nat) (ax : AxisId) (sw : SwitchSel) : Statement (.limitDebounce t ax sw) := of_none rfl
theorem chatterEnd (t : Nat) (ax : AxisId) (sw : SwitchSel) : Statement (.chatterEnd t ax sw) := of_none rfl
theorem emulatorEdge (t : Nat) : Statement (.emulatorEdge t) := of_none rfl
theorem tilePowered (t : Nat) (tile : Fin 5) : Statement (.tilePowered t tile) := of_none rfl
theorem tideDecision (t : Nat) (tide : TideId) : Statement (.tideDecision t tide) := of_none rfl
theorem tideSwitch (t : Nat) (tide : TideId) : Statement (.tideSwitch t tide) := of_none rfl
theorem tideAdopt (t : Nat) (tide : TideId) : Statement (.tideAdopt t tide) := of_none rfl
theorem tideStale (t : Nat) (tide : TideId) : Statement (.tideStale t tide) := of_none rfl
theorem masterStale (t : Nat) (ax : AxisId) : Statement (.masterStale t ax) := of_none rfl
theorem gearEngageBegin (t : Nat) (ax : AxisId) : Statement (.gearEngageBegin t ax) := of_none rfl
theorem gearSynced (t : Nat) (ax : AxisId) : Statement (.gearSynced t ax) := of_none rfl
theorem fabricCycleStart (t : Nat) : Statement (.fabricCycleStart t) := of_none rfl
theorem berthLaunch (t : Nat) (berth : Nat) : Statement (.berthLaunch t berth) := of_none rfl
theorem berthFrameRx (t : Nat) (port : PortId) (f : CFrame) : Statement (.berthFrameRx t port f) := of_none rfl
theorem clockSyncUpdate (t : Nat) : Statement (.clockSyncUpdate t) := of_none rfl
theorem noSource (t : Nat) : Statement (.noSource t) := of_none rfl
theorem syncLost (t : Nat) : Statement (.syncLost t) := of_none rfl
theorem silentReturn (t : Nat) : Statement (.silentReturn t) := of_none rfl
theorem joinComplete (t : Nat) : Statement (.joinComplete t) := of_none rfl
theorem nodesLost (t : Nat) : Statement (.nodesLost t) := of_none rfl
theorem portLock (t : Nat) (port : PortId) : Statement (.portLock t port) := of_none rfl
theorem linkDown (t : Nat) (port : PortId) (why : PortLoss) : Statement (.linkDown t port why) := of_none rfl
theorem probeSend (t : Nat) (port : PortId) (stamp : Nat) : Statement (.probeSend t port stamp) := of_none rfl
theorem probeRx (t : Nat) (port : PortId) (f : CFrame) : Statement (.probeRx t port f) := of_none rfl
theorem coldstartEntry (t : Nat) : Statement (.coldstartEntry t) := of_none rfl
theorem coldstartSend (t : Nat) : Statement (.coldstartSend t) := of_none rfl
theorem coldstartRx (t : Nat) (port : PortId) (f : CFrame) : Statement (.coldstartRx t port f) := of_none rfl
theorem censusRx (t : Nat) (port : PortId) (f : CFrame) : Statement (.censusRx t port f) := of_none rfl
theorem censusReturn (t : Nat) (f : CFrame) : Statement (.censusReturn t f) := of_none rfl
theorem assignRx (t : Nat) (port : PortId) (f : CFrame) : Statement (.assignRx t port f) := of_none rfl
theorem autoDiscovery (t : Nat) : Statement (.autoDiscovery t) := of_none rfl
theorem startFrameRx (t : Nat) (port : PortId) (f : CFrame) : Statement (.startFrameRx t port f) := of_none rfl
theorem timetableSwitchAt (t : Nat) : Statement (.timetableSwitchAt t) := of_none rfl
theorem ferrySegmentRx (t : Nat) (payload : List Byte) : Statement (.ferrySegmentRx t payload) := of_none rfl
theorem ferryRetransmit (t : Nat) (msg seg : Nat) : Statement (.ferryRetransmit t msg seg) := of_none rfl
theorem timetableRepeat (t : Nat) : Statement (.timetableRepeat t) := of_none rfl
theorem timetableLoadTimeout (t : Nat) : Statement (.timetableLoadTimeout t) := of_none rfl
theorem ptpMessageRx (t : Nat) (m : PtpMsg) : Statement (.ptpMessageRx t m) := of_none rfl
theorem ptpMessageSend (t : Nat) (k : PtpKind) : Statement (.ptpMessageSend t k) := of_none rfl
theorem ptpLost (t : Nat) : Statement (.ptpLost t) := of_none rfl
theorem ppsiEdge (t : Nat) : Statement (.ppsiEdge t) := of_none rfl
theorem ntRecordSend (t : Nat) : Statement (.ntRecordSend t) := of_none rfl
theorem ntRecordApply (t : Nat) : Statement (.ntRecordApply t) := of_none rfl
theorem ntHoldover (t : Nat) : Statement (.ntHoldover t) := of_none rfl
theorem keepSecondsCorrect (t : Nat) : Statement (.keepSecondsCorrect t) := of_none rfl
theorem tqEdge (t : Nat) (ch : Fin 4) : Statement (.tqEdge t ch) := of_none rfl
theorem ppsoEdge (t : Nat) : Statement (.ppsoEdge t) := of_none rfl
theorem clockCheck (t : Nat) (rel : ClockRel) (ppm : Int) (stopped : Bool) : Statement (.clockCheck t rel ppm stopped) := of_none rfl
theorem pllUnlock (t : Nat) (pll : Fin 14) : Statement (.pllUnlock t pll) := of_none rfl
theorem injectionWindowEnd (t : Nat) (slot : Nat) : Statement (.injectionWindowEnd t slot) := of_none rfl
theorem safetyExchangeFrame (t : Nat) (f : SafetyFrame) : Statement (.safetyExchangeFrame t f) := of_none rfl
theorem safeInputFilter (t : Nat) (path : SPath) (input : Fin 8) (level : Bool) : Statement (.safeInputFilter t path input level) := of_none rfl
theorem testPulse (t : Nat) (tp : Fin 2) (low : Bool) (readings : Byte) : Statement (.testPulse t tp low readings) := of_none rfl
theorem discrepancy (t : Nat) (path : SPath) (pair : Fin 4) : Statement (.discrepancy t path pair) := of_none rfl
theorem ss1TimerEnd (t : Nat) (path : SPath) : Statement (.ss1TimerEnd t path) := of_none rfl
theorem resetRelease (t : Nat) (path : SPath) : Statement (.resetRelease t path) := of_none rfl
theorem soReadback (t : Nat) (path : SPath) (out : SOut) : Statement (.soReadback t path out) := of_none rfl
theorem safeMessageSend (t : Nat) : Statement (.safeMessageSend t) := of_none rfl
theorem safeMessageRx (t : Nat) (net : SNet) (body : List Byte) : Statement (.safeMessageRx t net body) := of_none rfl
theorem msgWatchdog (t : Nat) (sub : Fin 8) (net : SNet) : Statement (.msgWatchdog t sub net) := of_none rfl
theorem safetyConfigDone (t : Nat) (procCrc logicCrc : Nat) : Statement (.safetyConfigDone t procCrc logicCrc) := of_none rfl
theorem diEdge (t : Nat) (input : Fin 16) (level : Bool) : Statement (.diEdge t input level) := of_none rfl
theorem diFilterExpiry (t : Nat) (input : Fin 16) : Statement (.diFilterExpiry t input) := of_none rfl
theorem wireBreak (t : Nat) (input : Fin 16) (broken : Bool) : Statement (.wireBreak t input broken) := of_none rfl
theorem fieldLinkDownFrame (t : Nat) : Statement (.fieldLinkDownFrame t) := of_none rfl
theorem fieldLinkUpFrame (t : Nat) (f : FieldUp) : Statement (.fieldLinkUpFrame t f) := of_none rfl
theorem fieldSilent (t : Nat) : Statement (.fieldSilent t) := of_none rfl
theorem fieldDownSilence (t : Nat) : Statement (.fieldDownSilence t) := of_none rfl
theorem vfldSag (t : Nat) : Statement (.vfldSag t) := of_none rfl
theorem vfldRestore (t : Nat) : Statement (.vfldRestore t) := of_none rfl
theorem dqOverload (t : Nat) (o : Fin 8) : Statement (.dqOverload t o) := of_none rfl
theorem dqExternal (t : Nat) (o : Fin 8) : Statement (.dqExternal t o) := of_none rfl
theorem openLoad (t : Nat) (o : Fin 8) : Statement (.openLoad t o) := of_none rfl
theorem canFrameRx (t : Nat) (ch : Fin 2) (f : CanFrame) : Statement (.canFrameRx t ch f) := of_none rfl
theorem canTxDone (t : Nat) (ch : Fin 2) (obj : Fin 128) (ok : Bool) (sof : Nat) : Statement (.canTxDone t ch obj ok sof) := of_none rfl
theorem canPeriodicDue (t : Nat) (ch : Fin 2) (obj : Fin 128) : Statement (.canPeriodicDue t ch obj) := of_none rfl
theorem canBusError (t : Nat) (ch : Fin 2) (e : CanError) : Statement (.canBusError t ch e) := of_none rfl
theorem busOffRecovery (t : Nat) (ch : Fin 2) : Statement (.busOffRecovery t ch) := of_none rfl
theorem recorderFreeze (t : Nat) : Statement (.recorderFreeze t) := of_none rfl
theorem replayDone (t : Nat) : Statement (.replayDone t) := of_none rfl
theorem bistDone (t : Nat) (countOk sigOk : Bool) : Statement (.bistDone t countOk sigOk) := of_none rfl
theorem lifecycleProgrammed (t : Nat) : Statement (.lifecycleProgrammed t) := of_none rfl
theorem lifecycleReset (t : Nat) (boot : BootObs) : Statement (.lifecycleReset t boot) := of_none rfl
theorem debugNonceExpire (t : Nat) : Statement (.debugNonceExpire t) := of_none rfl
theorem debugAuthDelay (t : Nat) : Statement (.debugAuthDelay t) := of_none rfl
theorem fwTrialReadyTimeout (t : Nat) (boot : BootObs) : Statement (.fwTrialReadyTimeout t boot) := of_none rfl
theorem fwTrialEnd (t : Nat) : Statement (.fwTrialEnd t) := of_none rfl
theorem ageingMeasure (t : Nat) (readings : List Int) : Statement (.ageingMeasure t readings) := of_none rfl
theorem marginReplan (t : Nat) (readings : List (List Int)) : Statement (.marginReplan t readings) := of_none rfl
theorem powerUp (t : Nat) (boot : BootObs) : Statement (.powerUp t boot) := of_none rfl
theorem vsysLow (t : Nat) (mv : Nat) : Statement (.vsysLow t mv) := of_none rfl
theorem vsysLowClear (t : Nat) (mv : Nat) : Statement (.vsysLowClear t mv) := of_none rfl
theorem shutdown (t : Nat) (mv : Nat) : Statement (.shutdown t mv) := of_none rfl
theorem rstNLow (t : Nat) : Statement (.rstNLow t) := of_none rfl
theorem rstNHigh (t : Nat) (boot : BootObs) : Statement (.rstNHigh t boot) := of_none rfl
theorem domainLost (t : Nat) (d : Domain) : Statement (.domainLost t d) := of_none rfl
theorem vbakCheck (t : Nat) (mv : Nat) : Statement (.vbakCheck t mv) := of_none rfl
theorem tempThreshold (t : Nat) (deci : Int) : Statement (.tempThreshold t deci) := of_none rfl
theorem supWatchdog (t : Nat) (boot : BootObs) : Statement (.supWatchdog t boot) := of_none rfl
theorem pllLockRegained (t : Nat) (pll : Fin 14) : Statement (.pllLockRegained t pll) := of_none rfl
theorem safetyExchangeAbsence (t : Nat) : Statement (.safetyExchangeAbsence t) := of_none rfl
theorem coldSpareSelfTest (t : Nat) (pass : Bool) : Statement (.coldSpareSelfTest t pass) := of_none rfl
theorem dqOverloadCleared (t : Nat) (o : Fin 8) : Statement (.dqOverloadCleared t o) := of_none rfl
theorem dqExternalCleared (t : Nat) (o : Fin 8) : Statement (.dqExternalCleared t o) := of_none rfl
theorem canBusIntegration (t : Nat) (ch : Fin 2) : Statement (.canBusIntegration t ch) := of_none rfl

end Sys2Proof.Laws.RequestForm
end

