-- ==== Sys2Proof/Laws/State.lean ====
section
/-! SUPPORT. What the named updates of the state leave: one lemma per update and field, so that a proof need not unfold a record
update; and what a part reads after its own update and after another's. -/

namespace Sys2Proof.Machine

variable (s : State)

@[simp] theorem State.begin_pending (t : Nat) : (s.begin t).pending = s.pending := rfl
@[simp] theorem State.begin_free (t : Nat) : (s.begin t).free = s.free := rfl
@[simp] theorem State.begin_power (t : Nat) : (s.begin t).power = s.power := rfl
@[simp] theorem State.begin_prm (t : Nat) : (s.begin t).prm = s.prm := rfl
@[simp] theorem State.begin_host (t : Nat) : (s.begin t).host = s.host := rfl
@[simp] theorem State.begin_flt (t : Nat) : (s.begin t).flt = s.flt := rfl
@[simp] theorem State.begin_cyc (t : Nat) : (s.begin t).cyc = s.cyc := rfl
@[simp] theorem State.begin_axes (t : Nat) : (s.begin t).axes = s.axes := rfl
@[simp] theorem State.begin_grps (t : Nat) : (s.begin t).grps = s.grps := rfl
@[simp] theorem State.begin_tides (t : Nat) : (s.begin t).tides = s.tides := rfl
@[simp] theorem State.begin_cams (t : Nat) : (s.begin t).cams = s.cams := rfl
@[simp] theorem State.begin_tiles (t : Nat) : (s.begin t).tiles = s.tiles := rfl
@[simp] theorem State.begin_fab (t : Nat) : (s.begin t).fab = s.fab := rfl
@[simp] theorem State.begin_safe (t : Nat) : (s.begin t).safe = s.safe := rfl
@[simp] theorem State.begin_fld (t : Nat) : (s.begin t).fld = s.fld := rfl
@[simp] theorem State.begin_can (t : Nat) : (s.begin t).can = s.can := rfl
@[simp] theorem State.begin_acq (t : Nat) : (s.begin t).acq = s.acq := rfl
@[simp] theorem State.begin_rcd (t : Nat) : (s.begin t).rcd = s.rcd := rfl
@[simp] theorem State.begin_life (t : Nat) : (s.begin t).life = s.life := rfl
@[simp] theorem State.begin_age (t : Nat) : (s.begin t).age = s.age := rfl
@[simp] theorem State.begin_emu (t : Nat) : (s.begin t).emu = s.emu := rfl

@[simp] theorem State.modAxis_pending (a : AxisId) (f : Axis → Axis) : (s.modAxis a f).pending = s.pending := rfl
@[simp] theorem State.modAxis_free (a : AxisId) (f : Axis → Axis) : (s.modAxis a f).free = s.free := rfl
@[simp] theorem State.modAxis_time (a : AxisId) (f : Axis → Axis) : (s.modAxis a f).time = s.time := rfl
@[simp] theorem State.modAxis_power (a : AxisId) (f : Axis → Axis) : (s.modAxis a f).power = s.power := rfl
@[simp] theorem State.modAxis_prm (a : AxisId) (f : Axis → Axis) : (s.modAxis a f).prm = s.prm := rfl
@[simp] theorem State.modAxis_host (a : AxisId) (f : Axis → Axis) : (s.modAxis a f).host = s.host := rfl
@[simp] theorem State.modAxis_out (a : AxisId) (f : Axis → Axis) : (s.modAxis a f).out = s.out := rfl
@[simp] theorem State.modAxis_flt (a : AxisId) (f : Axis → Axis) : (s.modAxis a f).flt = s.flt := rfl
@[simp] theorem State.modAxis_cyc (a : AxisId) (f : Axis → Axis) : (s.modAxis a f).cyc = s.cyc := rfl
@[simp] theorem State.modAxis_grps (a : AxisId) (f : Axis → Axis) : (s.modAxis a f).grps = s.grps := rfl
@[simp] theorem State.modAxis_tides (a : AxisId) (f : Axis → Axis) : (s.modAxis a f).tides = s.tides := rfl
@[simp] theorem State.modAxis_cams (a : AxisId) (f : Axis → Axis) : (s.modAxis a f).cams = s.cams := rfl
@[simp] theorem State.modAxis_tiles (a : AxisId) (f : Axis → Axis) : (s.modAxis a f).tiles = s.tiles := rfl
@[simp] theorem State.modAxis_fab (a : AxisId) (f : Axis → Axis) : (s.modAxis a f).fab = s.fab := rfl
@[simp] theorem State.modAxis_safe (a : AxisId) (f : Axis → Axis) : (s.modAxis a f).safe = s.safe := rfl
@[simp] theorem State.modAxis_fld (a : AxisId) (f : Axis → Axis) : (s.modAxis a f).fld = s.fld := rfl
@[simp] theorem State.modAxis_can (a : AxisId) (f : Axis → Axis) : (s.modAxis a f).can = s.can := rfl
@[simp] theorem State.modAxis_acq (a : AxisId) (f : Axis → Axis) : (s.modAxis a f).acq = s.acq := rfl
@[simp] theorem State.modAxis_rcd (a : AxisId) (f : Axis → Axis) : (s.modAxis a f).rcd = s.rcd := rfl
@[simp] theorem State.modAxis_life (a : AxisId) (f : Axis → Axis) : (s.modAxis a f).life = s.life := rfl
@[simp] theorem State.modAxis_age (a : AxisId) (f : Axis → Axis) : (s.modAxis a f).age = s.age := rfl
@[simp] theorem State.modAxis_emu (a : AxisId) (f : Axis → Axis) : (s.modAxis a f).emu = s.emu := rfl

@[simp] theorem State.modLink_pending (a : AxisId) (f : Link → Link) : (s.modLink a f).pending = s.pending := rfl
@[simp] theorem State.modLink_free (a : AxisId) (f : Link → Link) : (s.modLink a f).free = s.free := rfl
@[simp] theorem State.modLink_time (a : AxisId) (f : Link → Link) : (s.modLink a f).time = s.time := rfl
@[simp] theorem State.modLink_power (a : AxisId) (f : Link → Link) : (s.modLink a f).power = s.power := rfl
@[simp] theorem State.modLink_prm (a : AxisId) (f : Link → Link) : (s.modLink a f).prm = s.prm := rfl
@[simp] theorem State.modLink_host (a : AxisId) (f : Link → Link) : (s.modLink a f).host = s.host := rfl
@[simp] theorem State.modLink_out (a : AxisId) (f : Link → Link) : (s.modLink a f).out = s.out := rfl
@[simp] theorem State.modLink_flt (a : AxisId) (f : Link → Link) : (s.modLink a f).flt = s.flt := rfl
@[simp] theorem State.modLink_cyc (a : AxisId) (f : Link → Link) : (s.modLink a f).cyc = s.cyc := rfl
@[simp] theorem State.modLink_grps (a : AxisId) (f : Link → Link) : (s.modLink a f).grps = s.grps := rfl
@[simp] theorem State.modLink_tides (a : AxisId) (f : Link → Link) : (s.modLink a f).tides = s.tides := rfl
@[simp] theorem State.modLink_cams (a : AxisId) (f : Link → Link) : (s.modLink a f).cams = s.cams := rfl
@[simp] theorem State.modLink_tiles (a : AxisId) (f : Link → Link) : (s.modLink a f).tiles = s.tiles := rfl
@[simp] theorem State.modLink_fab (a : AxisId) (f : Link → Link) : (s.modLink a f).fab = s.fab := rfl
@[simp] theorem State.modLink_safe (a : AxisId) (f : Link → Link) : (s.modLink a f).safe = s.safe := rfl
@[simp] theorem State.modLink_fld (a : AxisId) (f : Link → Link) : (s.modLink a f).fld = s.fld := rfl
@[simp] theorem State.modLink_can (a : AxisId) (f : Link → Link) : (s.modLink a f).can = s.can := rfl
@[simp] theorem State.modLink_acq (a : AxisId) (f : Link → Link) : (s.modLink a f).acq = s.acq := rfl
@[simp] theorem State.modLink_rcd (a : AxisId) (f : Link → Link) : (s.modLink a f).rcd = s.rcd := rfl
@[simp] theorem State.modLink_life (a : AxisId) (f : Link → Link) : (s.modLink a f).life = s.life := rfl
@[simp] theorem State.modLink_age (a : AxisId) (f : Link → Link) : (s.modLink a f).age = s.age := rfl
@[simp] theorem State.modLink_emu (a : AxisId) (f : Link → Link) : (s.modLink a f).emu = s.emu := rfl

@[simp] theorem State.modProf_pending (a : AxisId) (f : Prof → Prof) : (s.modProf a f).pending = s.pending := rfl
@[simp] theorem State.modProf_free (a : AxisId) (f : Prof → Prof) : (s.modProf a f).free = s.free := rfl
@[simp] theorem State.modProf_time (a : AxisId) (f : Prof → Prof) : (s.modProf a f).time = s.time := rfl
@[simp] theorem State.modProf_power (a : AxisId) (f : Prof → Prof) : (s.modProf a f).power = s.power := rfl
@[simp] theorem State.modProf_prm (a : AxisId) (f : Prof → Prof) : (s.modProf a f).prm = s.prm := rfl
@[simp] theorem State.modProf_host (a : AxisId) (f : Prof → Prof) : (s.modProf a f).host = s.host := rfl
@[simp] theorem State.modProf_out (a : AxisId) (f : Prof → Prof) : (s.modProf a f).out = s.out := rfl
@[simp] theorem State.modProf_flt (a : AxisId) (f : Prof → Prof) : (s.modProf a f).flt = s.flt := rfl
@[simp] theorem State.modProf_cyc (a : AxisId) (f : Prof → Prof) : (s.modProf a f).cyc = s.cyc := rfl
@[simp] theorem State.modProf_grps (a : AxisId) (f : Prof → Prof) : (s.modProf a f).grps = s.grps := rfl
@[simp] theorem State.modProf_tides (a : AxisId) (f : Prof → Prof) : (s.modProf a f).tides = s.tides := rfl
@[simp] theorem State.modProf_cams (a : AxisId) (f : Prof → Prof) : (s.modProf a f).cams = s.cams := rfl
@[simp] theorem State.modProf_tiles (a : AxisId) (f : Prof → Prof) : (s.modProf a f).tiles = s.tiles := rfl
@[simp] theorem State.modProf_fab (a : AxisId) (f : Prof → Prof) : (s.modProf a f).fab = s.fab := rfl
@[simp] theorem State.modProf_safe (a : AxisId) (f : Prof → Prof) : (s.modProf a f).safe = s.safe := rfl
@[simp] theorem State.modProf_fld (a : AxisId) (f : Prof → Prof) : (s.modProf a f).fld = s.fld := rfl
@[simp] theorem State.modProf_can (a : AxisId) (f : Prof → Prof) : (s.modProf a f).can = s.can := rfl
@[simp] theorem State.modProf_acq (a : AxisId) (f : Prof → Prof) : (s.modProf a f).acq = s.acq := rfl
@[simp] theorem State.modProf_rcd (a : AxisId) (f : Prof → Prof) : (s.modProf a f).rcd = s.rcd := rfl
@[simp] theorem State.modProf_life (a : AxisId) (f : Prof → Prof) : (s.modProf a f).life = s.life := rfl
@[simp] theorem State.modProf_age (a : AxisId) (f : Prof → Prof) : (s.modProf a f).age = s.age := rfl
@[simp] theorem State.modProf_emu (a : AxisId) (f : Prof → Prof) : (s.modProf a f).emu = s.emu := rfl

@[simp] theorem State.modGrp_pending (g : Fin 8) (f : Group → Group) : (s.modGrp g f).pending = s.pending := rfl
@[simp] theorem State.modGrp_free (g : Fin 8) (f : Group → Group) : (s.modGrp g f).free = s.free := rfl
@[simp] theorem State.modGrp_time (g : Fin 8) (f : Group → Group) : (s.modGrp g f).time = s.time := rfl
@[simp] theorem State.modGrp_power (g : Fin 8) (f : Group → Group) : (s.modGrp g f).power = s.power := rfl
@[simp] theorem State.modGrp_prm (g : Fin 8) (f : Group → Group) : (s.modGrp g f).prm = s.prm := rfl
@[simp] theorem State.modGrp_host (g : Fin 8) (f : Group → Group) : (s.modGrp g f).host = s.host := rfl
@[simp] theorem State.modGrp_out (g : Fin 8) (f : Group → Group) : (s.modGrp g f).out = s.out := rfl
@[simp] theorem State.modGrp_flt (g : Fin 8) (f : Group → Group) : (s.modGrp g f).flt = s.flt := rfl
@[simp] theorem State.modGrp_cyc (g : Fin 8) (f : Group → Group) : (s.modGrp g f).cyc = s.cyc := rfl
@[simp] theorem State.modGrp_axes (g : Fin 8) (f : Group → Group) : (s.modGrp g f).axes = s.axes := rfl
@[simp] theorem State.modGrp_tides (g : Fin 8) (f : Group → Group) : (s.modGrp g f).tides = s.tides := rfl
@[simp] theorem State.modGrp_cams (g : Fin 8) (f : Group → Group) : (s.modGrp g f).cams = s.cams := rfl
@[simp] theorem State.modGrp_tiles (g : Fin 8) (f : Group → Group) : (s.modGrp g f).tiles = s.tiles := rfl
@[simp] theorem State.modGrp_fab (g : Fin 8) (f : Group → Group) : (s.modGrp g f).fab = s.fab := rfl
@[simp] theorem State.modGrp_safe (g : Fin 8) (f : Group → Group) : (s.modGrp g f).safe = s.safe := rfl
@[simp] theorem State.modGrp_fld (g : Fin 8) (f : Group → Group) : (s.modGrp g f).fld = s.fld := rfl
@[simp] theorem State.modGrp_can (g : Fin 8) (f : Group → Group) : (s.modGrp g f).can = s.can := rfl
@[simp] theorem State.modGrp_acq (g : Fin 8) (f : Group → Group) : (s.modGrp g f).acq = s.acq := rfl
@[simp] theorem State.modGrp_rcd (g : Fin 8) (f : Group → Group) : (s.modGrp g f).rcd = s.rcd := rfl
@[simp] theorem State.modGrp_life (g : Fin 8) (f : Group → Group) : (s.modGrp g f).life = s.life := rfl
@[simp] theorem State.modGrp_age (g : Fin 8) (f : Group → Group) : (s.modGrp g f).age = s.age := rfl
@[simp] theorem State.modGrp_emu (g : Fin 8) (f : Group → Group) : (s.modGrp g f).emu = s.emu := rfl

@[simp] theorem State.modTide_pending (i : TideId) (f : Tide → Tide) : (s.modTide i f).pending = s.pending := rfl
@[simp] theorem State.modTide_free (i : TideId) (f : Tide → Tide) : (s.modTide i f).free = s.free := rfl
@[simp] theorem State.modTide_time (i : TideId) (f : Tide → Tide) : (s.modTide i f).time = s.time := rfl
@[simp] theorem State.modTide_power (i : TideId) (f : Tide → Tide) : (s.modTide i f).power = s.power := rfl
@[simp] theorem State.modTide_prm (i : TideId) (f : Tide → Tide) : (s.modTide i f).prm = s.prm := rfl
@[simp] theorem State.modTide_host (i : TideId) (f : Tide → Tide) : (s.modTide i f).host = s.host := rfl
@[simp] theorem State.modTide_out (i : TideId) (f : Tide → Tide) : (s.modTide i f).out = s.out := rfl
@[simp] theorem State.modTide_flt (i : TideId) (f : Tide → Tide) : (s.modTide i f).flt = s.flt := rfl
@[simp] theorem State.modTide_cyc (i : TideId) (f : Tide → Tide) : (s.modTide i f).cyc = s.cyc := rfl
@[simp] theorem State.modTide_axes (i : TideId) (f : Tide → Tide) : (s.modTide i f).axes = s.axes := rfl
@[simp] theorem State.modTide_grps (i : TideId) (f : Tide → Tide) : (s.modTide i f).grps = s.grps := rfl
@[simp] theorem State.modTide_cams (i : TideId) (f : Tide → Tide) : (s.modTide i f).cams = s.cams := rfl
@[simp] theorem State.modTide_tiles (i : TideId) (f : Tide → Tide) : (s.modTide i f).tiles = s.tiles := rfl
@[simp] theorem State.modTide_fab (i : TideId) (f : Tide → Tide) : (s.modTide i f).fab = s.fab := rfl
@[simp] theorem State.modTide_safe (i : TideId) (f : Tide → Tide) : (s.modTide i f).safe = s.safe := rfl
@[simp] theorem State.modTide_fld (i : TideId) (f : Tide → Tide) : (s.modTide i f).fld = s.fld := rfl
@[simp] theorem State.modTide_can (i : TideId) (f : Tide → Tide) : (s.modTide i f).can = s.can := rfl
@[simp] theorem State.modTide_acq (i : TideId) (f : Tide → Tide) : (s.modTide i f).acq = s.acq := rfl
@[simp] theorem State.modTide_rcd (i : TideId) (f : Tide → Tide) : (s.modTide i f).rcd = s.rcd := rfl
@[simp] theorem State.modTide_life (i : TideId) (f : Tide → Tide) : (s.modTide i f).life = s.life := rfl
@[simp] theorem State.modTide_age (i : TideId) (f : Tide → Tide) : (s.modTide i f).age = s.age := rfl
@[simp] theorem State.modTide_emu (i : TideId) (f : Tide → Tide) : (s.modTide i f).emu = s.emu := rfl

@[simp] theorem State.modCan_pending (c : Fin 2) (f : CanChan → CanChan) : (s.modCan c f).pending = s.pending := rfl
@[simp] theorem State.modCan_free (c : Fin 2) (f : CanChan → CanChan) : (s.modCan c f).free = s.free := rfl
@[simp] theorem State.modCan_time (c : Fin 2) (f : CanChan → CanChan) : (s.modCan c f).time = s.time := rfl
@[simp] theorem State.modCan_power (c : Fin 2) (f : CanChan → CanChan) : (s.modCan c f).power = s.power := rfl
@[simp] theorem State.modCan_prm (c : Fin 2) (f : CanChan → CanChan) : (s.modCan c f).prm = s.prm := rfl
@[simp] theorem State.modCan_host (c : Fin 2) (f : CanChan → CanChan) : (s.modCan c f).host = s.host := rfl
@[simp] theorem State.modCan_out (c : Fin 2) (f : CanChan → CanChan) : (s.modCan c f).out = s.out := rfl
@[simp] theorem State.modCan_flt (c : Fin 2) (f : CanChan → CanChan) : (s.modCan c f).flt = s.flt := rfl
@[simp] theorem State.modCan_cyc (c : Fin 2) (f : CanChan → CanChan) : (s.modCan c f).cyc = s.cyc := rfl
@[simp] theorem State.modCan_axes (c : Fin 2) (f : CanChan → CanChan) : (s.modCan c f).axes = s.axes := rfl
@[simp] theorem State.modCan_grps (c : Fin 2) (f : CanChan → CanChan) : (s.modCan c f).grps = s.grps := rfl
@[simp] theorem State.modCan_tides (c : Fin 2) (f : CanChan → CanChan) : (s.modCan c f).tides = s.tides := rfl
@[simp] theorem State.modCan_cams (c : Fin 2) (f : CanChan → CanChan) : (s.modCan c f).cams = s.cams := rfl
@[simp] theorem State.modCan_tiles (c : Fin 2) (f : CanChan → CanChan) : (s.modCan c f).tiles = s.tiles := rfl
@[simp] theorem State.modCan_fab (c : Fin 2) (f : CanChan → CanChan) : (s.modCan c f).fab = s.fab := rfl
@[simp] theorem State.modCan_safe (c : Fin 2) (f : CanChan → CanChan) : (s.modCan c f).safe = s.safe := rfl
@[simp] theorem State.modCan_fld (c : Fin 2) (f : CanChan → CanChan) : (s.modCan c f).fld = s.fld := rfl
@[simp] theorem State.modCan_acq (c : Fin 2) (f : CanChan → CanChan) : (s.modCan c f).acq = s.acq := rfl
@[simp] theorem State.modCan_rcd (c : Fin 2) (f : CanChan → CanChan) : (s.modCan c f).rcd = s.rcd := rfl
@[simp] theorem State.modCan_life (c : Fin 2) (f : CanChan → CanChan) : (s.modCan c f).life = s.life := rfl
@[simp] theorem State.modCan_age (c : Fin 2) (f : CanChan → CanChan) : (s.modCan c f).age = s.age := rfl
@[simp] theorem State.modCan_emu (c : Fin 2) (f : CanChan → CanChan) : (s.modCan c f).emu = s.emu := rfl

@[simp] theorem State.modPort_pending (i : PortId) (f : Port → Port) : (s.modPort i f).pending = s.pending := rfl
@[simp] theorem State.modPort_free (i : PortId) (f : Port → Port) : (s.modPort i f).free = s.free := rfl
@[simp] theorem State.modPort_time (i : PortId) (f : Port → Port) : (s.modPort i f).time = s.time := rfl
@[simp] theorem State.modPort_power (i : PortId) (f : Port → Port) : (s.modPort i f).power = s.power := rfl
@[simp] theorem State.modPort_prm (i : PortId) (f : Port → Port) : (s.modPort i f).prm = s.prm := rfl
@[simp] theorem State.modPort_host (i : PortId) (f : Port → Port) : (s.modPort i f).host = s.host := rfl
@[simp] theorem State.modPort_out (i : PortId) (f : Port → Port) : (s.modPort i f).out = s.out := rfl
@[simp] theorem State.modPort_flt (i : PortId) (f : Port → Port) : (s.modPort i f).flt = s.flt := rfl
@[simp] theorem State.modPort_cyc (i : PortId) (f : Port → Port) : (s.modPort i f).cyc = s.cyc := rfl
@[simp] theorem State.modPort_axes (i : PortId) (f : Port → Port) : (s.modPort i f).axes = s.axes := rfl
@[simp] theorem State.modPort_grps (i : PortId) (f : Port → Port) : (s.modPort i f).grps = s.grps := rfl
@[simp] theorem State.modPort_tides (i : PortId) (f : Port → Port) : (s.modPort i f).tides = s.tides := rfl
@[simp] theorem State.modPort_cams (i : PortId) (f : Port → Port) : (s.modPort i f).cams = s.cams := rfl
@[simp] theorem State.modPort_tiles (i : PortId) (f : Port → Port) : (s.modPort i f).tiles = s.tiles := rfl
@[simp] theorem State.modPort_safe (i : PortId) (f : Port → Port) : (s.modPort i f).safe = s.safe := rfl
@[simp] theorem State.modPort_fld (i : PortId) (f : Port → Port) : (s.modPort i f).fld = s.fld := rfl
@[simp] theorem State.modPort_can (i : PortId) (f : Port → Port) : (s.modPort i f).can = s.can := rfl
@[simp] theorem State.modPort_acq (i : PortId) (f : Port → Port) : (s.modPort i f).acq = s.acq := rfl
@[simp] theorem State.modPort_rcd (i : PortId) (f : Port → Port) : (s.modPort i f).rcd = s.rcd := rfl
@[simp] theorem State.modPort_life (i : PortId) (f : Port → Port) : (s.modPort i f).life = s.life := rfl
@[simp] theorem State.modPort_age (i : PortId) (f : Port → Port) : (s.modPort i f).age = s.age := rfl
@[simp] theorem State.modPort_emu (i : PortId) (f : Port → Port) : (s.modPort i f).emu = s.emu := rfl

@[simp] theorem State.modFab_pending (f : FabState → FabState) : (s.modFab f).pending = s.pending := rfl
@[simp] theorem State.modFab_free (f : FabState → FabState) : (s.modFab f).free = s.free := rfl
@[simp] theorem State.modFab_time (f : FabState → FabState) : (s.modFab f).time = s.time := rfl
@[simp] theorem State.modFab_power (f : FabState → FabState) : (s.modFab f).power = s.power := rfl
@[simp] theorem State.modFab_prm (f : FabState → FabState) : (s.modFab f).prm = s.prm := rfl
@[simp] theorem State.modFab_host (f : FabState → FabState) : (s.modFab f).host = s.host := rfl
@[simp] theorem State.modFab_out (f : FabState → FabState) : (s.modFab f).out = s.out := rfl
@[simp] theorem State.modFab_flt (f : FabState → FabState) : (s.modFab f).flt = s.flt := rfl
@[simp] theorem State.modFab_cyc (f : FabState → FabState) : (s.modFab f).cyc = s.cyc := rfl
@[simp] theorem State.modFab_axes (f : FabState → FabState) : (s.modFab f).axes = s.axes := rfl
@[simp] theorem State.modFab_grps (f : FabState → FabState) : (s.modFab f).grps = s.grps := rfl
@[simp] theorem State.modFab_tides (f : FabState → FabState) : (s.modFab f).tides = s.tides := rfl
@[simp] theorem State.modFab_cams (f : FabState → FabState) : (s.modFab f).cams = s.cams := rfl
@[simp] theorem State.modFab_tiles (f : FabState → FabState) : (s.modFab f).tiles = s.tiles := rfl
@[simp] theorem State.modFab_safe (f : FabState → FabState) : (s.modFab f).safe = s.safe := rfl
@[simp] theorem State.modFab_fld (f : FabState → FabState) : (s.modFab f).fld = s.fld := rfl
@[simp] theorem State.modFab_can (f : FabState → FabState) : (s.modFab f).can = s.can := rfl
@[simp] theorem State.modFab_acq (f : FabState → FabState) : (s.modFab f).acq = s.acq := rfl
@[simp] theorem State.modFab_rcd (f : FabState → FabState) : (s.modFab f).rcd = s.rcd := rfl
@[simp] theorem State.modFab_life (f : FabState → FabState) : (s.modFab f).life = s.life := rfl
@[simp] theorem State.modFab_age (f : FabState → FabState) : (s.modFab f).age = s.age := rfl
@[simp] theorem State.modFab_emu (f : FabState → FabState) : (s.modFab f).emu = s.emu := rfl

@[simp] theorem State.modTile_pending (i : Fin 5) (f : Tile → Tile) : (s.modTile i f).pending = s.pending := rfl
@[simp] theorem State.modTile_free (i : Fin 5) (f : Tile → Tile) : (s.modTile i f).free = s.free := rfl
@[simp] theorem State.modTile_time (i : Fin 5) (f : Tile → Tile) : (s.modTile i f).time = s.time := rfl
@[simp] theorem State.modTile_power (i : Fin 5) (f : Tile → Tile) : (s.modTile i f).power = s.power := rfl
@[simp] theorem State.modTile_prm (i : Fin 5) (f : Tile → Tile) : (s.modTile i f).prm = s.prm := rfl
@[simp] theorem State.modTile_host (i : Fin 5) (f : Tile → Tile) : (s.modTile i f).host = s.host := rfl
@[simp] theorem State.modTile_out (i : Fin 5) (f : Tile → Tile) : (s.modTile i f).out = s.out := rfl
@[simp] theorem State.modTile_flt (i : Fin 5) (f : Tile → Tile) : (s.modTile i f).flt = s.flt := rfl
@[simp] theorem State.modTile_cyc (i : Fin 5) (f : Tile → Tile) : (s.modTile i f).cyc = s.cyc := rfl
@[simp] theorem State.modTile_axes (i : Fin 5) (f : Tile → Tile) : (s.modTile i f).axes = s.axes := rfl
@[simp] theorem State.modTile_grps (i : Fin 5) (f : Tile → Tile) : (s.modTile i f).grps = s.grps := rfl
@[simp] theorem State.modTile_tides (i : Fin 5) (f : Tile → Tile) : (s.modTile i f).tides = s.tides := rfl
@[simp] theorem State.modTile_cams (i : Fin 5) (f : Tile → Tile) : (s.modTile i f).cams = s.cams := rfl
@[simp] theorem State.modTile_fab (i : Fin 5) (f : Tile → Tile) : (s.modTile i f).fab = s.fab := rfl
@[simp] theorem State.modTile_safe (i : Fin 5) (f : Tile → Tile) : (s.modTile i f).safe = s.safe := rfl
@[simp] theorem State.modTile_fld (i : Fin 5) (f : Tile → Tile) : (s.modTile i f).fld = s.fld := rfl
@[simp] theorem State.modTile_can (i : Fin 5) (f : Tile → Tile) : (s.modTile i f).can = s.can := rfl
@[simp] theorem State.modTile_acq (i : Fin 5) (f : Tile → Tile) : (s.modTile i f).acq = s.acq := rfl
@[simp] theorem State.modTile_rcd (i : Fin 5) (f : Tile → Tile) : (s.modTile i f).rcd = s.rcd := rfl
@[simp] theorem State.modTile_life (i : Fin 5) (f : Tile → Tile) : (s.modTile i f).life = s.life := rfl
@[simp] theorem State.modTile_age (i : Fin 5) (f : Tile → Tile) : (s.modTile i f).age = s.age := rfl
@[simp] theorem State.modTile_emu (i : Fin 5) (f : Tile → Tile) : (s.modTile i f).emu = s.emu := rfl

@[simp] theorem State.modDi_pending (i : Fin 16) (f : Di → Di) : (s.modDi i f).pending = s.pending := rfl
@[simp] theorem State.modDi_free (i : Fin 16) (f : Di → Di) : (s.modDi i f).free = s.free := rfl
@[simp] theorem State.modDi_time (i : Fin 16) (f : Di → Di) : (s.modDi i f).time = s.time := rfl
@[simp] theorem State.modDi_power (i : Fin 16) (f : Di → Di) : (s.modDi i f).power = s.power := rfl
@[simp] theorem State.modDi_prm (i : Fin 16) (f : Di → Di) : (s.modDi i f).prm = s.prm := rfl
@[simp] theorem State.modDi_host (i : Fin 16) (f : Di → Di) : (s.modDi i f).host = s.host := rfl
@[simp] theorem State.modDi_out (i : Fin 16) (f : Di → Di) : (s.modDi i f).out = s.out := rfl
@[simp] theorem State.modDi_flt (i : Fin 16) (f : Di → Di) : (s.modDi i f).flt = s.flt := rfl
@[simp] theorem State.modDi_cyc (i : Fin 16) (f : Di → Di) : (s.modDi i f).cyc = s.cyc := rfl
@[simp] theorem State.modDi_axes (i : Fin 16) (f : Di → Di) : (s.modDi i f).axes = s.axes := rfl
@[simp] theorem State.modDi_grps (i : Fin 16) (f : Di → Di) : (s.modDi i f).grps = s.grps := rfl
@[simp] theorem State.modDi_tides (i : Fin 16) (f : Di → Di) : (s.modDi i f).tides = s.tides := rfl
@[simp] theorem State.modDi_cams (i : Fin 16) (f : Di → Di) : (s.modDi i f).cams = s.cams := rfl
@[simp] theorem State.modDi_tiles (i : Fin 16) (f : Di → Di) : (s.modDi i f).tiles = s.tiles := rfl
@[simp] theorem State.modDi_fab (i : Fin 16) (f : Di → Di) : (s.modDi i f).fab = s.fab := rfl
@[simp] theorem State.modDi_safe (i : Fin 16) (f : Di → Di) : (s.modDi i f).safe = s.safe := rfl
@[simp] theorem State.modDi_can (i : Fin 16) (f : Di → Di) : (s.modDi i f).can = s.can := rfl
@[simp] theorem State.modDi_acq (i : Fin 16) (f : Di → Di) : (s.modDi i f).acq = s.acq := rfl
@[simp] theorem State.modDi_rcd (i : Fin 16) (f : Di → Di) : (s.modDi i f).rcd = s.rcd := rfl
@[simp] theorem State.modDi_life (i : Fin 16) (f : Di → Di) : (s.modDi i f).life = s.life := rfl
@[simp] theorem State.modDi_age (i : Fin 16) (f : Di → Di) : (s.modDi i f).age = s.age := rfl
@[simp] theorem State.modDi_emu (i : Fin 16) (f : Di → Di) : (s.modDi i f).emu = s.emu := rfl

@[simp] theorem State.modDq_pending (i : Fin 8) (f : Dq → Dq) : (s.modDq i f).pending = s.pending := rfl
@[simp] theorem State.modDq_free (i : Fin 8) (f : Dq → Dq) : (s.modDq i f).free = s.free := rfl
@[simp] theorem State.modDq_time (i : Fin 8) (f : Dq → Dq) : (s.modDq i f).time = s.time := rfl
@[simp] theorem State.modDq_power (i : Fin 8) (f : Dq → Dq) : (s.modDq i f).power = s.power := rfl
@[simp] theorem State.modDq_prm (i : Fin 8) (f : Dq → Dq) : (s.modDq i f).prm = s.prm := rfl
@[simp] theorem State.modDq_host (i : Fin 8) (f : Dq → Dq) : (s.modDq i f).host = s.host := rfl
@[simp] theorem State.modDq_out (i : Fin 8) (f : Dq → Dq) : (s.modDq i f).out = s.out := rfl
@[simp] theorem State.modDq_flt (i : Fin 8) (f : Dq → Dq) : (s.modDq i f).flt = s.flt := rfl
@[simp] theorem State.modDq_cyc (i : Fin 8) (f : Dq → Dq) : (s.modDq i f).cyc = s.cyc := rfl
@[simp] theorem State.modDq_axes (i : Fin 8) (f : Dq → Dq) : (s.modDq i f).axes = s.axes := rfl
@[simp] theorem State.modDq_grps (i : Fin 8) (f : Dq → Dq) : (s.modDq i f).grps = s.grps := rfl
@[simp] theorem State.modDq_tides (i : Fin 8) (f : Dq → Dq) : (s.modDq i f).tides = s.tides := rfl
@[simp] theorem State.modDq_cams (i : Fin 8) (f : Dq → Dq) : (s.modDq i f).cams = s.cams := rfl
@[simp] theorem State.modDq_tiles (i : Fin 8) (f : Dq → Dq) : (s.modDq i f).tiles = s.tiles := rfl
@[simp] theorem State.modDq_fab (i : Fin 8) (f : Dq → Dq) : (s.modDq i f).fab = s.fab := rfl
@[simp] theorem State.modDq_safe (i : Fin 8) (f : Dq → Dq) : (s.modDq i f).safe = s.safe := rfl
@[simp] theorem State.modDq_can (i : Fin 8) (f : Dq → Dq) : (s.modDq i f).can = s.can := rfl
@[simp] theorem State.modDq_acq (i : Fin 8) (f : Dq → Dq) : (s.modDq i f).acq = s.acq := rfl
@[simp] theorem State.modDq_rcd (i : Fin 8) (f : Dq → Dq) : (s.modDq i f).rcd = s.rcd := rfl
@[simp] theorem State.modDq_life (i : Fin 8) (f : Dq → Dq) : (s.modDq i f).life = s.life := rfl
@[simp] theorem State.modDq_age (i : Fin 8) (f : Dq → Dq) : (s.modDq i f).age = s.age := rfl
@[simp] theorem State.modDq_emu (i : Fin 8) (f : Dq → Dq) : (s.modDq i f).emu = s.emu := rfl

@[simp] theorem State.modTq_pending (i : Fin 4) (f : TqChan → TqChan) : (s.modTq i f).pending = s.pending := rfl
@[simp] theorem State.modTq_free (i : Fin 4) (f : TqChan → TqChan) : (s.modTq i f).free = s.free := rfl
@[simp] theorem State.modTq_power (i : Fin 4) (f : TqChan → TqChan) : (s.modTq i f).power = s.power := rfl
@[simp] theorem State.modTq_prm (i : Fin 4) (f : TqChan → TqChan) : (s.modTq i f).prm = s.prm := rfl
@[simp] theorem State.modTq_host (i : Fin 4) (f : TqChan → TqChan) : (s.modTq i f).host = s.host := rfl
@[simp] theorem State.modTq_out (i : Fin 4) (f : TqChan → TqChan) : (s.modTq i f).out = s.out := rfl
@[simp] theorem State.modTq_flt (i : Fin 4) (f : TqChan → TqChan) : (s.modTq i f).flt = s.flt := rfl
@[simp] theorem State.modTq_cyc (i : Fin 4) (f : TqChan → TqChan) : (s.modTq i f).cyc = s.cyc := rfl
@[simp] theorem State.modTq_axes (i : Fin 4) (f : TqChan → TqChan) : (s.modTq i f).axes = s.axes := rfl
@[simp] theorem State.modTq_grps (i : Fin 4) (f : TqChan → TqChan) : (s.modTq i f).grps = s.grps := rfl
@[simp] theorem State.modTq_tides (i : Fin 4) (f : TqChan → TqChan) : (s.modTq i f).tides = s.tides := rfl
@[simp] theorem State.modTq_cams (i : Fin 4) (f : TqChan → TqChan) : (s.modTq i f).cams = s.cams := rfl
@[simp] theorem State.modTq_tiles (i : Fin 4) (f : TqChan → TqChan) : (s.modTq i f).tiles = s.tiles := rfl
@[simp] theorem State.modTq_fab (i : Fin 4) (f : TqChan → TqChan) : (s.modTq i f).fab = s.fab := rfl
@[simp] theorem State.modTq_safe (i : Fin 4) (f : TqChan → TqChan) : (s.modTq i f).safe = s.safe := rfl
@[simp] theorem State.modTq_fld (i : Fin 4) (f : TqChan → TqChan) : (s.modTq i f).fld = s.fld := rfl
@[simp] theorem State.modTq_can (i : Fin 4) (f : TqChan → TqChan) : (s.modTq i f).can = s.can := rfl
@[simp] theorem State.modTq_acq (i : Fin 4) (f : TqChan → TqChan) : (s.modTq i f).acq = s.acq := rfl
@[simp] theorem State.modTq_rcd (i : Fin 4) (f : TqChan → TqChan) : (s.modTq i f).rcd = s.rcd := rfl
@[simp] theorem State.modTq_life (i : Fin 4) (f : TqChan → TqChan) : (s.modTq i f).life = s.life := rfl
@[simp] theorem State.modTq_age (i : Fin 4) (f : TqChan → TqChan) : (s.modTq i f).age = s.age := rfl
@[simp] theorem State.modTq_emu (i : Fin 4) (f : TqChan → TqChan) : (s.modTq i f).emu = s.emu := rfl

@[simp] theorem State.modRing_pending (i : Fin 4) (f : Ring → Ring) : (s.modRing i f).pending = s.pending := rfl
@[simp] theorem State.modRing_free (i : Fin 4) (f : Ring → Ring) : (s.modRing i f).free = s.free := rfl
@[simp] theorem State.modRing_time (i : Fin 4) (f : Ring → Ring) : (s.modRing i f).time = s.time := rfl
@[simp] theorem State.modRing_power (i : Fin 4) (f : Ring → Ring) : (s.modRing i f).power = s.power := rfl
@[simp] theorem State.modRing_prm (i : Fin 4) (f : Ring → Ring) : (s.modRing i f).prm = s.prm := rfl
@[simp] theorem State.modRing_out (i : Fin 4) (f : Ring → Ring) : (s.modRing i f).out = s.out := rfl
@[simp] theorem State.modRing_flt (i : Fin 4) (f : Ring → Ring) : (s.modRing i f).flt = s.flt := rfl
@[simp] theorem State.modRing_cyc (i : Fin 4) (f : Ring → Ring) : (s.modRing i f).cyc = s.cyc := rfl
@[simp] theorem State.modRing_axes (i : Fin 4) (f : Ring → Ring) : (s.modRing i f).axes = s.axes := rfl
@[simp] theorem State.modRing_grps (i : Fin 4) (f : Ring → Ring) : (s.modRing i f).grps = s.grps := rfl
@[simp] theorem State.modRing_tides (i : Fin 4) (f : Ring → Ring) : (s.modRing i f).tides = s.tides := rfl
@[simp] theorem State.modRing_cams (i : Fin 4) (f : Ring → Ring) : (s.modRing i f).cams = s.cams := rfl
@[simp] theorem State.modRing_tiles (i : Fin 4) (f : Ring → Ring) : (s.modRing i f).tiles = s.tiles := rfl
@[simp] theorem State.modRing_fab (i : Fin 4) (f : Ring → Ring) : (s.modRing i f).fab = s.fab := rfl
@[simp] theorem State.modRing_safe (i : Fin 4) (f : Ring → Ring) : (s.modRing i f).safe = s.safe := rfl
@[simp] theorem State.modRing_fld (i : Fin 4) (f : Ring → Ring) : (s.modRing i f).fld = s.fld := rfl
@[simp] theorem State.modRing_can (i : Fin 4) (f : Ring → Ring) : (s.modRing i f).can = s.can := rfl
@[simp] theorem State.modRing_acq (i : Fin 4) (f : Ring → Ring) : (s.modRing i f).acq = s.acq := rfl
@[simp] theorem State.modRing_rcd (i : Fin 4) (f : Ring → Ring) : (s.modRing i f).rcd = s.rcd := rfl
@[simp] theorem State.modRing_life (i : Fin 4) (f : Ring → Ring) : (s.modRing i f).life = s.life := rfl
@[simp] theorem State.modRing_age (i : Fin 4) (f : Ring → Ring) : (s.modRing i f).age = s.age := rfl
@[simp] theorem State.modRing_emu (i : Fin 4) (f : Ring → Ring) : (s.modRing i f).emu = s.emu := rfl

@[simp] theorem State.setCam_pending (n : Nat) (c : Cam) : (s.setCam n c).pending = s.pending := rfl
@[simp] theorem State.setCam_free (n : Nat) (c : Cam) : (s.setCam n c).free = s.free := rfl
@[simp] theorem State.setCam_time (n : Nat) (c : Cam) : (s.setCam n c).time = s.time := rfl
@[simp] theorem State.setCam_power (n : Nat) (c : Cam) : (s.setCam n c).power = s.power := rfl
@[simp] theorem State.setCam_prm (n : Nat) (c : Cam) : (s.setCam n c).prm = s.prm := rfl
@[simp] theorem State.setCam_host (n : Nat) (c : Cam) : (s.setCam n c).host = s.host := rfl
@[simp] theorem State.setCam_out (n : Nat) (c : Cam) : (s.setCam n c).out = s.out := rfl
@[simp] theorem State.setCam_flt (n : Nat) (c : Cam) : (s.setCam n c).flt = s.flt := rfl
@[simp] theorem State.setCam_cyc (n : Nat) (c : Cam) : (s.setCam n c).cyc = s.cyc := rfl
@[simp] theorem State.setCam_axes (n : Nat) (c : Cam) : (s.setCam n c).axes = s.axes := rfl
@[simp] theorem State.setCam_grps (n : Nat) (c : Cam) : (s.setCam n c).grps = s.grps := rfl
@[simp] theorem State.setCam_tides (n : Nat) (c : Cam) : (s.setCam n c).tides = s.tides := rfl
@[simp] theorem State.setCam_tiles (n : Nat) (c : Cam) : (s.setCam n c).tiles = s.tiles := rfl
@[simp] theorem State.setCam_fab (n : Nat) (c : Cam) : (s.setCam n c).fab = s.fab := rfl
@[simp] theorem State.setCam_safe (n : Nat) (c : Cam) : (s.setCam n c).safe = s.safe := rfl
@[simp] theorem State.setCam_fld (n : Nat) (c : Cam) : (s.setCam n c).fld = s.fld := rfl
@[simp] theorem State.setCam_can (n : Nat) (c : Cam) : (s.setCam n c).can = s.can := rfl
@[simp] theorem State.setCam_acq (n : Nat) (c : Cam) : (s.setCam n c).acq = s.acq := rfl
@[simp] theorem State.setCam_rcd (n : Nat) (c : Cam) : (s.setCam n c).rcd = s.rcd := rfl
@[simp] theorem State.setCam_life (n : Nat) (c : Cam) : (s.setCam n c).life = s.life := rfl
@[simp] theorem State.setCam_age (n : Nat) (c : Cam) : (s.setCam n c).age = s.age := rfl
@[simp] theorem State.setCam_emu (n : Nat) (c : Cam) : (s.setCam n c).emu = s.emu := rfl

@[simp] theorem State.setDom_pending (d : Domain) (b : Bool) : (s.setDom d b).pending = s.pending := rfl
@[simp] theorem State.setDom_free (d : Domain) (b : Bool) : (s.setDom d b).free = s.free := rfl
@[simp] theorem State.setDom_time (d : Domain) (b : Bool) : (s.setDom d b).time = s.time := rfl
@[simp] theorem State.setDom_prm (d : Domain) (b : Bool) : (s.setDom d b).prm = s.prm := rfl
@[simp] theorem State.setDom_host (d : Domain) (b : Bool) : (s.setDom d b).host = s.host := rfl
@[simp] theorem State.setDom_out (d : Domain) (b : Bool) : (s.setDom d b).out = s.out := rfl
@[simp] theorem State.setDom_flt (d : Domain) (b : Bool) : (s.setDom d b).flt = s.flt := rfl
@[simp] theorem State.setDom_cyc (d : Domain) (b : Bool) : (s.setDom d b).cyc = s.cyc := rfl
@[simp] theorem State.setDom_axes (d : Domain) (b : Bool) : (s.setDom d b).axes = s.axes := rfl
@[simp] theorem State.setDom_grps (d : Domain) (b : Bool) : (s.setDom d b).grps = s.grps := rfl
@[simp] theorem State.setDom_tides (d : Domain) (b : Bool) : (s.setDom d b).tides = s.tides := rfl
@[simp] theorem State.setDom_cams (d : Domain) (b : Bool) : (s.setDom d b).cams = s.cams := rfl
@[simp] theorem State.setDom_tiles (d : Domain) (b : Bool) : (s.setDom d b).tiles = s.tiles := rfl
@[simp] theorem State.setDom_fab (d : Domain) (b : Bool) : (s.setDom d b).fab = s.fab := rfl
@[simp] theorem State.setDom_safe (d : Domain) (b : Bool) : (s.setDom d b).safe = s.safe := rfl
@[simp] theorem State.setDom_fld (d : Domain) (b : Bool) : (s.setDom d b).fld = s.fld := rfl
@[simp] theorem State.setDom_can (d : Domain) (b : Bool) : (s.setDom d b).can = s.can := rfl
@[simp] theorem State.setDom_acq (d : Domain) (b : Bool) : (s.setDom d b).acq = s.acq := rfl
@[simp] theorem State.setDom_rcd (d : Domain) (b : Bool) : (s.setDom d b).rcd = s.rcd := rfl
@[simp] theorem State.setDom_life (d : Domain) (b : Bool) : (s.setDom d b).life = s.life := rfl
@[simp] theorem State.setDom_age (d : Domain) (b : Bool) : (s.setDom d b).age = s.age := rfl
@[simp] theorem State.setDom_emu (d : Domain) (b : Bool) : (s.setDom d b).emu = s.emu := rfl

@[simp] theorem State.setLive_pending (key inst : Nat) (v : List Int) : (s.setLive key inst v).pending = s.pending := rfl
@[simp] theorem State.setLive_free (key inst : Nat) (v : List Int) : (s.setLive key inst v).free = s.free := rfl
@[simp] theorem State.setLive_time (key inst : Nat) (v : List Int) : (s.setLive key inst v).time = s.time := rfl
@[simp] theorem State.setLive_power (key inst : Nat) (v : List Int) : (s.setLive key inst v).power = s.power := rfl
@[simp] theorem State.setLive_host (key inst : Nat) (v : List Int) : (s.setLive key inst v).host = s.host := rfl
@[simp] theorem State.setLive_out (key inst : Nat) (v : List Int) : (s.setLive key inst v).out = s.out := rfl
@[simp] theorem State.setLive_flt (key inst : Nat) (v : List Int) : (s.setLive key inst v).flt = s.flt := rfl
@[simp] theorem State.setLive_cyc (key inst : Nat) (v : List Int) : (s.setLive key inst v).cyc = s.cyc := rfl
@[simp] theorem State.setLive_axes (key inst : Nat) (v : List Int) : (s.setLive key inst v).axes = s.axes := rfl
@[simp] theorem State.setLive_grps (key inst : Nat) (v : List Int) : (s.setLive key inst v).grps = s.grps := rfl
@[simp] theorem State.setLive_tides (key inst : Nat) (v : List Int) : (s.setLive key inst v).tides = s.tides := rfl
@[simp] theorem State.setLive_cams (key inst : Nat) (v : List Int) : (s.setLive key inst v).cams = s.cams := rfl
@[simp] theorem State.setLive_tiles (key inst : Nat) (v : List Int) : (s.setLive key inst v).tiles = s.tiles := rfl
@[simp] theorem State.setLive_fab (key inst : Nat) (v : List Int) : (s.setLive key inst v).fab = s.fab := rfl
@[simp] theorem State.setLive_safe (key inst : Nat) (v : List Int) : (s.setLive key inst v).safe = s.safe := rfl
@[simp] theorem State.setLive_fld (key inst : Nat) (v : List Int) : (s.setLive key inst v).fld = s.fld := rfl
@[simp] theorem State.setLive_can (key inst : Nat) (v : List Int) : (s.setLive key inst v).can = s.can := rfl
@[simp] theorem State.setLive_acq (key inst : Nat) (v : List Int) : (s.setLive key inst v).acq = s.acq := rfl
@[simp] theorem State.setLive_rcd (key inst : Nat) (v : List Int) : (s.setLive key inst v).rcd = s.rcd := rfl
@[simp] theorem State.setLive_life (key inst : Nat) (v : List Int) : (s.setLive key inst v).life = s.life := rfl
@[simp] theorem State.setLive_age (key inst : Nat) (v : List Int) : (s.setLive key inst v).age = s.age := rfl
@[simp] theorem State.setLive_emu (key inst : Nat) (v : List Int) : (s.setLive key inst v).emu = s.emu := rfl

@[simp] theorem State.writeMem_pending (a : Nat) (l : List Byte) : (s.writeMem a l).pending = s.pending := rfl
@[simp] theorem State.writeMem_free (a : Nat) (l : List Byte) : (s.writeMem a l).free = s.free := rfl
@[simp] theorem State.writeMem_time (a : Nat) (l : List Byte) : (s.writeMem a l).time = s.time := rfl
@[simp] theorem State.writeMem_power (a : Nat) (l : List Byte) : (s.writeMem a l).power = s.power := rfl
@[simp] theorem State.writeMem_prm (a : Nat) (l : List Byte) : (s.writeMem a l).prm = s.prm := rfl
@[simp] theorem State.writeMem_out (a : Nat) (l : List Byte) : (s.writeMem a l).out = s.out := rfl
@[simp] theorem State.writeMem_flt (a : Nat) (l : List Byte) : (s.writeMem a l).flt = s.flt := rfl
@[simp] theorem State.writeMem_cyc (a : Nat) (l : List Byte) : (s.writeMem a l).cyc = s.cyc := rfl
@[simp] theorem State.writeMem_axes (a : Nat) (l : List Byte) : (s.writeMem a l).axes = s.axes := rfl
@[simp] theorem State.writeMem_grps (a : Nat) (l : List Byte) : (s.writeMem a l).grps = s.grps := rfl
@[simp] theorem State.writeMem_tides (a : Nat) (l : List Byte) : (s.writeMem a l).tides = s.tides := rfl
@[simp] theorem State.writeMem_cams (a : Nat) (l : List Byte) : (s.writeMem a l).cams = s.cams := rfl
@[simp] theorem State.writeMem_tiles (a : Nat) (l : List Byte) : (s.writeMem a l).tiles = s.tiles := rfl
@[simp] theorem State.writeMem_fab (a : Nat) (l : List Byte) : (s.writeMem a l).fab = s.fab := rfl
@[simp] theorem State.writeMem_safe (a : Nat) (l : List Byte) : (s.writeMem a l).safe = s.safe := rfl
@[simp] theorem State.writeMem_fld (a : Nat) (l : List Byte) : (s.writeMem a l).fld = s.fld := rfl
@[simp] theorem State.writeMem_can (a : Nat) (l : List Byte) : (s.writeMem a l).can = s.can := rfl
@[simp] theorem State.writeMem_acq (a : Nat) (l : List Byte) : (s.writeMem a l).acq = s.acq := rfl
@[simp] theorem State.writeMem_rcd (a : Nat) (l : List Byte) : (s.writeMem a l).rcd = s.rcd := rfl
@[simp] theorem State.writeMem_life (a : Nat) (l : List Byte) : (s.writeMem a l).life = s.life := rfl
@[simp] theorem State.writeMem_age (a : Nat) (l : List Byte) : (s.writeMem a l).age = s.age := rfl
@[simp] theorem State.writeMem_emu (a : Nat) (l : List Byte) : (s.writeMem a l).emu = s.emu := rfl

@[simp] theorem State.raise_pending (code unit : Nat) : (s.raise code unit).pending = s.pending := rfl
@[simp] theorem State.raise_free (code unit : Nat) : (s.raise code unit).free = s.free := rfl
@[simp] theorem State.raise_time (code unit : Nat) : (s.raise code unit).time = s.time := rfl
@[simp] theorem State.raise_power (code unit : Nat) : (s.raise code unit).power = s.power := rfl
@[simp] theorem State.raise_prm (code unit : Nat) : (s.raise code unit).prm = s.prm := rfl
@[simp] theorem State.raise_host (code unit : Nat) : (s.raise code unit).host = s.host := rfl
@[simp] theorem State.raise_out (code unit : Nat) : (s.raise code unit).out = s.out := rfl
@[simp] theorem State.raise_cyc (code unit : Nat) : (s.raise code unit).cyc = s.cyc := rfl
@[simp] theorem State.raise_axes (code unit : Nat) : (s.raise code unit).axes = s.axes := rfl
@[simp] theorem State.raise_grps (code unit : Nat) : (s.raise code unit).grps = s.grps := rfl
@[simp] theorem State.raise_tides (code unit : Nat) : (s.raise code unit).tides = s.tides := rfl
@[simp] theorem State.raise_cams (code unit : Nat) : (s.raise code unit).cams = s.cams := rfl
@[simp] theorem State.raise_tiles (code unit : Nat) : (s.raise code unit).tiles = s.tiles := rfl
@[simp] theorem State.raise_fab (code unit : Nat) : (s.raise code unit).fab = s.fab := rfl
@[simp] theorem State.raise_safe (code unit : Nat) : (s.raise code unit).safe = s.safe := rfl
@[simp] theorem State.raise_fld (code unit : Nat) : (s.raise code unit).fld = s.fld := rfl
@[simp] theorem State.raise_can (code unit : Nat) : (s.raise code unit).can = s.can := rfl
@[simp] theorem State.raise_acq (code unit : Nat) : (s.raise code unit).acq = s.acq := rfl
@[simp] theorem State.raise_rcd (code unit : Nat) : (s.raise code unit).rcd = s.rcd := rfl
@[simp] theorem State.raise_life (code unit : Nat) : (s.raise code unit).life = s.life := rfl
@[simp] theorem State.raise_age (code unit : Nat) : (s.raise code unit).age = s.age := rfl
@[simp] theorem State.raise_emu (code unit : Nat) : (s.raise code unit).emu = s.emu := rfl

@[simp] theorem State.raiseAt_pending (code unit level : Nat) : (s.raiseAt code unit level).pending = s.pending := rfl
@[simp] theorem State.raiseAt_free (code unit level : Nat) : (s.raiseAt code unit level).free = s.free := rfl
@[simp] theorem State.raiseAt_time (code unit level : Nat) : (s.raiseAt code unit level).time = s.time := rfl
@[simp] theorem State.raiseAt_power (code unit level : Nat) : (s.raiseAt code unit level).power = s.power := rfl
@[simp] theorem State.raiseAt_prm (code unit level : Nat) : (s.raiseAt code unit level).prm = s.prm := rfl
@[simp] theorem State.raiseAt_host (code unit level : Nat) : (s.raiseAt code unit level).host = s.host := rfl
@[simp] theorem State.raiseAt_out (code unit level : Nat) : (s.raiseAt code unit level).out = s.out := rfl
@[simp] theorem State.raiseAt_cyc (code unit level : Nat) : (s.raiseAt code unit level).cyc = s.cyc := rfl
@[simp] theorem State.raiseAt_axes (code unit level : Nat) : (s.raiseAt code unit level).axes = s.axes := rfl
@[simp] theorem State.raiseAt_grps (code unit level : Nat) : (s.raiseAt code unit level).grps = s.grps := rfl
@[simp] theorem State.raiseAt_tides (code unit level : Nat) : (s.raiseAt code unit level).tides = s.tides := rfl
@[simp] theorem State.raiseAt_cams (code unit level : Nat) : (s.raiseAt code unit level).cams = s.cams := rfl
@[simp] theorem State.raiseAt_tiles (code unit level : Nat) : (s.raiseAt code unit level).tiles = s.tiles := rfl
@[simp] theorem State.raiseAt_fab (code unit level : Nat) : (s.raiseAt code unit level).fab = s.fab := rfl
@[simp] theorem State.raiseAt_safe (code unit level : Nat) : (s.raiseAt code unit level).safe = s.safe := rfl
@[simp] theorem State.raiseAt_fld (code unit level : Nat) : (s.raiseAt code unit level).fld = s.fld := rfl
@[simp] theorem State.raiseAt_can (code unit level : Nat) : (s.raiseAt code unit level).can = s.can := rfl
@[simp] theorem State.raiseAt_acq (code unit level : Nat) : (s.raiseAt code unit level).acq = s.acq := rfl
@[simp] theorem State.raiseAt_rcd (code unit level : Nat) : (s.raiseAt code unit level).rcd = s.rcd := rfl
@[simp] theorem State.raiseAt_life (code unit level : Nat) : (s.raiseAt code unit level).life = s.life := rfl
@[simp] theorem State.raiseAt_age (code unit level : Nat) : (s.raiseAt code unit level).age = s.age := rfl
@[simp] theorem State.raiseAt_emu (code unit level : Nat) : (s.raiseAt code unit level).emu = s.emu := rfl

@[simp] theorem State.raiseOcc_pending (o : Occ) : (s.raiseOcc o).pending = s.pending := rfl
@[simp] theorem State.raiseOcc_free (o : Occ) : (s.raiseOcc o).free = s.free := rfl
@[simp] theorem State.raiseOcc_time (o : Occ) : (s.raiseOcc o).time = s.time := rfl
@[simp] theorem State.raiseOcc_power (o : Occ) : (s.raiseOcc o).power = s.power := rfl
@[simp] theorem State.raiseOcc_prm (o : Occ) : (s.raiseOcc o).prm = s.prm := rfl
@[simp] theorem State.raiseOcc_host (o : Occ) : (s.raiseOcc o).host = s.host := rfl
@[simp] theorem State.raiseOcc_out (o : Occ) : (s.raiseOcc o).out = s.out := rfl
@[simp] theorem State.raiseOcc_cyc (o : Occ) : (s.raiseOcc o).cyc = s.cyc := rfl
@[simp] theorem State.raiseOcc_axes (o : Occ) : (s.raiseOcc o).axes = s.axes := rfl
@[simp] theorem State.raiseOcc_grps (o : Occ) : (s.raiseOcc o).grps = s.grps := rfl
@[simp] theorem State.raiseOcc_tides (o : Occ) : (s.raiseOcc o).tides = s.tides := rfl
@[simp] theorem State.raiseOcc_cams (o : Occ) : (s.raiseOcc o).cams = s.cams := rfl
@[simp] theorem State.raiseOcc_tiles (o : Occ) : (s.raiseOcc o).tiles = s.tiles := rfl
@[simp] theorem State.raiseOcc_fab (o : Occ) : (s.raiseOcc o).fab = s.fab := rfl
@[simp] theorem State.raiseOcc_safe (o : Occ) : (s.raiseOcc o).safe = s.safe := rfl
@[simp] theorem State.raiseOcc_fld (o : Occ) : (s.raiseOcc o).fld = s.fld := rfl
@[simp] theorem State.raiseOcc_can (o : Occ) : (s.raiseOcc o).can = s.can := rfl
@[simp] theorem State.raiseOcc_acq (o : Occ) : (s.raiseOcc o).acq = s.acq := rfl
@[simp] theorem State.raiseOcc_rcd (o : Occ) : (s.raiseOcc o).rcd = s.rcd := rfl
@[simp] theorem State.raiseOcc_life (o : Occ) : (s.raiseOcc o).life = s.life := rfl
@[simp] theorem State.raiseOcc_age (o : Occ) : (s.raiseOcc o).age = s.age := rfl
@[simp] theorem State.raiseOcc_emu (o : Occ) : (s.raiseOcc o).emu = s.emu := rfl

@[simp] theorem State.clearCond_pending (code unit : Nat) : (s.clearCond code unit).pending = s.pending := rfl
@[simp] theorem State.clearCond_free (code unit : Nat) : (s.clearCond code unit).free = s.free := rfl
@[simp] theorem State.clearCond_time (code unit : Nat) : (s.clearCond code unit).time = s.time := rfl
@[simp] theorem State.clearCond_power (code unit : Nat) : (s.clearCond code unit).power = s.power := rfl
@[simp] theorem State.clearCond_prm (code unit : Nat) : (s.clearCond code unit).prm = s.prm := rfl
@[simp] theorem State.clearCond_host (code unit : Nat) : (s.clearCond code unit).host = s.host := rfl
@[simp] theorem State.clearCond_out (code unit : Nat) : (s.clearCond code unit).out = s.out := rfl
@[simp] theorem State.clearCond_cyc (code unit : Nat) : (s.clearCond code unit).cyc = s.cyc := rfl
@[simp] theorem State.clearCond_axes (code unit : Nat) : (s.clearCond code unit).axes = s.axes := rfl
@[simp] theorem State.clearCond_grps (code unit : Nat) : (s.clearCond code unit).grps = s.grps := rfl
@[simp] theorem State.clearCond_tides (code unit : Nat) : (s.clearCond code unit).tides = s.tides := rfl
@[simp] theorem State.clearCond_cams (code unit : Nat) : (s.clearCond code unit).cams = s.cams := rfl
@[simp] theorem State.clearCond_tiles (code unit : Nat) : (s.clearCond code unit).tiles = s.tiles := rfl
@[simp] theorem State.clearCond_fab (code unit : Nat) : (s.clearCond code unit).fab = s.fab := rfl
@[simp] theorem State.clearCond_safe (code unit : Nat) : (s.clearCond code unit).safe = s.safe := rfl
@[simp] theorem State.clearCond_fld (code unit : Nat) : (s.clearCond code unit).fld = s.fld := rfl
@[simp] theorem State.clearCond_can (code unit : Nat) : (s.clearCond code unit).can = s.can := rfl
@[simp] theorem State.clearCond_acq (code unit : Nat) : (s.clearCond code unit).acq = s.acq := rfl
@[simp] theorem State.clearCond_rcd (code unit : Nat) : (s.clearCond code unit).rcd = s.rcd := rfl
@[simp] theorem State.clearCond_life (code unit : Nat) : (s.clearCond code unit).life = s.life := rfl
@[simp] theorem State.clearCond_age (code unit : Nat) : (s.clearCond code unit).age = s.age := rfl
@[simp] theorem State.clearCond_emu (code unit : Nat) : (s.clearCond code unit).emu = s.emu := rfl

@[simp] theorem State.begin_time (t : Nat) : (s.begin t).time = { s.time with lt := max s.time.lt t } := rfl
@[simp] theorem State.begin_out (t : Nat) : (s.begin t).out = {} := rfl
@[simp] theorem State.modPort_fab (i : PortId) (f : Port → Port) : (s.modPort i f).fab = { s.fab with ports := s.fab.ports.set i.val (f (s.fab.ports.get i)) i.isLt } := rfl
@[simp] theorem State.modFab_fab (f : FabState → FabState) : (s.modFab f).fab = f s.fab := rfl
@[simp] theorem State.modTile_tiles (i : Fin 5) (f : Tile → Tile) : (s.modTile i f).tiles = { s.tiles with tiles := s.tiles.tiles.set i.val (f (s.tiles.tiles.get i)) i.isLt } := rfl
@[simp] theorem State.modDi_fld (i : Fin 16) (f : Di → Di) : (s.modDi i f).fld = { s.fld with di := s.fld.di.set i.val (f (s.fld.di.get i)) i.isLt } := rfl
@[simp] theorem State.modDq_fld (i : Fin 8) (f : Dq → Dq) : (s.modDq i f).fld = { s.fld with dq := s.fld.dq.set i.val (f (s.fld.dq.get i)) i.isLt } := rfl
@[simp] theorem State.modTq_time (i : Fin 4) (f : TqChan → TqChan) : (s.modTq i f).time = { s.time with tq := s.time.tq.set i.val (f (s.time.tq.get i)) i.isLt } := rfl
@[simp] theorem State.modRing_host (i : Fin 4) (f : Ring → Ring) : (s.modRing i f).host = { s.host with rings := s.host.rings.set i.val (f (s.host.rings.get i)) i.isLt } := rfl
@[simp] theorem State.setCam_cams (n : Nat) (c : Cam) : (s.setCam n c).cams = alSet {} n c s.cams := rfl
@[simp] theorem State.setDom_power (d : Domain) (b : Bool) : (s.setDom d b).power = { s.power with on := s.power.on.set (domIdx d).val b (domIdx d).isLt } := rfl
@[simp] theorem State.setLive_prm (key inst : Nat) (v : List Int) : (s.setLive key inst v).prm = { s.prm with live := bankSet s.prm.live key inst v } := rfl
@[simp] theorem State.writeMem_host (a : Nat) (l : List Byte) : (s.writeMem a l).host = { s.host with mem := memWriteN s.host.mem a l } := rfl
@[simp] theorem State.raise_flt (code unit : Nat) : (s.raise code unit).flt = { s.flt with inbox := s.flt.inbox ++ [⟨code, unit, none, false, none, 0⟩] } := rfl
@[simp] theorem State.raiseAt_flt (code unit level : Nat) : (s.raiseAt code unit level).flt = { s.flt with inbox := s.flt.inbox ++ [⟨code, unit, some level, false, none, 0⟩] } := rfl
@[simp] theorem State.raiseOcc_flt (o : Occ) : (s.raiseOcc o).flt = { s.flt with inbox := s.flt.inbox ++ [o] } := rfl
@[simp] theorem State.clearCond_flt (code unit : Nat) : (s.clearCond code unit).flt = { s.flt with inbox := s.flt.inbox ++ [⟨code, unit, none, true, none, 0⟩] } := rfl

theorem get_set_same {α : Type} {n : Nat} (v : Vector α n) (i : Fin n) (x : α) : (v.set i.val x i.isLt).get i = x := by
  rw [Vector.get_eq_getElem]; simp

theorem get_set_other {α : Type} {n : Nat} (v : Vector α n) {i j : Fin n} (h : i ≠ j) (x : α) : (v.set i.val x i.isLt).get j = v.get j := by
  have h' : i.val ≠ j.val := fun e => h (Fin.ext e)
  rw [Vector.get_eq_getElem, Vector.get_eq_getElem]; simp [h']

@[simp] theorem State.modAxis_same (i : AxisId) (f : Axis → Axis) : (s.modAxis i f).ax i = f (s.ax i) :=
  get_set_same _ _ _
theorem State.modAxis_other {i j : AxisId} (h : i ≠ j) (f : Axis → Axis) : (s.modAxis i f).ax j = s.ax j :=
  get_set_other _ h _
@[simp] theorem State.modGrp_same (i : Fin 8) (f : Group → Group) : (s.modGrp i f).grps.get i = f (s.grps.get i) :=
  get_set_same _ _ _
theorem State.modGrp_other {i j : Fin 8} (h : i ≠ j) (f : Group → Group) : (s.modGrp i f).grps.get j = s.grps.get j :=
  get_set_other _ h _
@[simp] theorem State.modTide_same (i : TideId) (f : Tide → Tide) : (s.modTide i f).tides.get i = f (s.tides.get i) :=
  get_set_same _ _ _
theorem State.modTide_other {i j : TideId} (h : i ≠ j) (f : Tide → Tide) : (s.modTide i f).tides.get j = s.tides.get j :=
  get_set_other _ h _
@[simp] theorem State.modCan_same (i : Fin 2) (f : CanChan → CanChan) : (s.modCan i f).can.get i = f (s.can.get i) :=
  get_set_same _ _ _
theorem State.modCan_other {i j : Fin 2} (h : i ≠ j) (f : CanChan → CanChan) : (s.modCan i f).can.get j = s.can.get j :=
  get_set_other _ h _
@[simp] theorem State.modPort_same (i : PortId) (f : Port → Port) : (s.modPort i f).fab.ports.get i = f (s.fab.ports.get i) :=
  get_set_same _ _ _
theorem State.modPort_other {i j : PortId} (h : i ≠ j) (f : Port → Port) : (s.modPort i f).fab.ports.get j = s.fab.ports.get j :=
  get_set_other _ h _
@[simp] theorem State.modTile_same (i : Fin 5) (f : Tile → Tile) : (s.modTile i f).tiles.tiles.get i = f (s.tiles.tiles.get i) :=
  get_set_same _ _ _
theorem State.modTile_other {i j : Fin 5} (h : i ≠ j) (f : Tile → Tile) : (s.modTile i f).tiles.tiles.get j = s.tiles.tiles.get j :=
  get_set_other _ h _
@[simp] theorem State.modDi_same (i : Fin 16) (f : Di → Di) : (s.modDi i f).fld.di.get i = f (s.fld.di.get i) :=
  get_set_same _ _ _
theorem State.modDi_other {i j : Fin 16} (h : i ≠ j) (f : Di → Di) : (s.modDi i f).fld.di.get j = s.fld.di.get j :=
  get_set_other _ h _
@[simp] theorem State.modDq_same (i : Fin 8) (f : Dq → Dq) : (s.modDq i f).fld.dq.get i = f (s.fld.dq.get i) :=
  get_set_same _ _ _
theorem State.modDq_other {i j : Fin 8} (h : i ≠ j) (f : Dq → Dq) : (s.modDq i f).fld.dq.get j = s.fld.dq.get j :=
  get_set_other _ h _
@[simp] theorem State.modTq_same (i : Fin 4) (f : TqChan → TqChan) : (s.modTq i f).time.tq.get i = f (s.time.tq.get i) :=
  get_set_same _ _ _
theorem State.modTq_other {i j : Fin 4} (h : i ≠ j) (f : TqChan → TqChan) : (s.modTq i f).time.tq.get j = s.time.tq.get j :=
  get_set_other _ h _
@[simp] theorem State.modRing_same (i : Fin 4) (f : Ring → Ring) : (s.modRing i f).host.rings.get i = f (s.host.rings.get i) :=
  get_set_same _ _ _
theorem State.modRing_other {i j : Fin 4} (h : i ≠ j) (f : Ring → Ring) : (s.modRing i f).host.rings.get j = s.host.rings.get j :=
  get_set_other _ h _

@[simp] theorem State.modLink_same (a : AxisId) (f : Link → Link) : (s.modLink a f).ax a = { s.ax a with link := f (s.ax a).link } := by
  simp [State.modLink]

@[simp] theorem State.modProf_same (a : AxisId) (f : Prof → Prof) : (s.modProf a f).ax a = { s.ax a with prof := f (s.ax a).prof } := by
  simp [State.modProf]

end Sys2Proof.Machine
end

