-- ==== Sys2Proof/Laws/Posts.lean ====
section
/-! SUPPORT. What posting an event, a response or a ferry message leaves: the window memory, the indices of the rings and the ferry
queue change, and nothing else (R356, R427, R430). -/

namespace Sys2Proof.Machine

variable (s : State)

/-- Posting an event changes the host part and the outbox alone. -/
theorem State.postEvent_frame (code tag unit : Nat) (data : List Byte) :
    s.postEvent code tag unit data = { s with host := (s.postEvent code tag unit data).host, out := (s.postEvent code tag unit data).out } := by
  unfold State.postEvent; split <;> rfl

/-- Posting a response entry changes the host part alone. -/
theorem State.postRsp_frame (ring : Nat) (e : List Byte) : s.postRsp ring e = { s with host := (s.postRsp ring e).host } := by
  unfold State.postRsp; simp only []; split <;> rfl

/-- A ferry message is queued, and nothing else changes. -/
theorem State.ferrySend_frame (peer kind msg : Nat) (data : List Byte) (req : Option ReqRef) (region : Nat × Nat) :
    s.ferrySend peer kind msg data req region = { s with fab := (s.ferrySend peer kind msg data req region).fab } := rfl

/-- A response changes the host part, or the ferry queue where the request came from another node. -/
theorem State.respond_frame (q : ReqRef) (ofs : Nat) (r : Rsp) :
    s.respond q ofs r = { s with host := (s.respond q ofs r).host, fab := (s.respond q ofs r).fab } := by
  unfold State.respond; simp only []
  split
  · rfl
  · rw [State.postRsp_frame]; repeat' split
    all_goals rfl

/-- A completed request changes the host part, or the ferry queue. -/
theorem State.finish_frame (q : ReqRef) (r : Rsp) :
    s.finish q r = { s with host := (s.finish q r).host, fab := (s.finish q r).fab } := by
  unfold State.finish; rw [State.respond_frame]; split <;> rfl

/-- The answer to a request changes the host part, or the ferry queue. -/
theorem State.answer_frame (opc : Nat) (h : Hdr) (r : Rsp) :
    s.answer opc h r = { s with host := (s.answer opc h r).host, fab := (s.answer opc h r).fab } := by
  unfold State.answer; rw [State.respond_frame]; simp only []; split <;> rfl

@[simp] theorem State.postEvent_pending (code tag unit : Nat) (data : List Byte) : (s.postEvent code tag unit data).pending = s.pending := by rw [State.postEvent_frame]
@[simp] theorem State.postEvent_free (code tag unit : Nat) (data : List Byte) : (s.postEvent code tag unit data).free = s.free := by rw [State.postEvent_frame]
@[simp] theorem State.postEvent_time (code tag unit : Nat) (data : List Byte) : (s.postEvent code tag unit data).time = s.time := by rw [State.postEvent_frame]
@[simp] theorem State.postEvent_power (code tag unit : Nat) (data : List Byte) : (s.postEvent code tag unit data).power = s.power := by rw [State.postEvent_frame]
@[simp] theorem State.postEvent_prm (code tag unit : Nat) (data : List Byte) : (s.postEvent code tag unit data).prm = s.prm := by rw [State.postEvent_frame]
@[simp] theorem State.postEvent_flt (code tag unit : Nat) (data : List Byte) : (s.postEvent code tag unit data).flt = s.flt := by rw [State.postEvent_frame]
@[simp] theorem State.postEvent_cyc (code tag unit : Nat) (data : List Byte) : (s.postEvent code tag unit data).cyc = s.cyc := by rw [State.postEvent_frame]
@[simp] theorem State.postEvent_axes (code tag unit : Nat) (data : List Byte) : (s.postEvent code tag unit data).axes = s.axes := by rw [State.postEvent_frame]
@[simp] theorem State.postEvent_grps (code tag unit : Nat) (data : List Byte) : (s.postEvent code tag unit data).grps = s.grps := by rw [State.postEvent_frame]
@[simp] theorem State.postEvent_tides (code tag unit : Nat) (data : List Byte) : (s.postEvent code tag unit data).tides = s.tides := by rw [State.postEvent_frame]
@[simp] theorem State.postEvent_cams (code tag unit : Nat) (data : List Byte) : (s.postEvent code tag unit data).cams = s.cams := by rw [State.postEvent_frame]
@[simp] theorem State.postEvent_tiles (code tag unit : Nat) (data : List Byte) : (s.postEvent code tag unit data).tiles = s.tiles := by rw [State.postEvent_frame]
@[simp] theorem State.postEvent_fab (code tag unit : Nat) (data : List Byte) : (s.postEvent code tag unit data).fab = s.fab := by rw [State.postEvent_frame]
@[simp] theorem State.postEvent_safe (code tag unit : Nat) (data : List Byte) : (s.postEvent code tag unit data).safe = s.safe := by rw [State.postEvent_frame]
@[simp] theorem State.postEvent_fld (code tag unit : Nat) (data : List Byte) : (s.postEvent code tag unit data).fld = s.fld := by rw [State.postEvent_frame]
@[simp] theorem State.postEvent_can (code tag unit : Nat) (data : List Byte) : (s.postEvent code tag unit data).can = s.can := by rw [State.postEvent_frame]
@[simp] theorem State.postEvent_acq (code tag unit : Nat) (data : List Byte) : (s.postEvent code tag unit data).acq = s.acq := by rw [State.postEvent_frame]
@[simp] theorem State.postEvent_rcd (code tag unit : Nat) (data : List Byte) : (s.postEvent code tag unit data).rcd = s.rcd := by rw [State.postEvent_frame]
@[simp] theorem State.postEvent_life (code tag unit : Nat) (data : List Byte) : (s.postEvent code tag unit data).life = s.life := by rw [State.postEvent_frame]
@[simp] theorem State.postEvent_age (code tag unit : Nat) (data : List Byte) : (s.postEvent code tag unit data).age = s.age := by rw [State.postEvent_frame]
@[simp] theorem State.postEvent_emu (code tag unit : Nat) (data : List Byte) : (s.postEvent code tag unit data).emu = s.emu := by rw [State.postEvent_frame]

@[simp] theorem State.postRsp_pending (ring : Nat) (e : List Byte) : (s.postRsp ring e).pending = s.pending := by rw [State.postRsp_frame]
@[simp] theorem State.postRsp_free (ring : Nat) (e : List Byte) : (s.postRsp ring e).free = s.free := by rw [State.postRsp_frame]
@[simp] theorem State.postRsp_time (ring : Nat) (e : List Byte) : (s.postRsp ring e).time = s.time := by rw [State.postRsp_frame]
@[simp] theorem State.postRsp_power (ring : Nat) (e : List Byte) : (s.postRsp ring e).power = s.power := by rw [State.postRsp_frame]
@[simp] theorem State.postRsp_prm (ring : Nat) (e : List Byte) : (s.postRsp ring e).prm = s.prm := by rw [State.postRsp_frame]
@[simp] theorem State.postRsp_out (ring : Nat) (e : List Byte) : (s.postRsp ring e).out = s.out := by rw [State.postRsp_frame]
@[simp] theorem State.postRsp_flt (ring : Nat) (e : List Byte) : (s.postRsp ring e).flt = s.flt := by rw [State.postRsp_frame]
@[simp] theorem State.postRsp_cyc (ring : Nat) (e : List Byte) : (s.postRsp ring e).cyc = s.cyc := by rw [State.postRsp_frame]
@[simp] theorem State.postRsp_axes (ring : Nat) (e : List Byte) : (s.postRsp ring e).axes = s.axes := by rw [State.postRsp_frame]
@[simp] theorem State.postRsp_grps (ring : Nat) (e : List Byte) : (s.postRsp ring e).grps = s.grps := by rw [State.postRsp_frame]
@[simp] theorem State.postRsp_tides (ring : Nat) (e : List Byte) : (s.postRsp ring e).tides = s.tides := by rw [State.postRsp_frame]
@[simp] theorem State.postRsp_cams (ring : Nat) (e : List Byte) : (s.postRsp ring e).cams = s.cams := by rw [State.postRsp_frame]
@[simp] theorem State.postRsp_tiles (ring : Nat) (e : List Byte) : (s.postRsp ring e).tiles = s.tiles := by rw [State.postRsp_frame]
@[simp] theorem State.postRsp_fab (ring : Nat) (e : List Byte) : (s.postRsp ring e).fab = s.fab := by rw [State.postRsp_frame]
@[simp] theorem State.postRsp_safe (ring : Nat) (e : List Byte) : (s.postRsp ring e).safe = s.safe := by rw [State.postRsp_frame]
@[simp] theorem State.postRsp_fld (ring : Nat) (e : List Byte) : (s.postRsp ring e).fld = s.fld := by rw [State.postRsp_frame]
@[simp] theorem State.postRsp_can (ring : Nat) (e : List Byte) : (s.postRsp ring e).can = s.can := by rw [State.postRsp_frame]
@[simp] theorem State.postRsp_acq (ring : Nat) (e : List Byte) : (s.postRsp ring e).acq = s.acq := by rw [State.postRsp_frame]
@[simp] theorem State.postRsp_rcd (ring : Nat) (e : List Byte) : (s.postRsp ring e).rcd = s.rcd := by rw [State.postRsp_frame]
@[simp] theorem State.postRsp_life (ring : Nat) (e : List Byte) : (s.postRsp ring e).life = s.life := by rw [State.postRsp_frame]
@[simp] theorem State.postRsp_age (ring : Nat) (e : List Byte) : (s.postRsp ring e).age = s.age := by rw [State.postRsp_frame]
@[simp] theorem State.postRsp_emu (ring : Nat) (e : List Byte) : (s.postRsp ring e).emu = s.emu := by rw [State.postRsp_frame]

@[simp] theorem State.ferrySend_pending (peer kind msg : Nat) (data : List Byte) (req : Option ReqRef) (region : Nat × Nat) : (s.ferrySend peer kind msg data req region).pending = s.pending := by rw [State.ferrySend_frame]
@[simp] theorem State.ferrySend_free (peer kind msg : Nat) (data : List Byte) (req : Option ReqRef) (region : Nat × Nat) : (s.ferrySend peer kind msg data req region).free = s.free := by rw [State.ferrySend_frame]
@[simp] theorem State.ferrySend_time (peer kind msg : Nat) (data : List Byte) (req : Option ReqRef) (region : Nat × Nat) : (s.ferrySend peer kind msg data req region).time = s.time := by rw [State.ferrySend_frame]
@[simp] theorem State.ferrySend_power (peer kind msg : Nat) (data : List Byte) (req : Option ReqRef) (region : Nat × Nat) : (s.ferrySend peer kind msg data req region).power = s.power := by rw [State.ferrySend_frame]
@[simp] theorem State.ferrySend_prm (peer kind msg : Nat) (data : List Byte) (req : Option ReqRef) (region : Nat × Nat) : (s.ferrySend peer kind msg data req region).prm = s.prm := by rw [State.ferrySend_frame]
@[simp] theorem State.ferrySend_host (peer kind msg : Nat) (data : List Byte) (req : Option ReqRef) (region : Nat × Nat) : (s.ferrySend peer kind msg data req region).host = s.host := by rw [State.ferrySend_frame]
@[simp] theorem State.ferrySend_out (peer kind msg : Nat) (data : List Byte) (req : Option ReqRef) (region : Nat × Nat) : (s.ferrySend peer kind msg data req region).out = s.out := by rw [State.ferrySend_frame]
@[simp] theorem State.ferrySend_flt (peer kind msg : Nat) (data : List Byte) (req : Option ReqRef) (region : Nat × Nat) : (s.ferrySend peer kind msg data req region).flt = s.flt := by rw [State.ferrySend_frame]
@[simp] theorem State.ferrySend_cyc (peer kind msg : Nat) (data : List Byte) (req : Option ReqRef) (region : Nat × Nat) : (s.ferrySend peer kind msg data req region).cyc = s.cyc := by rw [State.ferrySend_frame]
@[simp] theorem State.ferrySend_axes (peer kind msg : Nat) (data : List Byte) (req : Option ReqRef) (region : Nat × Nat) : (s.ferrySend peer kind msg data req region).axes = s.axes := by rw [State.ferrySend_frame]
@[simp] theorem State.ferrySend_grps (peer kind msg : Nat) (data : List Byte) (req : Option ReqRef) (region : Nat × Nat) : (s.ferrySend peer kind msg data req region).grps = s.grps := by rw [State.ferrySend_frame]
@[simp] theorem State.ferrySend_tides (peer kind msg : Nat) (data : List Byte) (req : Option ReqRef) (region : Nat × Nat) : (s.ferrySend peer kind msg data req region).tides = s.tides := by rw [State.ferrySend_frame]
@[simp] theorem State.ferrySend_cams (peer kind msg : Nat) (data : List Byte) (req : Option ReqRef) (region : Nat × Nat) : (s.ferrySend peer kind msg data req region).cams = s.cams := by rw [State.ferrySend_frame]
@[simp] theorem State.ferrySend_tiles (peer kind msg : Nat) (data : List Byte) (req : Option ReqRef) (region : Nat × Nat) : (s.ferrySend peer kind msg data req region).tiles = s.tiles := by rw [State.ferrySend_frame]
@[simp] theorem State.ferrySend_safe (peer kind msg : Nat) (data : List Byte) (req : Option ReqRef) (region : Nat × Nat) : (s.ferrySend peer kind msg data req region).safe = s.safe := by rw [State.ferrySend_frame]
@[simp] theorem State.ferrySend_fld (peer kind msg : Nat) (data : List Byte) (req : Option ReqRef) (region : Nat × Nat) : (s.ferrySend peer kind msg data req region).fld = s.fld := by rw [State.ferrySend_frame]
@[simp] theorem State.ferrySend_can (peer kind msg : Nat) (data : List Byte) (req : Option ReqRef) (region : Nat × Nat) : (s.ferrySend peer kind msg data req region).can = s.can := by rw [State.ferrySend_frame]
@[simp] theorem State.ferrySend_acq (peer kind msg : Nat) (data : List Byte) (req : Option ReqRef) (region : Nat × Nat) : (s.ferrySend peer kind msg data req region).acq = s.acq := by rw [State.ferrySend_frame]
@[simp] theorem State.ferrySend_rcd (peer kind msg : Nat) (data : List Byte) (req : Option ReqRef) (region : Nat × Nat) : (s.ferrySend peer kind msg data req region).rcd = s.rcd := by rw [State.ferrySend_frame]
@[simp] theorem State.ferrySend_life (peer kind msg : Nat) (data : List Byte) (req : Option ReqRef) (region : Nat × Nat) : (s.ferrySend peer kind msg data req region).life = s.life := by rw [State.ferrySend_frame]
@[simp] theorem State.ferrySend_age (peer kind msg : Nat) (data : List Byte) (req : Option ReqRef) (region : Nat × Nat) : (s.ferrySend peer kind msg data req region).age = s.age := by rw [State.ferrySend_frame]
@[simp] theorem State.ferrySend_emu (peer kind msg : Nat) (data : List Byte) (req : Option ReqRef) (region : Nat × Nat) : (s.ferrySend peer kind msg data req region).emu = s.emu := by rw [State.ferrySend_frame]

@[simp] theorem State.respond_pending (q : ReqRef) (ofs : Nat) (r : Rsp) : (s.respond q ofs r).pending = s.pending := by rw [State.respond_frame]
@[simp] theorem State.respond_free (q : ReqRef) (ofs : Nat) (r : Rsp) : (s.respond q ofs r).free = s.free := by rw [State.respond_frame]
@[simp] theorem State.respond_time (q : ReqRef) (ofs : Nat) (r : Rsp) : (s.respond q ofs r).time = s.time := by rw [State.respond_frame]
@[simp] theorem State.respond_power (q : ReqRef) (ofs : Nat) (r : Rsp) : (s.respond q ofs r).power = s.power := by rw [State.respond_frame]
@[simp] theorem State.respond_prm (q : ReqRef) (ofs : Nat) (r : Rsp) : (s.respond q ofs r).prm = s.prm := by rw [State.respond_frame]
@[simp] theorem State.respond_out (q : ReqRef) (ofs : Nat) (r : Rsp) : (s.respond q ofs r).out = s.out := by rw [State.respond_frame]
@[simp] theorem State.respond_flt (q : ReqRef) (ofs : Nat) (r : Rsp) : (s.respond q ofs r).flt = s.flt := by rw [State.respond_frame]
@[simp] theorem State.respond_cyc (q : ReqRef) (ofs : Nat) (r : Rsp) : (s.respond q ofs r).cyc = s.cyc := by rw [State.respond_frame]
@[simp] theorem State.respond_axes (q : ReqRef) (ofs : Nat) (r : Rsp) : (s.respond q ofs r).axes = s.axes := by rw [State.respond_frame]
@[simp] theorem State.respond_grps (q : ReqRef) (ofs : Nat) (r : Rsp) : (s.respond q ofs r).grps = s.grps := by rw [State.respond_frame]
@[simp] theorem State.respond_tides (q : ReqRef) (ofs : Nat) (r : Rsp) : (s.respond q ofs r).tides = s.tides := by rw [State.respond_frame]
@[simp] theorem State.respond_cams (q : ReqRef) (ofs : Nat) (r : Rsp) : (s.respond q ofs r).cams = s.cams := by rw [State.respond_frame]
@[simp] theorem State.respond_tiles (q : ReqRef) (ofs : Nat) (r : Rsp) : (s.respond q ofs r).tiles = s.tiles := by rw [State.respond_frame]
@[simp] theorem State.respond_safe (q : ReqRef) (ofs : Nat) (r : Rsp) : (s.respond q ofs r).safe = s.safe := by rw [State.respond_frame]
@[simp] theorem State.respond_fld (q : ReqRef) (ofs : Nat) (r : Rsp) : (s.respond q ofs r).fld = s.fld := by rw [State.respond_frame]
@[simp] theorem State.respond_can (q : ReqRef) (ofs : Nat) (r : Rsp) : (s.respond q ofs r).can = s.can := by rw [State.respond_frame]
@[simp] theorem State.respond_acq (q : ReqRef) (ofs : Nat) (r : Rsp) : (s.respond q ofs r).acq = s.acq := by rw [State.respond_frame]
@[simp] theorem State.respond_rcd (q : ReqRef) (ofs : Nat) (r : Rsp) : (s.respond q ofs r).rcd = s.rcd := by rw [State.respond_frame]
@[simp] theorem State.respond_life (q : ReqRef) (ofs : Nat) (r : Rsp) : (s.respond q ofs r).life = s.life := by rw [State.respond_frame]
@[simp] theorem State.respond_age (q : ReqRef) (ofs : Nat) (r : Rsp) : (s.respond q ofs r).age = s.age := by rw [State.respond_frame]
@[simp] theorem State.respond_emu (q : ReqRef) (ofs : Nat) (r : Rsp) : (s.respond q ofs r).emu = s.emu := by rw [State.respond_frame]

@[simp] theorem State.finish_pending (q : ReqRef) (r : Rsp) : (s.finish q r).pending = s.pending := by rw [State.finish_frame]
@[simp] theorem State.finish_free (q : ReqRef) (r : Rsp) : (s.finish q r).free = s.free := by rw [State.finish_frame]
@[simp] theorem State.finish_time (q : ReqRef) (r : Rsp) : (s.finish q r).time = s.time := by rw [State.finish_frame]
@[simp] theorem State.finish_power (q : ReqRef) (r : Rsp) : (s.finish q r).power = s.power := by rw [State.finish_frame]
@[simp] theorem State.finish_prm (q : ReqRef) (r : Rsp) : (s.finish q r).prm = s.prm := by rw [State.finish_frame]
@[simp] theorem State.finish_out (q : ReqRef) (r : Rsp) : (s.finish q r).out = s.out := by rw [State.finish_frame]
@[simp] theorem State.finish_flt (q : ReqRef) (r : Rsp) : (s.finish q r).flt = s.flt := by rw [State.finish_frame]
@[simp] theorem State.finish_cyc (q : ReqRef) (r : Rsp) : (s.finish q r).cyc = s.cyc := by rw [State.finish_frame]
@[simp] theorem State.finish_axes (q : ReqRef) (r : Rsp) : (s.finish q r).axes = s.axes := by rw [State.finish_frame]
@[simp] theorem State.finish_grps (q : ReqRef) (r : Rsp) : (s.finish q r).grps = s.grps := by rw [State.finish_frame]
@[simp] theorem State.finish_tides (q : ReqRef) (r : Rsp) : (s.finish q r).tides = s.tides := by rw [State.finish_frame]
@[simp] theorem State.finish_cams (q : ReqRef) (r : Rsp) : (s.finish q r).cams = s.cams := by rw [State.finish_frame]
@[simp] theorem State.finish_tiles (q : ReqRef) (r : Rsp) : (s.finish q r).tiles = s.tiles := by rw [State.finish_frame]
@[simp] theorem State.finish_safe (q : ReqRef) (r : Rsp) : (s.finish q r).safe = s.safe := by rw [State.finish_frame]
@[simp] theorem State.finish_fld (q : ReqRef) (r : Rsp) : (s.finish q r).fld = s.fld := by rw [State.finish_frame]
@[simp] theorem State.finish_can (q : ReqRef) (r : Rsp) : (s.finish q r).can = s.can := by rw [State.finish_frame]
@[simp] theorem State.finish_acq (q : ReqRef) (r : Rsp) : (s.finish q r).acq = s.acq := by rw [State.finish_frame]
@[simp] theorem State.finish_rcd (q : ReqRef) (r : Rsp) : (s.finish q r).rcd = s.rcd := by rw [State.finish_frame]
@[simp] theorem State.finish_life (q : ReqRef) (r : Rsp) : (s.finish q r).life = s.life := by rw [State.finish_frame]
@[simp] theorem State.finish_age (q : ReqRef) (r : Rsp) : (s.finish q r).age = s.age := by rw [State.finish_frame]
@[simp] theorem State.finish_emu (q : ReqRef) (r : Rsp) : (s.finish q r).emu = s.emu := by rw [State.finish_frame]

@[simp] theorem State.answer_pending (opc : Nat) (h : Hdr) (r : Rsp) : (s.answer opc h r).pending = s.pending := by rw [State.answer_frame]
@[simp] theorem State.answer_free (opc : Nat) (h : Hdr) (r : Rsp) : (s.answer opc h r).free = s.free := by rw [State.answer_frame]
@[simp] theorem State.answer_time (opc : Nat) (h : Hdr) (r : Rsp) : (s.answer opc h r).time = s.time := by rw [State.answer_frame]
@[simp] theorem State.answer_power (opc : Nat) (h : Hdr) (r : Rsp) : (s.answer opc h r).power = s.power := by rw [State.answer_frame]
@[simp] theorem State.answer_prm (opc : Nat) (h : Hdr) (r : Rsp) : (s.answer opc h r).prm = s.prm := by rw [State.answer_frame]
@[simp] theorem State.answer_out (opc : Nat) (h : Hdr) (r : Rsp) : (s.answer opc h r).out = s.out := by rw [State.answer_frame]
@[simp] theorem State.answer_flt (opc : Nat) (h : Hdr) (r : Rsp) : (s.answer opc h r).flt = s.flt := by rw [State.answer_frame]
@[simp] theorem State.answer_cyc (opc : Nat) (h : Hdr) (r : Rsp) : (s.answer opc h r).cyc = s.cyc := by rw [State.answer_frame]
@[simp] theorem State.answer_axes (opc : Nat) (h : Hdr) (r : Rsp) : (s.answer opc h r).axes = s.axes := by rw [State.answer_frame]
@[simp] theorem State.answer_grps (opc : Nat) (h : Hdr) (r : Rsp) : (s.answer opc h r).grps = s.grps := by rw [State.answer_frame]
@[simp] theorem State.answer_tides (opc : Nat) (h : Hdr) (r : Rsp) : (s.answer opc h r).tides = s.tides := by rw [State.answer_frame]
@[simp] theorem State.answer_cams (opc : Nat) (h : Hdr) (r : Rsp) : (s.answer opc h r).cams = s.cams := by rw [State.answer_frame]
@[simp] theorem State.answer_tiles (opc : Nat) (h : Hdr) (r : Rsp) : (s.answer opc h r).tiles = s.tiles := by rw [State.answer_frame]
@[simp] theorem State.answer_safe (opc : Nat) (h : Hdr) (r : Rsp) : (s.answer opc h r).safe = s.safe := by rw [State.answer_frame]
@[simp] theorem State.answer_fld (opc : Nat) (h : Hdr) (r : Rsp) : (s.answer opc h r).fld = s.fld := by rw [State.answer_frame]
@[simp] theorem State.answer_can (opc : Nat) (h : Hdr) (r : Rsp) : (s.answer opc h r).can = s.can := by rw [State.answer_frame]
@[simp] theorem State.answer_acq (opc : Nat) (h : Hdr) (r : Rsp) : (s.answer opc h r).acq = s.acq := by rw [State.answer_frame]
@[simp] theorem State.answer_rcd (opc : Nat) (h : Hdr) (r : Rsp) : (s.answer opc h r).rcd = s.rcd := by rw [State.answer_frame]
@[simp] theorem State.answer_life (opc : Nat) (h : Hdr) (r : Rsp) : (s.answer opc h r).life = s.life := by rw [State.answer_frame]
@[simp] theorem State.answer_age (opc : Nat) (h : Hdr) (r : Rsp) : (s.answer opc h r).age = s.age := by rw [State.answer_frame]
@[simp] theorem State.answer_emu (opc : Nat) (h : Hdr) (r : Rsp) : (s.answer opc h r).emu = s.emu := by rw [State.answer_frame]

/-- The recorder notes a request that has been taken, and nothing else changes. -/
theorem State.noteCmd_frame (opc : Nat) (h : Hdr) (pay : List Byte) : s.noteCmd opc h pay = { s with rcd := (s.noteCmd opc h pay).rcd } := rfl

/-- What taking the request of a command does. -/
theorem State.taken_of_form {i : Instr} {f : ReqForm} (hf : requestForm i = some f) : s.taken i = s.noteCmd f.opc f.h (requestPayload i) := by
  rw [State.taken, hf]

theorem State.taken_frame (i : Instr) : s.taken i = { s with rcd := (s.taken i).rcd } := by
  unfold State.taken
  split <;> rfl

end Sys2Proof.Machine
end

