-- ==== Sys2Proof/Laws/Settle.lean ====
section
/-! SUPPORT. What `settle`, the end of every meaning, does. -/

namespace Sys2Proof.Machine

theorem done_eq (s : State) : done s = .next (settle s) := rfl

theorem errPin_updateErr (s : State) : (updateErr s).errPin = s.errPin := rfl

/-- With nothing to decide and no dropped event, `settle` only sets ERR_N. -/
theorem settle_quiet {s : State} (h : s.Quiet) : settle s = { s with flt := { s.flt with errLow := s.errPin } } := by
  obtain ⟨h1, h2⟩ := h
  obtain ⟨pending, free, time, power, prm, host, out, flt, cyc, axes, grps, tides, cams, tiles, fab, safe, fld, can, acq, rcd, life, age,
    emu⟩ := s
  cases flt; cases host
  simp only at h1 h2
  subst h1; subst h2
  unfold settle
  split <;> rfl

/-- After `settle` nothing waits and ERR_N is right. -/
theorem settle_settled (s : State) : (settle s).Settled := by
  unfold settle
  split <;> exact ⟨⟨rfl, rfl⟩, rfl⟩

theorem settle_idem (s : State) : settle (settle s) = settle s := by
  have h := settle_settled s
  rw [settle_quiet h.1, ← h.2]

theorem begin_quiet {s : State} (h : s.Quiet) (t : Nat) : (s.begin t).Quiet := h

end Sys2Proof.Machine
end

