-- ==== Sys2Proof/Tests/Slice0.lean ====
section
/-! SUPPORT. The model's own tests: ill-formed commands that `Instr.wf` refuses, states and operands that meet the hypotheses of every
statement, and single steps with results taken from the spec. -/

namespace Sys2Proof.Tests

set_option Elab.async false

open Sys2Proof.Machine

/-! ### Small states -/

/-- A powered module in INTEGRATE with its firmware ready; its firmware has been up for 1 ms and its anchor stands at 0. -/
def ready : State := { State.reset with
  power := { on := Vector.replicate 14 true, vsysMv := 24000, vbakMv := 3000, temp := 500 }
  host := { hostState := 2 }
  life := { lc := 1, fuse := 1 }
  time := { lt := 1000000 } }

/-- A request header for this node on ring 0 with an inline payload of `n` bytes. -/
def hd (n : Nat) : Hdr := ⟨0, none, 7, n, false, false, false, 0xFF, 0⟩

/-- The same with `n` bytes of bulk data at the start of the bulk area. -/
def hb (n : Nat) : Hdr := ⟨0, none, 7, n, true, false, false, 0xFF, 0⟩

/-- The state in which a request at LT 2 ms is judged. -/
def asked (s : State) (i : Instr) : State := (s.begin 2000000).taken i

/-- A state with one axis changed. -/
def withAx (s : State) (f : Axis → Axis) : State := s.modAxis 0 f

/-! ### Hypotheses that are met: requests -/

theorem test_meets_StepKeepsSettled : State.reset.Settled ∧ ready.Quiet := by decide +kernel

theorem test_meets_CollectorDecidesInOrder :
    ready.domOn .sup = true ∧
    [⟨0x0202, 0xFF, none, false, none, 0⟩, ⟨0x0101, 0xFF, none, false, none, 0⟩].Perm
      [(⟨0x0101, 0xFF, none, false, none, 0⟩ : Occ), ⟨0x0202, 0xFF, none, false, none, 0⟩] ∧
    (([⟨0x0101, 0xFF, none, false, none, 0⟩, ⟨0x0202, 0xFF, none, false, none, 0⟩] : List Occ).foldl decideOcc ready).host.evtDropped = 0 := by
  decide +kernel

theorem test_meets_RequestThatCannotBeTaken : (State.reset.begin 5).canTake (hd 0) = false ∧ requestForm (.check 5 (hd 0)) = some ⟨5, hd 0, 0x0110, 0, false, false⟩ := by
  decide +kernel

theorem test_meets_WrongLength : (ready.begin 5).canTake (hd 7) = true ∧ lengthOk (hd 7) 8 false false = false ∧ lengthOk (hd 57) 8 false false = false := by
  decide +kernel

/-- A request of tag 7 for node 5, which no table holds. -/
theorem test_meets_RequestForAnUnknownNode :
    (ready.begin 5).canTake { hd 0 with target := 5 } = true ∧ (ready.begin 5).isLocal { hd 0 with target := 5 } = false ∧ ready.fab.ttNow = 0xF := by
  decide +kernel

theorem test_meets_ScrapRefusesRequests :
    (({ ready with life := { ready.life with lc := 4 } } : State).begin 5).Serves (hd 4) 4 false false := by
  decide +kernel

theorem test_meets_RequestsSpellTheirCommands :
    (Instr.faultInject 5 (hd 12) 15 0xFFFF 0xFFFF 0xFFFFFFFF).wf = true ∧ (hd 12).wf = true ∧
    (requestPayload (.faultInject 5 (hd 12) 2 0x0201 0x72 1000)).length = 12 := by
  decide +kernel

theorem test_meets_EntriesAreRead :
    ready.MemOk ∧ (ready.host.evtProd - ready.host.evtCons).toNat < 64 ∧
    64 ≤ (({ ready.host with evtProd := 64 } : HostState).evtProd - ready.host.evtCons).toNat ∧
    (ready.host.rings.get 3).rspRoom ≠ 0 ∧ ({ rspProd := 64 } : Ring).rspRoom = 0 := by
  decide +kernel

theorem test_meets_ParameterAccess_get :
    (asked ready (.paramGet 2000000 (hd 6) (pFltClassBaseLevel * 256) 1 0)).Serves (hd 6) 6 true false ∧ (asked ready (.paramGet 2000000 (hd 6) (pFltClassBaseLevel * 256) 1 0)).life.lc ≠ 4 ∧
    (idRow (pFltClassBaseLevel * 256) 1).any (fun r => decide ((r.n = 0 → 1 = 1) ∧ r.n ≠ 0 ∧ 1 * r.valueSize ≤ 48)) = true ∧
    (idRow (pAxLnkEnable * 256) 32).any (fun r => decide (r.n ≠ 0 ∧ 32 * r.valueSize ≤ 48)) = true := by
  decide +kernel

theorem test_meets_ParameterAccess_set :
    (asked ready (.paramSet 2000000 (hd 9) (pHostEthMode * 256) 1 [2])).Serves (hd 9) 8 true false ∧
    (idRow (pHostEthMode * 256) 1).any (fun r => decide (r.n ≠ 0 ∧ (hd 9).length = 8 + r.valueSize ∧ [(2 : Byte)].length = r.valueSize ∧
      badValue r 1 [2] = none ∧ testRange ready r (instVals r 0 1 [2]) = none ∧ setState ready r (instVals r 0 1 [2]) = false ∧
      r.key / 256 ≠ 7)) = true := by
  decide +kernel

theorem test_meets_ParameterAccess_stage :
    (asked ready (.paramStage 2000000 (hd 9) (pAxMotKind * 256 + 31) 1 0 [0])).Serves (hd 9) 8 true false ∧ ready.prm.pend = none ∧ ready.prm.frozen = false ∧
    (idRow (pAxMotKind * 256 + 31) 1).any (fun r => decide (r.n ≠ 0 ∧ r.app = .commit ∧ (hd 9).length = 8 + r.valueSize ∧
      [(0 : Byte)].length = r.valueSize ∧ badValue r 1 [0] = none)) = true := by
  decide +kernel

theorem test_meets_ApplyCode :
    (rowOf pAxLnkEnable).any (fun r => decide (r.app = .now)) = true ∧ (rowOf pAxModeTorqueRef).any (fun r => decide (r.app = .cycle)) = true ∧
    (rowOf pHostEthMode).any (fun r => decide (r.app = .reset)) = true ∧ ready.inGap = false ∧
    ({ ready with cyc := { cycling := true, start := 997672 } } : State).inGap = true ∧ (rowOf pAxMotKind).any (fun r => decide (r.app = .commit)) = true ∧
    (rowOf pAxHomeStatus).any (fun r => decide (r.app = .ro)) = true := by
  decide +kernel

/-- The undercoat is frozen by an announced APPLY. -/
def frozenS : State := { ready with prm := { ready.prm with frozen := true } }

theorem test_meets_FrozenBank :
    (asked frozenS (.discard 2000000 (hd 0))).Serves (hd 0) 0 false false ∧ (asked frozenS (.discard 2000000 (hd 0))).life.lc ≠ 4 ∧ (asked frozenS (.discard 2000000 (hd 0))).prm.frozen = true ∧
    (idRow (pAxMotKind * 256) 1).any (fun r => decide (valuesFit r 8 1 9 [0] = true ∧ badValue r 1 [0] = none ∧ r.app = .commit)) = true ∧
    (idRow (pAxLnkEnable * 256) 1).any (fun r => decide (valuesFit r 8 1 9 [1] = true ∧ badValue r 1 [1] = none ∧ r.app = .now ∧
      testRange frozenS r (instVals r 0 1 [1]) = none ∧ setState frozenS r (instVals r 0 1 [1]) = false ∧ r.key / 256 ≠ 7)) = true := by
  decide +kernel

theorem test_meets_BankRequests :
    let b := asked ready (.apply 2000000 (hd 8) 0 0)
    b.Serves (hd 8) 0 false false ∧ b.Serves (hd 8) 8 false false ∧ b.life.lc ≠ 4 ∧ checkBank b b.prm.undercoat = none ∧ b.applyState = false ∧
      b.prm.pend = none ∧ b.prm.frozen = false ∧ b.prm.persist = none ∧ b.replayClash = false := by
  decide +kernel

theorem test_meets_BankRequests_trace :
    (asked ready (.traceSetup 2000000 (hb 12) [(pAcqChSource * 256, 0)])).Serves (hb 12) 1 true true ∧ ready.acq.armed = false ∧
    (pairRow (pAcqChSource * 256)).any (fun r => decide (firstBad r 0 (pairVal r 0) = none ∧ 0 < 2 ^ (8 * r.sz))) = true := by
  decide +kernel

/-- Axis 0 in RUN, disabled, in Position mode. -/
def runAx : State := withAx ready (fun x => { x with mode := 2, link := { x.link with st := .run } })

/-- The same in a module that cycles, with the outputs closed and an axis module that suits the axis. -/
def fitAx : State := { withAx runAx (fun x => { x with
    link := { x.link with idRegs := [(5, 0xFFFF), (6, 1000000), (7, 1000000), (9, 0)] }, cur := { x.cur with coefReady := true }, fb := { x.fb with commExact := true } }) with
  cyc := { cycling := true, computed := 9 }
  safe := { soa := true, sob := true } }

/-- Axis 0 in RUN and enabled in Position mode, in a module that cycles. -/
def onAx : State := { withAx runAx (fun x => { x with enabled := true }) with cyc := { cycling := true } }

/-- The same with a value of the topcoat. -/
def setTop (s : State) (key inst : Nat) (v : List Int) : State := { s with prm := { s.prm with topcoat := bankSet s.prm.topcoat key inst v } }

theorem test_meets_EnableAndMode_enable :
    let b := asked fitAx (.axisEnable 2000000 (hd 4) 1)
    b.Serves (hd 4) 4 false false ∧ b.life.lc ≠ 4 ∧
      (maskAxes 1).filter (fun a => !(b.ax a).enabled) = [0] ∧ (b.ax 0).link.st = .run ∧ enableRange b 0 = false ∧ enableState b 0 = false ∧
      enableBusy b 1 0 = false ∧ (maskAxes 1).filter (fun a => !((asked onAx (.axisEnable 2000000 (hd 4) 1)).ax a).enabled) = [] := by
  decide +kernel

theorem test_meets_EnableAndMode_mode :
    let b := asked onAx (.modeSet 2000000 (hd 2) 0 1)
    let d := asked runAx (.modeSet 2000000 (hd 2) 0 1)
    let c : State := { d with cyc := { cycling := true } }
    b.Serves (hd 2) 2 false false ∧ (b.ax 0).mode = 2 ∧ modeState b 0 1 = false ∧ modeBusy b 0 = false ∧ (b.ax 0).enabled = true ∧
      modeState d 0 1 = false ∧ modeBusy d 0 = false ∧ (d.ax 0).enabled = false ∧ d.cyc.cycling = false ∧ modeBusy c 0 = false ∧
      modeState c 0 0 = false ∧ modeState d 0 6 = false ∧ d.testOpen = true := by
  decide +kernel

theorem test_meets_EnableAndMode_geared :
    let b := asked (setTop onAx pAxGearMaster 0 [1]) (.modeSet 2000000 (hd 2) 0 3)
    (b.ax 0).mode ≠ 3 ∧ firstFail (gearChecks b 0 (gearOfMode b 0)) = none := by
  decide +kernel

theorem test_meets_DisabledAxes : (31 : AxisId) ∈ maskAxes 0x80000000 ∧ (0 : AxisId) ∈ maskAxes 1 := by decide +kernel

/-- An absolute move of axis `tgt` to `p`. -/
def mv (tgt kind : Nat) (p : Int) : MoveReq := ⟨tgt, kind, 0, false, false, false, 0, 65535, 65535, 65535, 65535, 0, 0, p, 0, 0, 0, []⟩

theorem test_meets_MoveRequests :
    (asked runAx (.moveQueue 2000000 (hd 49) (mv 0 0 1000))).Serves (hd 49) 49 true false ∧ firstFail (axMoveChecks (asked runAx (.moveQueue 2000000 (hd 49) (mv 0 0 1000))) 0 (mv 0 0 1000)) = none ∧
    firstFail (axMoveChecks (asked runAx (.moveQueue 2000000 (hd 49) (mv 0 0 1000))) 0 { mv 0 1 (-1000) with replace := true }) = none ∧
    firstFail (grpMoveChecks (asked runAx (.moveQueue 2000000 (hd 49) (mv 0 0 1000))) 7 (mv 0x87 7 0)) = none ∧ (asked runAx (.stop 2000000 (hd 1) 0)).Serves (hd 1) 1 false false := by
  decide +kernel

/-- A jog of axis 0. -/
def jg (kind : Nat) (v : Int) : JogReq := ⟨0, kind, 65535, 65535, 65535, 65535, v⟩

theorem test_meets_Jog :
    let b := asked (withAx onAx (fun x => { x with mode := 4 })) (.jog 2000000 (hd 24) (jg 0 (-100)))
    b.Serves (hd 24) 24 false false ∧ (b.ax 0).mode = 4 ∧ (b.ax 0).prof.stopping = false ∧ b.groupOf 0 = none ∧
      jogDir (b.ax 0) (jg 0 (-100)) = -1 ∧ jogDir (b.ax 0) (jg 1 100) = 1 ∧ jogDir (b.ax 0) (jg 0 0) = 0 ∧
      swActive b 0 .pos = false ∧ swActive b 0 .neg = false := by
  decide +kernel

theorem test_meets_Home :
    let b := asked onAx (.home 2000000 (hd 1) 0)
    let d := asked (setTop runAx pAxHomeMethod 0 [5]) (.home 2000000 (hd 1) 0)
    b.Serves (hd 1) 1 false false ∧ (b.ax 0).home.req = none ∧ (b.ax 0).enabled = true ∧ (b.ax 0).mode = 2 ∧ atRest b 0 = true ∧
      (b.ax 0).prof.queue = [] ∧ (b.ax 0).prof.repl = none ∧ (d.ax 0).home.req = none ∧ (d.ax 0).enabled = false ∧ d.pa pAxHomeMethod 0 = 5 := by
  decide +kernel

/-- Both channels are armed with a window on the second. -/
theorem test_meets_Latch :
    let l : LatchReq := ⟨0, 3, 0, 0, 5, 6⟩
    let b := asked (setTop onAx pAxFbLatch1Cfg 0 [0x0800 + 8]) (.latchArm 2000000 (hd 40) l)
    b.Serves (hd 40) 40 false false ∧ (b.ax 0).link.st = .run ∧ fieldOf (latchCfg b 0 0) 11 2 = 0 ∧ fieldOf (latchCfg b 0 1) 11 2 ≠ 0 ∧
      l.win1Start < l.win1End := by
  decide +kernel

/-- A tide definition of one segment of constant velocity without end. -/
def tideBody : List Byte := [0, 0, 1, 0] ++ List.replicate 540 0

/-- A node of address 1 that is the origin of tide 0. -/
def originS : State := { setTop (setTop ready pTideSource 0 [1]) pTideOriginNode 0 [1] with fab := { addr := 1 } }

theorem test_meets_TideDefine :
    (asked originS (.tideDefine 2000000 (hb 544) tideBody)).Serves (hb 544) 544 true true ∧ tideBody.length = 544 ∧ getU tideBody 0 1 = 0 ∧ tideBad tideBody = none ∧
    (asked originS (.tideDefine 2000000 (hb 544) tideBody)).tideOrigin 0 = true := by
  decide +kernel

theorem test_meets_TideSchedule :
    let b := asked (originS.modTide 0 (fun x => { x with staged := some (tideBody, 0) })) (.tideSchedule 2000000 (hd 8) 0 17)
    b.Serves (hd 8) 8 false false ∧ extendN b.fabN 17 - b.fabN = 17 ∧ b.tideOrigin 0 = true ∧ (b.tides.get 0).staged.isSome = true ∧
      (b.tides.get 0).pend = none ∧
      b.pendBlocks (b.modTide 0 (fun x => { x with pend := some (schedule b 0 17) })) = false := by
  decide +kernel

/-- An engage of axis 0 to tide 0 with ratio 1. -/
def gq : GearReq := ⟨0, 0, 0, 0, 1, 1, 1, 1073741824, 0, 0, 0, 0⟩

theorem test_meets_GearEngage :
    let b := asked onAx (.gearEngage 2000000 (hd 56) gq)
    b.Serves (hd 56) 56 false false ∧ firstFail (gearChecks b 0 (gearFill b 0 gq)) = none := by
  decide +kernel

/-- The four points of the smallest table in one load, and its first two with MORE. -/
theorem test_meets_CamLoad :
    let c : CamReq := ⟨63, 4, 400, 0, [0, 100, 200, 300]⟩
    let b := asked ready (.camLoad 2000000 (hb 52) c)
    b.Serves (hb 52) 20 true true ∧ c.table ≤ 63 ∧ camSizeOk c.n = true ∧ b.camFlash c.table + 8 * c.n ≤ 24 * 2 ^ 20 ∧
      camInOrder (b.cam c.table) c = true ∧ b.camAxes c.table = [] ∧
      ((b.cam c.table).soFar c.segOfs ++ c.ys).length = c.n ∧ ((b.cam c.table).soFar 0 ++ [0, 100]).length ≤ c.n := by
  decide +kernel

/-- A module whose slot 4 holds a record of VSYS_LOW in a given state. -/
def recS (st : Nat) : State := { ready with
  flt := { ready.flt with newest := 4, recs := [(4, { code := 0x0202, unit := 0xFF, cls := 2, state := st })] } }

theorem test_meets_FaultRequests :
    (asked (recS 1) (.faultRead 2000000 (hd 4) 4 1)).Serves (hd 4) 4 true false ∧ (asked (recS 1) (.faultRead 2000000 (hd 4) 4 1)).flt.newest ≠ 0xFFFF ∧ (asked ready (.faultRead 2000000 (hd 4) 0xFFFF 1)).flt.newest = 0xFFFF ∧
    (asked (recS 2) (.faultAck 2000000 (hd 2) 4)).Serves (hd 2) 2 false false ∧ ((asked (recS 2) (.faultAck 2000000 (hd 2) 4)).frec 4).state = 2 ∧ ((asked (recS 1) (.faultAck 2000000 (hd 2) 4)).frec 4).state = 1 := by
  decide +kernel

theorem test_meets_FaultInject :
    let b := asked ready (.faultInject 2000000 (hd 12) 2 0x0202 0xFF 3600000000)
    let met : Occ := ⟨0x0202, 0xFF, none, false, none, 0⟩
    b.Serves (hd 12) 12 false false ∧ (codeRow 0x0202).any (fun r => unitIs r.kind 0xFF) = true ∧ 0x0202 / 256 = 2 ∧ b.life.lc = 1 ∧
      b.findRec met (fun _ => true) = none ∧ b.freeSlot = some 0 ∧ 1 ≤ 3600000000 := by
  decide +kernel

theorem test_meets_FirstOccurrence :
    let o : Occ := ⟨0x0203, 0xFF, none, false, none, 0⟩
    ready.findRec o (fun _ => true) = none ∧ ready.p1 pModRm8FaultMode 0 ≠ 1 ∧ ready.freeSlot = some 0 ∧
      ready.otherOpen 2 0 none = false ∧ max (o.level.getD (defaultLevel o.code o.unit)) (ready.pn pFltClassBaseLevel 2) ≤ 1 := by
  decide +kernel

theorem test_meets_Recorder :
    let b := asked ready (.traceArm 2000000 (hd 1) 1)
    let c := asked ({ ready with cyc := { cycling := true } }) (.traceArm 2000000 (hd 1) 1)
    b.Serves (hd 1) 1 false false ∧ c.Serves (hd 1) 1 false false ∧ c.cyc.cycling = true ∧ c.acq.armed = false ∧ b.rcd.replay = none ∧
      (asked ready (.traceRead 2000000 (hb 8) 0)).Serves (hb 8) 1 true true := by
  decide +kernel

/-- A frozen ring of one block with its snapshot, and no axis in use. -/
def frozenRing : State := { ready with
  rcd := { frozen := true, snaps := [(3, 0, crc32 [])], blocks := [⟨3, 0, [], true, true, {}, {}, []⟩] } }

/-- R553: an AXIS entry whose 80 upstream bytes and 48 downstream bytes all change has 16 bytes of BITMAP and 128 XOR bytes; one with a lost
upstream frame and byte 47 of the downstream payload changed has one, at bit 127. -/
theorem test_axisEntry :
    let s := withAx onAx (fun x => { x with link := { x.link with fresh := true, upRaw := List.replicate 80 0x5A, dnRaw := List.replicate 48 1 } })
    let s1 : State := { s with out := { link := [(0, [])] } }
    let s2 := withAx s1 (fun x => { x with link := { x.link with fresh := false, dnRaw := List.replicate 47 0 ++ [0x81] } })
    axisEntry s1 0 = [1, 0, 144, 0] ++ List.replicate 16 0xFF ++ List.replicate 80 0x5A ++ List.replicate 48 1 ∧
    axisEntry s2 0 = [1, 0, 17, 0] ++ List.replicate 15 0 ++ [0x80, 0x81] := by
  decide +kernel

/-- R553: a CMD entry is the 64-byte request entry as taken under its ring, with the bulk bytes after it. -/
theorem test_cmdEntry :
    (asked onAx (.axisDisable 2000000 (hd 4) 1)).rcd.cmds = [⟨2000000, 0, [2, 2, 7, 0, 4, 0, 0, 0xFF, 1, 0, 0, 0] ++ List.replicate 52 0⟩] ∧
    (asked onAx (.traceSetup 2000000 (hb 12) [(5, 6)])).rcd.cmds.map (fun e => e.body.drop 64) = [[5, 0, 0, 0, 6, 0, 0, 0, 0, 0, 0, 0]] ∧
    (asked ready (.axisDisable 2000000 (hd 4) 1)).rcd.cmds = [] := by
  decide +kernel

theorem test_meets_ReplayRun :
    let b := asked (setTop frozenRing pCycSpareMode 0 [1]) (.replayRun 2000000 (hd 12) 3 1 1)
    b.Serves (hd 12) 12 false false ∧ b.life.lc = 1 ∧ b.window = (3, 3) ∧ (extendN b.fabN 3).toNat = 3 ∧ b.rcd.frozen = true ∧
      b.replayTile = some 4 ∧ b.rcd.replay = none ∧ b.snapFor 3 = some (3, 0, crc32 b.tiles.image) ∧ b.snapFor 0 = some (3, 0, crc32 b.tiles.image) := by
  decide +kernel

/-- A record of network time. -/
def ntr : NtRec := ⟨1, 0, 0, true, false, false, false, false, 0, 0, 1, 0, 0, 0, 0⟩

theorem test_meets_TimeRequests :
    let p : TqReq := ⟨0, 1, 0, 0, 0, 3000000, 0, 1000000, 1000⟩
    let s1 : State := { ready with prm := { ready.prm with live := bankSet [] pTimeTqMode 0 [1], topcoat := bankSet [] pTimeTqMode 0 [1], resetLive := bankSet [] pTimeTqMode 0 [1] } }
    (asked ready (.timeGet 2000000 (hd 0))).time.nt = none ∧ (asked { ready with time := { ready.time with nt := some ntr } } (.timeGet 2000000 (hd 0))).time.nt = some ntr ∧
    (asked s1 (.timedOutput 2000000 (hd 32) p)).Serves (hd 32) 32 false false ∧ (asked s1 (.timedOutput 2000000 (hd 32) p)).p1 pTimeTqMode 0 = 1 ∧ firstFail (tqRange (asked s1 (.timedOutput 2000000 (hd 32) p)) p) = none ∧
    firstFail (tqRange (asked s1 (.timedOutput 2000000 (hd 32) p)) { p with kind := 2 }) = none ∧ ((asked s1 (.timedOutput 2000000 (hd 32) p)).time.tq.get 0).pulseEnd = none := by
  decide +kernel

theorem test_meets_TimeAcceptJump :
    let b := asked { ready with time := { ready.time with isSource := true, jumpPending := true } } (.timeAcceptJump 2000000 (hd 8) 0)
    b.Serves (hd 8) 8 false false ∧ b.time.isSource = true ∧ b.time.jumpPending = true := by
  decide +kernel

/-- The harbour node of a fabric of one node in startup mode, and the smallest timetable that it accepts. -/
def harbour : State := { setTop ready pFabHarbour 0 [1] with
  prm := { ready.prm with topcoat := bankSet [] pFabHarbour 0 [1], live := bankSet [] pFabHarbour 0 [1], resetLive := bankSet [] pFabHarbour 0 [1] }
  fab := { addr := 0, st := 4, topoCrc := 5, nodes := [{ uid := 0, addr := 0, ports := 0 }] } }

def oneTable : List Byte := [0, 0] ++ toLE 2 2 ++ [0, 0, 0, 0] ++ toLE 4 (harbour.cycleNs : Nat) ++ toLE 4 5 ++ List.replicate 16 0 ++
  toLE 4 10000 ++ toLE 2 96 ++ [0, 1] ++ List.replicate 8 0 ++ toLE 4 30000 ++ toLE 2 72 ++ [0, 4] ++ List.replicate 8 0

theorem test_meets_FabricRequests :
    let b := asked harbour (.fabricDiscover 2000000 (hd 0))
    b.Serves (hd 0) 0 false false ∧ b.isHarbour = true ∧ b.fab.st = 4 ∧ b.startupMode = true ∧ b.fab.discover = none ∧
      (asked harbour (.timetableLoad 2000000 (hb 64) oneTable)).Serves (hb 64) 32 true true ∧ tableBad (asked harbour (.timetableLoad 2000000 (hb 64) oneTable)) oneTable = none ∧ b.fab.ttLoad = none ∧
      tableBad b [0] = some (1, 0xFFFF) := by
  decide +kernel

theorem test_meets_TimetableSwitch :
    let s : State := { harbour with fab := { harbour.fab with tables := [(7, ⟨oneTable, 0⟩)] } }
    let b := asked s (.timetableSwitch 2000000 (hd 1) 7)
    let c := asked { s with fab := { s.fab with ttNow := 7, st := 5 } } (.timetableSwitch 2000000 (hd 1) 7)
    b.Serves (hd 1) 1 false false ∧ b.lacksTable 7 = false ∧ b.anyEnabled = false ∧ b.isHarbour = true ∧ b.fab.ttPend = none ∧
      b.startupMode = true ∧ c.startupMode = false ∧ c.lacksTable 7 = false ∧ c.anyEnabled = false := by
  decide +kernel

theorem test_meets_Lifecycle_bist :
    let b := asked ready (.bistRun 2000000 (hd 1) 0)
    b.Serves (hd 1) 1 false false ∧ b.life.lc = 1 ∧ b.openState = true ∧ b.anyAxisOn = false ∧ b.railOk = true ∧ b.refOk = true ∧ b.lidOk = true ∧
      b.prm.pend = none ∧ b.rcd.replay = none ∧ b.tiles.takeover = none ∧ b.life.bist = none := by
  decide +kernel

/-- From INTEGRATE to FIELD with a session that was opened 60 s ago. -/
theorem test_meets_Lifecycle_advance :
    let b := asked { ready with life := { ready.life with serviceAuth := some 0 }, time := { ready.time with lt := 60000000000 } } (.lifecycleAdvance 2000000 (hd 1) 2 [])
    b.Serves (hd 1) 1 true false ∧ transition b.life.lc 2 = some 1 ∧ b.authorised 1 = true ∧ b.anyAxisOn = false ∧ b.ss1Runs = false ∧
      b.life.bist = none ∧ b.life.update = none ∧ b.vsysOk = true ∧ b.life.advance = none ∧ b.life.resetDue = none := by
  decide +kernel

/-- An open nonce of KIND 0 and the password of 8 bytes, or of KIND 1. -/
def nonceS (k : Nat) : State := { ready with
  life := { ready.life with nonce := some (k, List.replicate 32 1, 60000000000), pwHash := pwHashOf 0 (List.replicate 8 0x41) } }

theorem test_meets_Lifecycle_response :
    let b := asked (nonceS 0) (.debugResponse 2000000 (hd 8) (List.replicate 8 0x41))
    let c := asked (nonceS 1) (.debugResponse 2000000 (hb 64) (List.replicate 64 0))
    b.Serves (hd 8) 0 true false ∧ b.openNonce = some (0, List.replicate 32 1) ∧ (hd 8).bulk = false ∧ b.life.authFails < 3 ∧
      responseOk b 0 (List.replicate 32 1) (List.replicate 8 0x41) = true ∧ responseOk b 0 (List.replicate 32 1) (List.replicate 8 0x42) = false ∧
      c.Serves (hb 64) 0 true false ∧ c.openNonce = some (1, List.replicate 32 1) ∧ responseOk c 1 (List.replicate 32 1) (List.replicate 64 0) = false := by
  decide +kernel

theorem test_meets_Challenge :
    let b := asked ready (.debugChallenge 2000000 (hd 1) 0)
    let f := asked { ready with life := { ready.life with lc := 2 } } (.debugChallenge 2000000 (hd 1) 0)
    b.Serves (hd 1) 1 false false ∧ b.life.lc = 1 ∧ b.life.authFails < 3 ∧ f.life.lc = 2 ∧ ¬ ((0 = 0 ∧ f.life.lc = 1) ∨ (0 = 1 ∧ (f.life.lc = 1 ∨ f.life.lc = 2)) ∨ (0 = 2 ∧ f.life.lc ≤ 3)) ∧
      b.openNonce = none ∧ (nonceS 0).life.nonce.isSome = true := by
  decide +kernel

theorem test_meets_FwUpdate :
    let b := asked ready (.fwUpdateBegin 2000000 (hd 8) 128 0x00010303)
    let c := asked { ready with life := { ready.life with update := some (128, 0x00010303, [1, 2]) } } (.fwUpdateData 2000000 (hb 6) 2 [1, 2])
    b.Serves (hd 8) 8 false false ∧ b.life.update = none ∧ c.Serves (hb 6) 4 true true ∧ c.life.update = some (128, 0x00010303, [1, 2]) ∧
      (asked ready (.fwUpdateEnd 2000000 (hd 1) 0)).Serves (hd 1) 1 false false ∧ imageCheck c 128 0x00010303 [1, 2] = some stAuth ∧ stAuth ≠ stPending := by
  decide +kernel

/-- The least configuration block for UID 0. -/
def block0 : List Byte :=
  let l : List Byte := [1, 0, 0xFF, 0] ++ toLE 2 20 ++ toLE 2 20 ++ toLE 2 5 ++ List.replicate 242 0
  l ++ toLE 4 (crc32c l)

theorem test_meets_SafetyConfig :
    let b := asked ready (.safetyConfig 2000000 (hb 256) block0)
    b.Serves (hb 256) 1 true true ∧ (hb 256).length = 256 ∧ b.life.lc ≠ 2 ∧ b.ss1Runs = false ∧ getU block0 12 4 = b.configCrc ∧
      blockRange b.host.ident.uid block0 = none ∧ blockConds b block0 = none ∧ b.safe.writing = none := by
  decide +kernel

/-- An image of a header alone, version 3.3.1, with the signature that the example key of RFC 6979 A.2.5 gives it. -/
def signedImage : List Byte := [0x41, 0x4D, 0x47, 0x52, 3, 3, 1, 0] ++ toLE 4 128 ++ List.replicate 52 0 ++
  toBE 32 0xefd48b2aacb6a8fd1140dd9cd45e81d69d2c877b56aaf991c34d0ea84eaf3716 ++
  toBE 32 0xbe866efb433643c0c1cfb783fa5d98467759e09ecd9e422674862831ef0f2bdb

/-- Under a firmware key that signed it, the image passes its check (the firmware key itself is a free constant, log 5). -/
theorem test_meets_imageCheck (hk : keyPoint firmwareKey = (0x60fed4ba255a9d31c961eb74c6356d68c049b8923b61fa6ce669622e60f29fb6,
    0x7903fe1008b8bc99a41ae9e95628bc64f2f1b20c2d7e9f5177a3c294d4462299)) : imageCheck ready 128 0x00010303 signedImage = none := by
  unfold imageCheck; rw [hk]; decide +kernel

/-! ### Hypotheses that are met: the two host ports -/

/-- Both ports are open. -/
def bothPorts : State := { ready with prm := { ready.prm with resetLive := bankSet [] pHostEthMode 0 [1] } }

theorem test_meets_RingIndexWrites :
    let b := bothPorts.begin 5
    b.portOn .qspi = true ∧ b.portOn .eth = true ∧ (b.host.rings.get 3).port = 0 ∧
      ((64 : Word16) - (b.host.rings.get 3).reqCons).toNat ≤ 64 ∧ 64 < ((65 : Word16) - (b.host.rings.get 3).reqCons).toNat ∧
      ((b.host.rings.get 3).rspProd - (b.host.rings.get 3).rspCons).toNat < ((1 : Word16) - (b.host.rings.get 3).rspCons).toNat ∧
      (b.host.evtProd - b.host.evtCons).toNat < ((0xFFFF : Word16) - b.host.evtCons).toNat := by
  decide +kernel

theorem test_meets_ForeignAndClosedPorts :
    let b := (bothPorts.modRing 0 (fun r => { r with port := 2 })).begin 5
    b.portOn .qspi = true ∧ (b.host.rings.get 0).port ≠ 0 ∧ (b.host.rings.get 0).port ≠ portCode .qspi ∧
      (ready.begin 5).portOn .eth = false ∧ (State.reset.begin 5).portOn .qspi = false := by
  decide +kernel

/-- Object 1 of channel 0 is a transmit object. -/
def objBytes (o : Nat) (e : List Byte) : List Int := (List.replicate (16 * o) (0 : Byte) ++ e).map (fun (b : Byte) => (b.toNat : Int))

theorem test_meets_RegisterWrites :
    let b := ({ setTop bothPorts pCanObjects 0 (objBytes 1 [1, 0, 0, 0, 0, 0, 0, 0, 2, 0, 0, 0, 0, 0, 0, 0]) with host := { bothPorts.host with canSel := (1, 0) } } : State).begin 5
    let c := ({ bothPorts with host := { bothPorts.host with silent := true, hostWd := 1 } } : State).begin 5
    let d := ({ bothPorts with host := { bothPorts.host with hostWd := 1 } } : State).begin 1000000
    b.portOn .qspi = true ∧ b.host.silent = false ∧ c.host.silent = true ∧ c.portOn .eth = true ∧ b.objReserved 0 1 = false ∧ b.objKind 0 1 = 2 ∧
      selCh (b.selOf .qspi) = 0 ∧ b.selOf .qspi % 128 = 1 ∧ d.host.lastBeat + d.host.hostWd * 1000000 = d.time.lt ∧ d.host.silent = false ∧ b.host.hostWd = 0 := by
  decide +kernel

theorem test_meets_BulkArea :
    let b := bothPorts.begin 5
    let f : EthFrame := ⟨1, 1, 1, 9, 0xC000, 4, []⟩
    b.MemOk ∧ b.portOn .qspi = true ∧ 0xC000 ≤ (0xFFFF : Word16).toNat ∧ (0xFFFF : Word16).toNat + [(1 : Byte)].length ≤ 0x10000 ∧
      ethBad f = none ∧ ethBad { f with kind := 2, data := [1, 2, 3, 4] } = none ∧ ethBad { f with addr := 0xFFFC, kind := 2, data := [1, 2, 3, 4] } = none := by
  decide +kernel

theorem test_meets_FramesAndTransactions :
    let b := bothPorts.begin 5
    b.portOn .eth = true ∧ ethBad ⟨1, 2, 1, 9, 0xC000, 4, []⟩ ≠ none ∧ (0x3FF : Word16).toNat + 1 ≤ 0x400 ∧ 0x400 ≤ (0x400 : Word16).toNat ∧
      b.host.ethUp ≠ true ∧ b.p1 pHostEthMode 0 ≠ 0 ∧ (⟨0x88B5, 0, false⟩ : EthHead).taken = false := by
  decide +kernel

/-- The entry that the pass takes is all zero: its opcode 0 is none of R438, and the request can be taken. -/
theorem test_meets_ServicePass :
    let s : State := memErrors [] ((ready.modRing 2 (fun r => { r with reqProd := 1 })).begin 5)
    let e := memReadN s.host.mem (0x1000 + 0x1000 * 2 + 64 * ((s.host.rings.get 2).reqCons.toNat % 64)) 64
    let m : State := { s with host := { s.host with remoteIn := [⟨1, 3, 7, List.replicate 64 0⟩] } }
    m.remoteFirst = some ⟨1, 3, 7, List.replicate 64 0⟩ ∧ s.remoteFirst = none ∧ (memErrors [.dramCe] ready).remoteFirst = none ∧
    s.host.hostState = 2 ∧ s.nextRing = some 2 ∧ (memErrors [.dramCe] ready).nextRing = none ∧ (memErrors [] State.reset).host.hostState ≠ 2 ∧
      getU e 0 2 = 0 ∧ ((s.modRing 2 (fun r => { r with reqCons := r.reqCons + 1 })).begin 5).canTake (entryHdr 2 none e) = true := by
  decide +kernel

/-! ### Hypotheses that are met: control cycle, tiles and recorder -/

theorem test_meets_CycleStart :
    let b := ({ ready with cyc := { cycling := true, per := 31250 } } : State).begin 1000005
    let d := ({ withAx ready (fun x => { x with torque := true, link := { x.link with st := .run } }) with cyc := { cycling := true, stopDue := true } } : State).begin 1000000000
    let e := ({ ready with cyc := { cycling := true, start := 1000000, per := 31250 } } : State).begin 1031249
    let r := ({ ready with prm := { ready.prm with topcoatValid := true }, fab := { ready.fab with ftValid := true }, axes := Vector.replicate 32 { link := { st := .ready } } } : State)
    let p := ({ r with cyc := { priming := some 0 } } : State).begin 1000000
    b.cyc.start + b.cyc.per ≤ b.ft ∧ b.stopWanted = false ∧ b.torqueSent = false ∧ d.cyc.start + d.cyc.per ≤ d.ft ∧ d.stopWanted = true ∧
      d.torqueSent = true ∧ e.ft < e.cyc.start + e.cyc.per ∧ r.canCycle = true ∧ p.canCycle = true ∧ p.cycleStartFt 0 0 ≤ p.ft := by
  decide +kernel

/-- A control cycle in progress at its start, in its window, and after it. -/
def cyc (c : CycState) : State := { ready with cyc := { c with cycling := true } }

theorem test_meets_TileWindow :
    let b := (cyc {}).begin 5
    let c := (cyc { opened := true }).begin 5
    b.cyc.start + 2330 ≤ b.ft ∧ b.cyc.opened = false ∧ b.cyc.inPriming = false ∧ ((cyc { inPriming := true }).begin 5).cyc.inPriming = true ∧
      c.cyc.start + 2330 + c.windowNs ≤ c.ft ∧ c.cyc.opened = true ∧ c.cyc.closed = false ∧ c.cyc.posCyc = false ∧ c.domOn .prof = true := by
  decide +kernel

theorem test_meets_DownstreamSend :
    let b := (cyc { closed := true }).begin 5
    let c := (cyc { closed := true, start := 1000000 }).begin 1000005
    let x := withAx ready (fun x => { x with dn := { x.dn with built := true, enable := true }, link := { x.link with st := .run } })
    b.cyc.start + 2330 + b.windowNs + 110 ≤ b.ft ∧ c.ft < c.cyc.start + 2330 + c.windowNs + 110 ∧ (x.ax 0).link.st = .run ∧ (x.ax 0).dn.built = true := by
  decide +kernel

theorem test_meets_FastStatusFlip :
    let b := (cyc { opened := true, closed := true }).begin 5
    let c := ({ b with host := { b.host with held := some (1, 1000001) } } : State).begin 1000000
    b.cyc.start + b.cyc.per - 200 ≤ b.ft ∧ b.cyc.flipped = false ∧ b.bufHeld 1 = false ∧ c.bufHeld 1 = true ∧ c.bufHeld 0 = false := by
  decide +kernel

theorem test_meets_TileAndRecorder :
    let b := (ready.modTile 4 (fun x => { x with powerDue := some 1000000 })).begin 1000000
    let c := (ready.modTile 4 (fun x => { x with powerDue := some 1000001 })).begin 1000000
    let k : Takeover := ⟨1, 1, none, false, 0, 0, false, false, 0, 0, 0, 0⟩
    let d := setTop ready pCycSpareMode 0 [1]
    ({ ready with tiles := { ready.tiles with takeover := some k } } : State).tiles.takeover = some k ∧
      (b.tiles.tiles.get 4).powerDue = some 1000000 ∧ b.time.lt = 1000000 ∧ c.time.lt < 1000001 ∧
      d.spareMode = 1 ∧ d.tileReady 4 = true ∧ d.rowEmpty 4 = true ∧ d.inSlice 4 = false ∧
      ({ ready with rcd := { freezeDue := some (0, true) } } : State).rcd.frozen = false ∧ ready.rcd.freezeDue = none ∧
      (ready.ax 31).link.fresh = false := by
  decide +kernel

theorem test_meets_ReplayDone :
    ({ frozenRing with rcd := { frozenRing.rcd with replay := some ⟨refOf (hd 0) 0x0511, 3, 1, 1, 4⟩ } } : State).snapFor 3 = some (3, 0, crc32 []) := by
  decide +kernel

/-! ### Hypotheses that are met: the axis link -/

/-- A module with axis 0 in a link state. -/
def lk (f : Link → Link) : State := withAx ready (fun x => { x with link := f x.link })

/-- A burst of a body, with an eye margin and a gain. -/
def bst (body : List Byte) (eye ctle : Nat) : Burst := ⟨burstGroups body, 8, 8, eye, ctle, [0, 0, 0]⟩

/-- An upstream body of 80 bytes with a right CRC. -/
def upBody (type seq : Nat) : List Byte :=
  let l : List Byte := toLE 1 type ++ [0] ++ toLE 2 seq ++ List.replicate 74 0
  l ++ toLE 2 (crc16 l)

theorem test_meets_UpstreamFrames :
    let b := rateWindow 0 ((lk (fun l => { l with st := .ready, virt := some (1000000, 0), expType := 0x92 })).begin 5)
    let x : Burst := { bst (upBody 0x92 0) 100 0 with stampS := 8000000, stampEnd := 8000000 }
    let u := parseUp x.body
    (b.ax 0).link.st = .ready ∧ (b.ax 0).link.fresh = false ∧ (b.ax 0).link.lost = false ∧ x.codeOk = true ∧ x.body.length = 80 ∧
      getU x.body 78 2 = crc16 (x.body.take 78) ∧ u.type = (b.ax 0).link.expType ∧ u.seq = (b.ax 0).link.expect.toNat ∧
      b.ftFine8 x.stampEnd - sampleInstant 0 b * 2 ^ 16 < 2300 * 2 ^ 16 ∧
      ¬ b.ftFine8 (8000000 + 8 * 2300) - sampleInstant 0 b * 2 ^ 16 < 2300 * 2 ^ 16 := by
  decide +kernel

theorem test_meets_LinkLoss :
    let b := ({ lk (fun l => { l with st := .run, lostRun := 2, lostRep := 1 }) with cyc := { cycling := true } } : State).begin 5
    let c := ({ lk (fun l => { l with st := .run, lostRun := 3, lostRep := 2, lostTimes := List.replicate 16 0 }) with cyc := { cycling := true } } : State).begin 5
    let d := (lk (fun l => { l with st := .ready, lostRun := 8 })).begin 5
    let e := (lk (fun l => { l with st := .measure, measCount := 63 })).begin 5
    let f := ({ lk (fun l => { l with st := .run, lostTimes := List.replicate 17 0 }) with cyc := { cycling := true, start := 1000000 } } : State).begin 1002299
    (b.ax 0).link.lostRun = 2 ∧ (b.ax 0).link.lostRep < 2 ∧ (c.ax 0).link.lostRun = 3 ∧ (c.ax 0).link.lostRep < 3 ∧ (c.ax 0).link.lostTimes.length ≤ 16 ∧
      (d.ax 0).link.lostRun = 8 ∧ (b.ax 0).link.lostRun < 8 ∧ b.cyc.cycling = true ∧ b.cyc.inPriming = false ∧ (e.ax 0).link.virt = none ∧
      (e.ax 0).link.measCount < 64 ∧ b.cyc.start + 2300 ≤ b.ft ∧ f.ft < f.cyc.start + 2300 ∧ (b.ax 0).link.virt = none ∧ (b.ax 0).link.fresh = false ∧
      (b.ax 0).link.lost = false ∧ min (f.ax 0).link.lostRun 3 ≤ (f.ax 0).link.lostRep ∧ 16 < (f.ax 0).link.lostTimes.length ∧ (f.ax 0).link.rateOver = false := by
  decide +kernel

theorem test_meets_LinkTraining :
    let b := (lk (fun l => { l with st := .listen, wakes := 2 })).begin 5
    let w := bst (prbsBody 0x94 80) 100 3
    let tr := bst (prbsBody 0x93 80) 50 3
    let c := (lk (fun l => { l with st := .train, exchanges := 255, errorFree := 63, trainFails := 3 })).begin 5
    let l1 := { adaptTrain tr (c.ax 0).link with exchanges := 256, errorFree := 64 }
    let d := (lk (fun l => { l with st := .train, exchanges := 1024, trainFails := 3 })).begin 5
    prbsOk w 0x94 = true ∧ prbsOk tr 0x94 = false ∧ (b.ax 0).link.wakes = 2 ∧ (c.ax 0).link.exchanges < 1023 ∧ prbsOk tr 0x93 = true ∧
      (c.ax 0).link.exchanges + 1 = 256 ∧ l1.eyePct = 50 ∧ (d.ax 0).link.exchanges = 1024 := by
  decide +kernel

theorem test_meets_MeasureDone :
    let b := (lk (fun l => { l with st := .measure, measCount := 64, measAccepted := 48, dEst := some 5, idRegs := [(0, 0x100)], fresh := true })).begin 5
    (b.ax 0).link.dEst = some 5 ∧ fieldOf (alGet 0 0 (b.ax 0).link.idRegs) 8 8 = 1 ∧ (b.ax 0).link.measCount = 64 ∧ (b.ax 0).link.measAccepted = 48 ∧
      (b.ax 0).link.answered b.ft = true := by
  decide +kernel

theorem test_meets_LinkSupervision :
    let b := (lk (fun l => { l with eyeLowSince := some 0, stoSince := [some 0, none] })).begin 1000000000
    let c := (lk (fun l => { l with tripClear := [{ req := refOf (hd 0) 0x0402, slot := 4, framesSent := 16 }], up := some { statA := 1 } })).begin 5
    let d := (withAx (setTop ready pAxCurAdapt 0 [2]) (fun x => { x with cur := { x.cur with id := { x.cur.id with boundSince := [some 0, none, none, none] } } })).begin 1000000000
    (b.ax 0).link.eyeLowSince = some 0 ∧ 0 + 1000000000 ≤ b.time.lt ∧ some 0 ∈ (b.ax 0).link.stoSince ∧ 0 + 10000000 < b.time.lt ∧
      (c.ax 0).link.up.any (fun u => u.trip) = true ∧ d.pa pAxCurAdapt 0 = 2 ∧ some 0 ∈ (d.ax 0).cur.id.boundSince ∧ 0 + 1000000000 ≤ d.time.lt ∧
      (b.ax 0).link.eyeRep = false ∧ (b.ax 0).link.stoRep = false ∧ (d.ax 0).cur.id.boundRep = false ∧ (c.ax 0).link.tripClear.length = 1 := by
  decide +kernel

/-! ### Hypotheses that are met: staged commits, motion, tides -/

/-- An APPLY that waits. -/
def pa (fabric : Bool) (n decision : Nat) : PendApply := ⟨none, false, fabric, n, true, 0xFF, 1, [0xFF], [0xFF], true, decision⟩

theorem test_meets_ApplyEvents :
    let b := (({ ready with prm := { ready.prm with pend := some (pa false 1000000 0) } } : State)).begin 5
    let c : State := { b with cyc := { cycling := true, posCyc := true, start := 1000000 } }
    let d := (({ ready with prm := { ready.prm with pend := some (pa true 8 0) }, fab := { ready.fab with ttNow := 0 } } : State)).begin 5
    let e := (({ ready with prm := { ready.prm with pend := some (pa true 0 1) } } : State)).begin 5
    b.cyc.cycling = false ∧ c.ftOf 1000000 ≤ c.cyc.start ∧ c.cyc.opened = false ∧ (pa true 8 0).n ≤ d.fabN + 8 ∧ (pa true 8 0).origin = d.fab.addr ∧
      d.startupMode = false ∧ (pa true 0 1).n ≤ e.fabN ∧ b.tilesPowered = true ∧ c.stopsCycling = false := by
  decide +kernel

theorem test_meets_SwitchCycles :
    let b := ({ withAx onAx (fun x => { x with link := { x.link with fresh := true } }) with cyc := { cycling := true, posCyc := true, posNo := 9, pendEnable := [⟨refOf (hd 4) 0x0201, 1, 0, false, 9, 0⟩] } } : State).begin 5
    b.cyc.opened = false ∧ (∀ a ∈ maskAxes 1, b.computes a = true) := by
  decide +kernel

theorem test_meets_MotionTimers :
    let b := (withAx ready (fun x => { x with mode := 5, cur := { x.cur with stp := { x.cur.stp with holdSince := some 0 } } })).begin 10000000000
    let c := (withAx ready (fun x => { x with prof := { x.prof with waiting := true, queue := [({ mv 0 0 5 with startAt := true }, 3)], jogUntil := some 1000000, stillRun := 8, stopDeadline := some 1000000 } })).begin 5
    (b.ax 0).cur.stp.holdSince = some 0 ∧ 0 + b.pn pAxStpHoldDelayMs 0 * 1000000 ≤ b.time.lt ∧ (b.ax 0).cur.stp.holding = false ∧
      (c.ax 0).prof.waiting = true ∧ c.startNs 0 ≤ c.ft ∧ c.ft < c.startNs 1000000 ∧ (c.ax 0).prof.jogUntil = some 1000000 ∧ 1000000 ≤ c.time.lt ∧
      8 ≤ (c.ax 0).prof.stillRun ∧ (c.ax 0).prof.stopDeadline = some 1000000 := by
  decide +kernel

/-- A homing axis whose home switch is DI 8. -/
def homeS (method phase : Nat) (lvl : Bool) : State :=
  withAx (setTop (setTop (setTop (setTop ready pAxLimNegSrc 0 [10]) pAxLimPosSrc 0 [9]) pAxHomeSwitchSrc 0 [8]) pAxHomeMethod 0 [method]) (fun x =>
    { x with home := { x.home with phase := phase, ref := some 5, pressSince := some 0, met := lvl }
             swHome := { x.swHome with deb := lvl }, swPos := { x.swPos with deb := lvl }, swNeg := { x.swNeg with deb := lvl } })

theorem test_meets_HomePhases :
    let b := (homeS 0 1 true).begin 10000000000
    let c := (homeS 0 1 false).begin 10000000000
    let k := homeTarget b 0
    ((swActive b 0 k = true) ≠ (swActive c 0 k = true)) ∧ ((b.ax 0).sw k).chatter = false ∧ (b.ax 0).home.next = none ∧ b.pa pAxHomeMethod 0 = 0 ∧
      ((homeS 1 3 true).ax 0).home.phase = 3 ∧ (swActive (homeS 1 3 true) 0 .home ≠ swActive (homeS 1 3 false) 0 .home) ∧
      ((homeS 3 4 true).ax 0).home.ref ≠ none ∧ ((homeS 4 5 true).ax 0).home.pressSince = some 0 ∧ 0 + b.pn pAxHomePressMs 0 * 1000000 ≤ b.time.lt := by
  decide +kernel

/-- The input of SEARCH has not become active yet; that of BACK in method 0 gives the reference edge. -/
theorem test_meets_HomeInput :
    let b := homeS 0 1 false
    let c := homeS 0 2 false
    homeInput b 0 (b.ax 0).home.phase = some (homeTarget b 0, true) ∧ (b.ax 0).home.met = false ∧ (b.ax 0).home.next = none ∧
      homeIsRef c 0 (c.ax 0).home.phase = true ∧ ((c.ax 0).sw (homeTarget c 0)).edgePend = false := by
  decide +kernel

theorem test_meets_Switches :
    let s := withAx (setTop ready pAxLimPosSrc 0 [8]) (fun x => { x with swPos := { x.swPos with raw := true, pend := true, again := true, evalAt := 40000000000 } })
    let c := (withAx (setTop ready pAxLimPosSrc 0 [8]) (fun x => { x with swPos := { x.swPos with chatter := true } })).begin 10000000000
    let b := s.begin 10000000000
    ((b.ax 0).sw .pos).pend = true ∧ ((b.ax 0).sw .pos).raw ≠ ((b.ax 0).sw .pos).deb ∧ ((b.ax 0).sw .pos).chatter = false ∧ swSource b 0 .pos ≠ 0xFF ∧
      ((b.ax 0).sw .pos).tE + b.pa pAxLimDebounceUs 0 * 4000 ≤ ((b.ax 0).sw .pos).evalAt ∧ ((b.ax 0).sw .pos).again = true ∧
      ((c.ax 0).sw .pos).chatter = true ∧ max ((c.ax 0).sw .pos).tE ((c.ax 0).sw .pos).chatFrom + c.pa pAxLimStableMs 0 * 4000000 ≤ 4 * c.ft := by
  decide +kernel

/-- A change of tide 0. -/
def tc (n decision : Nat) : TideChange := ⟨n, 0, tideBody, [1], [1], none, true, decision, true, ⟨n, 1, 0, tideBody, 0, 0, 0⟩⟩

theorem test_meets_TideEvents :
    let b := (originS.modTide 0 (fun x => { x with pend := some (tc 8 0) })).begin 5
    let c := (setTop ready pTideSource 0 [0x81]).modTide 0 (fun x => { x with noRec := 255 })
    let d := ready.modTide 0 (fun x => { x with st := 2, adopt := true, fetched := some ⟨0, 1, 2, tideBody, 0, 0, 0⟩ })
    (b.tides.get 0).pend = some (tc 8 0) ∧ (tc 8 0).n ≤ b.fabN + 8 ∧ (tc 0 1).n ≤ b.fabN ∧ (∀ a ∈ (tc 0 1).members, a ∈ (tc 0 1).acked) ∧ b.applyFirst 0 = false ∧
      0x80 ≤ c.pn pTideSource 0 ∧ c.pn pTideStaleCycles 0 ≤ (c.tides.get 0).noRec ∧ (c.tides.get 0).st ≠ 3 ∧ d.tideAxes 0 = [] ∧ (d.tides.get 0).adopt = true := by
  decide +kernel

theorem test_meets_GearEvents :
    let c : GCurve := { m0 := 5, len := 9, mS := 7 }
    let b := withAx ready (fun x => { x with gear := { x.gear with st := 3, master := 0x010004, run := { master := 0x010004 }, next := some c, mNext := 7 } })
    (b.ax 0).gear.st ≠ 0 ∧ 0x010004 ∈ (b.ax 0).gear.masters ∧ fieldOf 0x010004 0 8 = 4 ∧ (b.ax 0).gear.masterStale = false ∧
      b.pubRec (fieldOf 0x010004 16 8) (fieldOf 0x010004 8 8) = none ∧ (b.ax 0).gear.next = some c ∧ c.m0 ≤ (b.ax 0).gear.mNext ∧
      c.mS ≤ (b.ax 0).gear.mNext ∧ c.kind ≠ 1 ∧ c.len ≠ 0 := by
  decide +kernel

/-! ### Hypotheses that are met: the Causeway -/

/-- A node of address 1 in RUN under a timetable whose berth 0 is its SYNC berth at 10,000 ns, with ports 0 and 1 ACTIVE. -/
def runNode : State := { ready with
  fab := { st := 5, addr := 1, ttNow := 0, tables := [(0, ⟨oneTable.set 38 1, 0⟩)], ports := (Vector.replicate 4 {}).set 0 { st := 3 } |>.set 1 { st := 3 } }
  time := { lt := 20000 } }

/-- A node in another state of the fabric. -/
def nodeIn (f : FabState → FabState) : State := { runNode with fab := f runNode.fab }

/-- A Causeway frame of a type and an owner with a payload. -/
def cf (type owner : Nat) (p : List Byte) : CFrame := ⟨frameGroups 2 (sealFrame (frameHead type 0 0 owner 0 0 0 p) false), 0⟩

theorem test_meets_FabricCycle :
    let b := runNode.begin 5
    let c := runNode.begin 250000
    b.time.lt < (nextAnchor b).lt ∧ (nextAnchor c).lt ≤ c.time.lt ∧ c.domOn .sup = true ∧ b.berthDue 0 = true ∧ (berthOf b.ttBody 0).kind = 1 ∧
      b.launchPort b.portActive = some 0 ∧ b.berthDue 1 = false := by
  decide +kernel

theorem test_meets_BerthFrameRx :
    let b := runNode.begin 5
    b.fabLive = true ∧ (b.port 0).st = 3 ∧ frameState (cf 1 2 []) = 0 ∧ fType (cf 4 1 []).body = 4 ∧ fOwner (cf 1 2 []).body ≠ b.fab.addr ∧
      fOwner (cf 4 1 []).body = b.fab.addr ∧ fCycle (cf 4 1 []).body = b.fabN % 2 ^ 32 ∧ b.portActive 0 = true ∧ b.portActive 1 = true ∧ b.isBack b.portActive 1 = true ∧
      b.isBack b.portActive 0 = false ∧
      b.berthMatch (cf 4 1 []).body = none ∧ frameState { cf 1 2 [] with groups := [0] } = 1 ∧
      frameState ⟨frameGroups 2 ((cf 1 2 []).body.dropLast ++ [0]), 0⟩ = 2 ∧ fOwner ((cf 1 2 []).body.dropLast ++ [0]) = 2 ∧
      ((nodeIn (fun f => { f with st := 1 })).begin 5).fabLive = true := by
  decide +kernel

theorem test_meets_ClockSync :
    let b := (setTop runNode pFabSyncSources 0 [2, 255, 255, 255, 255, 255, 255, 255]).begin 5
    b.fab.synced = false ∧ b.ftReached b.fabN b.lastSyncOfs = true ∧ b.fab.fallback = false ∧ b.listed ≠ [] ∧ absI b.fab.rho ≠ 112589990684 ∧
      (syncCalc b (b.sourcesFor false b.fab.devs)).limited = false := by
  decide +kernel

theorem test_meets_Synchronism :
    let a := nodeIn (fun f => { f with noListed := 8 })
    let b := nodeIn (fun f => { f with outOfW := 3, missing := [(9, 8), (4, 8), (3, 7)] })
    let c := nodeIn (fun f => { f with st := 6, inHalfW := 8 })
    let d := nodeIn (fun f => { f with st := 3, stepped := true, joinRun := 8 })
    8 ≤ a.fab.noListed ∧ a.fab.fallback = false ∧ 3 ≤ b.fab.outOfW ∧ a.fab.outOfW < 3 ∧ a.fab.noSrc < 8 ∧ a.fab.harbourOut < 3 ∧
      (c.table c.fab.ttNow).isSome ∧ 8 ≤ c.fab.inHalfW ∧ d.fab.stepped = true ∧ 8 ≤ d.fab.joinRun ∧ b.fab.lostRep = false ∧ b.atBreak = false ∧
      sortBy id ((b.fab.missing.filter (fun e => decide (8 ≤ e.2))).map (fun e => e.1)) = [4, 9] := by
  decide +kernel

/-- The payload of a probe of a node of UID 9. -/
def probe9 : List Byte := toLE 8 9 ++ toLE 8 (-(2 ^ 63)) ++ toLE 8 (-(2 ^ 63)) ++ List.replicate 16 0

theorem test_meets_Ports :
    let b := runNode.begin 5
    let c := (nodeIn (fun f => { f with ports := f.ports.set 2 { st := 1, probeAt := some 0 } })).begin 1000000
    let at_ := b.ftFine8 0
    b.fabLive = true ∧ (b.port 2).st = 0 ∧ b.p1 pFabPortEnable 2 = 1 ∧ b.unitMasked (0x68 + 2) = false ∧ (b.port 0).delayRep = false ∧
      (b.port 0).missed < 4 ∧ (c.port 2).st = 1 ∧ c.fab.ftValid = false ∧ (c.port 2).probeAt = some 0 ∧ 0 + 1000000 ≤ c.time.lt ∧
      frameState (cf 0x20 9 probe9) = 0 ∧ (fPayload (cf 0x20 9 probe9).body).length = 40 ∧
      probeSample (b.port 0) at_ (getS probe9 8 8) (getS probe9 16 8) = none := by
  decide +kernel

theorem test_meets_Coldstart :
    let b := (setTop (nodeIn (fun f => { f with st := 1, ttNow := 0xF, listenSince := some 0 })) pModColdstartAllowed 0 [1]).begin 4000000
    let c := (nodeIn (fun f => { f with st := 2, ttNow := 0xF, coldSent := 7 })).begin 5
    let q := coldPayload 9 c.cycleNs 0
    b.p1 pModColdstartAllowed 0 = 1 ∧ b.fab.heard = none ∧ 0 + 4000000 ≤ b.time.lt ∧ c.fabLive = true ∧ c.fab.launched.contains coldMark = false ∧
      7 ≤ c.fab.coldSent ∧ c.portUp 0 = true ∧ frameState (cf 0x21 0xFF q) = 0 ∧ (fPayload (cf 0x21 0xFF q).body).length = 16 ∧
      getU (fPayload (cf 0x21 0xFF q).body) 0 8 ≠ c.host.ident.uid ∧ (9, 0) ∉ c.fab.coldSeen ∧ getU (fPayload (cf 0x21 0xFF q).body) 8 4 = c.cycleNs ∧
      c.openSlots = [] := by
  decide +kernel

theorem test_meets_Discovery :
    let q := censusHead 9 0 0
    let b := (nodeIn (fun f => { f with st := 4, ttNow := 0xF, census := some (9, [0]) })).begin 5
    let h := ({ setTop (nodeIn (fun f => { f with st := 4, ttNow := 0xF, startupRun := 64, discover := none })) pFabHarbour 0 [1] with
      prm := { ready.prm with topcoat := bankSet [] pFabHarbour 0 [1], live := bankSet [] pFabHarbour 0 [1], resetLive := bankSet [] pFabHarbour 0 [1] } } : State).begin 5
    frameState (cf 0x22 9 q) = 0 ∧ 16 ≤ (fPayload (cf 0x22 9 q).body).length ∧ bitOf (getU (cf 0x22 9 q).body 1 1) 1 = false ∧
      getU (fPayload (cf 0x22 9 q).body) 0 8 = 9 ∧ b.host.ident.uid ≠ 9 ∧ b.portUp 0 = true ∧ b.fab.discover = none ∧
      getU (fPayload (cf 0x22 0 (censusHead 0 0 0)).body) 0 8 = b.host.ident.uid ∧ b.fab.topoCrc ≠ crc32 (fPayload (cf 0x23 9 [1]).body) ∧
      h.p1 pFabHarbour 0 = 1 ∧ h.fab.st = 4 ∧ h.startupMode = true ∧ 64 ≤ h.fab.startupRun ∧ h.fab.autoDone = false := by
  decide +kernel

theorem test_meets_Assign :
    let b := (nodeIn (fun f => { f with st := 4, ttNow := 0xF })).begin 5
    let q : List Byte := toLE 8 0 ++ [5, 0] ++ toLE 2 0
    (applyAssign q 0 (assignEntries q) b).fab.discover = none ∧ (applyAssign q 0 (assignEntries q) b).fab.addr = 5 := by
  decide +kernel

theorem test_meets_StartAndTimetable :
    let b := (nodeIn (fun f => { f with st := 4, ttNow := 0xF, ports := (Vector.replicate 4 {}).set 0 { st := 3 } })).begin 5
    let p : TtPend := ⟨2, 0, [1, 2], [1], none, false, false, true⟩
    let c := { runNode with time := { runNode.time with anchors := [⟨2, 0, 0, 0⟩] } }
    let l : TtLoad := { tt := 1, acked := [], req := none, since := 0, persist := false }
    let d := { runNode with time := { runNode.time with anchors := [⟨256, 0, 0, 0⟩] } }
    frameState (cf 0x24 1 (List.replicate 48 0)) = 0 ∧ 48 ≤ (fPayload (cf 0x24 1 (List.replicate 48 0)).body).length ∧
      fOwner (cf 0x24 1 (List.replicate 48 0)).body = b.fab.addr ∧ b.isBack b.startOk 0 = true ∧ p.startup = false ∧ p.n + 2 ≤ c.fabN ∧
      (∃ a ∈ p.members, a ∉ p.acked) ∧ l.since + 256 ≤ d.fabN := by
  decide +kernel

theorem test_meets_Ferry :
    let m : FerryMsg := ⟨2, 1, 3, [], 0, 0, some (0, 8), 8, some (refOf (hd 0) 0x0601), (0, 0), false⟩
    let b := { nodeIn (fun f => { f with ferryOut := [m] }) with time := { runNode.time with anchors := [⟨4, 0, 0, 0⟩] } }
    let r := { setTop (nodeIn (fun f => { f with nodes := [{ uid := 8, addr := 8, ports := 0 }] })) pFabHarbour 0 [1] with
      prm := { ready.prm with topcoat := bankSet [] pFabHarbour 0 [1], live := bankSet [] pFabHarbour 0 [1], resetLive := bankSet [] pFabHarbour 0 [1] },
      time := { runNode.time with anchors := [⟨256, 0, 0, 0⟩] } }
    b.fab.ferryOut = [m] ∧ m.again = false ∧ m.sentAt = some (0, 8) ∧ 0 + 4 ≤ b.fabN ∧ 8 ≤ m.repeats ∧ m.kind = 1 ∧ b.fabLive = true ∧
      r.isHarbour = true ∧ r.fab.st = 5 ∧ (∃ n ∈ r.fab.nodes, n.addr ∉ r.heardNodes) ∧ r.fab.lastRepeat + 256 ≤ r.fabN := by
  decide +kernel

/-! ### Hypotheses that are met: time -/

/-- A module whose RESET, NOW and COMMIT values of a parameter are all `v`. -/
def setAll (s : State) (key : Nat) (v : Int) : State := { s with
  prm := { s.prm with topcoat := bankSet s.prm.topcoat key 0 [v], live := bankSet s.prm.live key 0 [v], resetLive := bankSet s.prm.resetLive key 0 [v] } }

theorem test_meets_Ptp :
    let b := ({ setAll ready pTimePtpMode 1 with host := { ready.host with ethUp := true } } : State).begin 5
    let c := ({ setAll b pTimeNtSource 1 with time := { b.time with portState := 9, lastSync := some 0 } } : State).begin 6000000000
    b.p1 pTimePtpMode 0 ≠ 0 ∧ ready.p1 pTimePtpMode 0 = 0 ∧ b.time.master = none ∧ b.host.ethUp = true ∧ c.time.portState = 9 ∧ c.p1 pTimeNtSource 0 = 1 ∧
      c.p1 pTimePtpMode 0 ≠ 0 ∧ 0 + 6000000000 ≤ c.time.lt := by
  decide +kernel

/-- A SLAVE port holds what it has measured of Sync and of its own request. -/
theorem test_meets_PtpDelay :
    let b := ({ setAll ready pTimePtpMode 1 with time := { ready.time with portState := 9, ptpSync := some (1, 2), ptpReq := some 3 } } : State).begin 5
    let c := ({ setAll (setAll ready pTimePtpMode 1) pTimePtpDelay 1 with time := { ready.time with ptpReq := some 1 } } : State).begin 5
    b.p1 pTimePtpMode 0 ≠ 0 ∧ b.time.portState = 9 ∧ b.p1 pTimePtpDelay 0 = 0 ∧ b.time.ptpSync = some (1, 2) ∧ b.time.ptpReq = some 3 ∧
      c.p1 pTimePtpMode 0 ≠ 0 ∧ c.p1 pTimePtpDelay 0 = 1 ∧ c.time.ptpReq = some 1 := by
  decide +kernel

theorem test_meets_Ppsi :
    let b := ({ ready with time := { ready.time with ppsiLast := some 0 } } : State).begin 1000100000
    let c := ({ ready with time := { ready.time with ppsiLast := some 0 } } : State).begin 1000099999
    (100000 : Int) * 65536 ≤ b.ftNow - 0 - secFine ∧ c.ftNow - 0 - secFine < 100000 * 65536 ∧ -100000 * 65536 ≤ c.ftNow - 0 - secFine ∧ b.p1 pTimeNtSource 0 ≠ 2 ∧ ready.time.ppsiLast = none := by
  decide +kernel

theorem test_meets_NtRecords :
    let s := setAll ready pTimeNtSource 2
    let b := { s with time := { s.time with isSource := true, ntSent := some 0, nt := some ntr, anchors := [⟨16, 0, 0, 0⟩] } }
    let c := { ready with time := { ready.time with nt := some ntr, keepCorrected := some 0 } }
    b.p1 pTimeNtSource 0 = 2 ∧ 0 + 16 ≤ b.fabN ∧ b.time.stepDue = none ∧ ntr.valid = true ∧ b.fab.st ≠ 5 ∧ b.time.ntNext = none ∧
      ntr.applyN ≤ b.fabN ∧ ntr.step = false ∧ b.ntValid = true ∧ b.time.holdover = false ∧ c.ntCandidate = false ∧ c.ntFresh = false ∧
      c.time.isSource = false ∧ c.ntValid = true ∧ 0 + 600000000000 ≤ (c.begin 600000000000).time.lt := by
  decide +kernel

theorem test_meets_TimedOutput :
    let p : TqProg := ⟨true, false, 5, 0, 10, false, 1, 0⟩
    let b := ((setAll ready pTimeTqMode 1).modTq 0 (fun c => { c with prog := some p })).begin 5
    let c := ((setAll ready pTimePpsOut 2)).begin 1000000000
    b.power.refStopped = false ∧ b.domOn .sup = true ∧ ready.p1 pTimeTqMode 0 = 0 ∧ b.p1 pTimeTqMode 0 = 1 ∧ (b.time.tq.get 0).prog = some p ∧
      (p.t0 + p.k * p.period) * 65536 ≤ b.ftNow ∧ c.p1 pTimePpsOut 0 = 2 ∧ c.ftNow % secFine < 2 * 65536 ∧
      2 * 65536 ≤ ((setAll ready pTimePpsOut 2).begin 1000000002).ftNow % secFine ∧ 13 ∉ b.power.pllLost := by
  decide +kernel

theorem test_meets_InjectionWindow :
    let b := ({ ready with flt := { ready.flt with recs := [(4, { code := 0x0202, unit := 0xFF, cls := 2, state := 1, isInj := true, winEnd := 1000000 })] } } : State).begin 1000000
    (b.frec 4).state = 1 ∧ (b.frec 4).isInj = true ∧ (b.frec 4).real = false ∧ (b.frec 4).winEnd ≤ b.time.lt := by
  decide +kernel

/-! ### Hypotheses that are met: machine safety -/

/-- A block with one two-channel pair on DI0 and DI1, manual restart, reset input DI7 and published messages. -/
def block1 : List Byte :=
  let l : List Byte := [1, 1, 7, 1] ++ toLE 2 20 ++ toLE 2 20 ++ toLE 2 5 ++ List.replicate 22 0 ++ [2, 1, 0, 0] ++ toLE 2 100 ++ List.replicate 214 0
  l ++ toLE 4 (crc32c l)

def safeS (f : SafeState → SafeState) : State := { ready with safe := f { ready.safe with config := some block1 } }

theorem test_meets_SafetyPath :
    let b := (safeS (fun q => { q with proc := { q.proc with raw := 1, pairs := q.proc.pairs.set 0 { discSince := some 0 }, ss1 := some (0, 10) } })).begin 100000001
    b.resetIn ≠ 0 ∧ bitOf (b.spath .proc).raw 0 = true ∧ bitOf (b.spath .proc).filt 0 ≠ true ∧ (b.spath .proc).rawSince.getD 0 0 + 1000000 < b.time.lt ∧
      (∀ i : Fin 16, (b.fld.di.get i).wb = false) ∧ ready.safe.config = none ∧ ((b.spath .proc).pairs.get 0).discSince = some 0 ∧ b.pairFn 0 ≠ 0 ∧
      ((b.spath .proc).pairs.get 0).discDone = false ∧ 0 + b.pairDisc 0 * 1000000 ≤ b.time.lt ∧ (b.spath .proc).ss1 = some (0, 10) ∧ 0 + 10 * 950000 ≤ b.time.lt ∧
      b.safe.lastFrame + 500000 ≤ b.time.lt ∧ (State.reset.begin 499999).time.lt < (State.reset.begin 499999).safe.lastFrame + 500000 ∧ b.pulseDue 0 = true ∧ b.pulseDue 1 = false := by
  decide +kernel

theorem test_meets_ResetRelease :
    let b := (safeS (fun q => { q with proc := { q.proc with raw := 3, filt := 131, resetSince := some 0, resetValid := true, rawSince := (List.replicate 8 0).set 7 50000000, pairs := Vector.replicate 4 { demand := false } }, subs := q.subs.set 0 { demand := false } })).begin 51000000
    let s1 := safeEval (b.modPath .proc (fun q => { q with filt := q.filt - 2 ^ 7, resetSince := none, resetValid := false }))
    (b.spath .proc).resetSince = some 0 ∧ b.resetIn = 7 ∧ bitOf (b.spath .proc).raw 7 = false ∧ bitOf (b.spath .proc).filt 7 = true ∧
      (b.spath .proc).rawSince.getD 7 0 + 1000000 ≤ b.time.lt ∧ 0 + 50000000 ≤ (b.spath .proc).rawSince.getD 7 0 ∧ resetConds s1 .proc = true := by
  decide +kernel

theorem test_meets_SoReadback :
    let b := (safeS (fun q => { q with readDiff := [some 0, none, none, none] })).begin 2000001
    b.safe.readDiff.getD 0 none = some 0 ∧ b.safe.readRep.getD 0 false = false ∧ 0 + 2000000 < b.time.lt := by
  decide +kernel

theorem test_meets_SafetyMessages :
    let b := (safeS (fun q => q)).begin 20000000
    let m : List Byte := let l : List Byte := [1] ++ List.replicate 27 0; l ++ toLE 4 (crc32c l)
    let c := ({ safeS (fun q => { q with txData := some (safeS (fun q => q)).safeData, txAt := 1000000 }) with pending := [] } : State).begin 5
    b.safe.config ≠ none ∧ bitOf (b.cfgU 1 1) 0 = true ∧ b.domOn .safe = true ∧ b.safe.txData ≠ some b.safeData ∧ (b.can.get 1).st = 0 ∧
      c.safe.txData = some c.safeData ∧ c.time.lt < c.safe.txAt + c.cfgU 8 2 * 1000000 ∧ m.length = 32 ∧ getU m 28 4 = crc32c (m.take 28) ∧ getU m 0 1 = 1 ∧
      0 < b.safeSubs ∧ (b.safe.subs.get 0).wd.getD 0 false = false ∧ (b.safe.subs.get 0).since.getD 0 0 + b.safeWdMs * 1000000 ≤ b.time.lt := by
  decide +kernel

theorem test_meets_SafetyConfigDone :
    let b := ({ ready with safe := { ready.safe with writing := some (block1, refOf (hb 256) 0x0901, 0) } } : State).begin 500000000
    b.safe.writing.isSome = true ∧ b.time.lt = 0 + 500000000 ∧ blockCrc block1 + 1 ≠ blockCrc block1 := by
  decide +kernel

/-! ### Hypotheses that are met: field channels and CAN -/

theorem test_meets_FieldInputs :
    let b := ready.begin 1000000000
    let d := (setTop ready pFldDiFilterUs 8 [0]).begin 5
    let e := (ready.modDi 8 (fun x => { x with raw := true })).begin 1000000000
    let w := ({ ready with fld := { ready.fld with vfld := 1800, die := { ready.fld.die with wireBreak := 2 ^ 8 } } } : State)
    b.domOn .field = true ∧ (b.fld.di.get 8).raw ≠ true ∧ diHold b 8 ≠ 0 ∧ diHold d 8 = 0 ∧ (d.fld.di.get 8).wb = false ∧ (d.fld.di.get 8).filt ≠ true ∧ diHold b 0 ≠ 0 ∧
      (e.fld.di.get 8).filt ≠ (e.fld.di.get 8).level ∧ (e.fld.di.get 8).edgeLt + diHold e 8 ≤ e.time.lt ∧ bitOf w.fld.die.wireBreak 8 = true ∧ 1800 ≤ w.fld.vfld ∧ (w.fld.di.get 8).wb = false ∧
      b.fld.stale = false ∧ b.fld.lastUp + b.pn pFldSilenceTimeoutMs 0 * 1000000 ≤ b.time.lt ∧ b.fld.silentHeld = false ∧
      b.fld.lastDown + b.fld.die.silenceMs * 1000000 ≤ b.time.lt := by
  decide +kernel

theorem test_meets_FieldOutputs :
    let b := ({ ready with fld := { ready.fld with vfldValid := true, out := 1 } } : State).modDq 1 (fun d => { d with overload := true, external := true })
    let c : State := { b with fld := { b.fld with sag := true } }
    b.fld.vfldValid = true ∧ b.fld.sag = false ∧ c.fld.sag = true ∧ c.fld.die.restoreAuto = false ∧ (setAll c pFldRestoreAuto 1).dieCfg.restoreAuto = true ∧
      ready.fld.vfldValid = false ∧ bitOf b.fld.out 0 = true ∧ (b.fld.dq.get 0).overload = false ∧ (b.fld.dq.get 1).overload = true ∧
      bitOf b.fld.out 7 = false ∧ (b.fld.dq.get 7).external = false := by
  decide +kernel

theorem test_meets_CanReception :
    let b := ({ setTop ready pCanObjects 0 (objBytes 3 [5, 0, 0, 0, 0xFF, 0xFF, 0xFF, 0xFF, 1, 0, 0, 0, 0, 0, 0, 0]) with can := (Vector.replicate 2 ({} : CanChan)).set 0 { st := 2 } } : State).begin 5
    let f : CanFrame := ⟨5, false, false, false, false, 0, [], 0⟩
    (b.can.get 0).st = 2 ∧ (b.can.get 0).rec_ = 0 ∧ (b.can.get 0).tec ≤ 127 ∧ b.safe.config = none ∧
      (List.range 128).find? (objMatches b 0 f) = some 3 ∧ (List.range 128).find? (objMatches b 0 { f with id := 6 }) = none := by
  decide +kernel

theorem test_meets_CanTransmission :
    let s : State := { setTop ready pCanObjects 0 (objBytes 1 [5, 0, 0, 0, 0, 0, 0, 0, 2, 4, 0, 0, 1, 0, 0, 0]) with can := (Vector.replicate 2 ({} : CanChan)).set 0 { st := 2 } }
    let b := s.modObj 0 1 (fun x => { x with buf := some (0, []), txPend := true })
    (b.sendFrame 0 1 0).isSome = true ∧ b.arbFirst 0 1 0 = true ∧ bitOf (b.objU 0 1 9 1) 2 = true ∧ b.objKind 0 1 = 2 ∧ b.objU 0 1 12 2 ≠ 0 ∧
      b.objConflict 0 1 = false ∧ b.p1 pCanMode 0 ≠ 3 ∧ (b.canObj 0 1).served ≤ (b.ft / ((b.objU 0 1 12 2 : Nat) * 1000000 : Int)).toNat := by
  decide +kernel

/-! ### Hypotheses that are met: lifecycle and power -/

/-- What a boot finds on a healthy module at 16.5 V. -/
def good : BootObs := ⟨16500, true, true, [], true, true, 3000, true, 0, true, []⟩

theorem test_meets_LifecycleEvents :
    let q := refOf (hd 1) 0x0801
    let b := ({ ready with life := { ready.life with bist := some (1, q), resetDue := some 1000000, authPend := [(q, 1000000)], trial := some 0, nonce := some (0, [], 1000000) } } : State).begin 2000000000
    let c := ({ ready with life := { ready.life with trial := some 0, trialReady := some 0 } } : State).begin 60000000000
    b.life.bist = some (1, q) ∧ b.cyc.cycling = false ∧ b.life.bistCut = false ∧ 1000000 ≤ b.time.lt ∧ b.life.authPend = [(q, 1000000)] ∧
      b.life.trialReady = none ∧ 0 + 2000000000 ≤ b.time.lt ∧ c.life.trialReady = some 0 ∧ 0 + 60000000000 ≤ c.time.lt ∧ c.domOn .sup = true ∧ c.life.bist = none ∧
      c.age.planAt + 86400000000000 ≤ (c.begin 86400000000000).time.lt ∧ c.age.measured < (c.begin 86400000000000).time.lt / 600000000000 := by
  decide +kernel

theorem test_meets_PowerEvents :
    let b := State.reset.begin 5
    b.domOn .sup = false ∧ b.power.rstLow = false ∧ 16500 ≤ good.vsysMv ∧ ready.domOn .sup = true ∧ ready.power.vsysLow = false ∧ 17499 < 17500 ∧
      ({ ready with power := { ready.power with rstLow := true, vsysLow := true } } : State).power.rstLow = true ∧ ready.domOn .t0 = true ∧ ready.domOn .field = true ∧
      ready.life.trial = none := by
  decide +kernel

/-! ### Ill-formed commands -/

/-- Each check of a header refuses a value that its field cannot carry. -/
theorem test_illformed_header :
    Hdr.wf { hd 0 with tag := 65536 } = false ∧ Hdr.wf { hd 0 with length := 65536 } = false ∧ Hdr.wf { hd 0 with target := 256 } = false ∧
    Hdr.wf { hb 0 with bulkOfs := 65536 } = false ∧ Hdr.wf { hd 0 with bulkOfs := 8 } = false ∧ Hdr.wf { hd 0 with via := some (255, 0) } = false ∧
    Hdr.wf { hd 0 with via := some (1, 65536) } = false ∧ (Instr.check 0 { hd 0 with target := 256 }).wf = false ∧ (hd 0).wf = true := by
  decide

theorem test_illformed_parameters :
    (Instr.paramGet 0 (hd 6) (2 ^ 32) 1 0).wf = false ∧ (Instr.paramGet 0 (hd 6) 0 256 0).wf = false ∧ (Instr.paramGet 0 (hd 6) 0 1 256).wf = false ∧
    (Instr.paramSet 0 (hd 8) (2 ^ 32) 1 []).wf = false ∧ (Instr.paramStage 0 (hd 8) 0x010100 1 8 []).wf = false ∧
    (Instr.paramStage 0 (hd 8) 0x020A00 1 (2 ^ 32) []).wf = false ∧ (Instr.apply 0 (hd 8) 256 0).wf = false ∧ (Instr.apply 0 (hd 8) 0 (2 ^ 32)).wf = false ∧
    (Instr.traceSetup 0 (hb 12) [(2 ^ 32, 0)]).wf = false ∧ (Instr.traceSetup 0 (hb 12) [(0, 2 ^ 64)]).wf = false := by
  decide

theorem test_illformed_motion :
    (Instr.axisEnable 0 (hd 4) (2 ^ 32)).wf = false ∧ (Instr.modeSet 0 (hd 2) 256 0).wf = false ∧ (Instr.stop 0 (hd 1) 256).wf = false ∧
    MoveReq.wf { mv 0 0 0 with tgt := 256 } = false ∧ MoveReq.wf { mv 0 0 0 with kind := 256 } = false ∧ MoveReq.wf { mv 0 0 0 with blend := 256 } = false ∧
    MoveReq.wf { mv 0 0 0 with reservedFlags := 32 } = false ∧ MoveReq.wf { mv 0 0 0 with vFrac := 65536 } = false ∧
    MoveReq.wf { mv 0 0 0 with startN := 2 ^ 32 } = false ∧ MoveReq.wf { mv 0 0 0 with tol := 2 ^ 64 } = false ∧ MoveReq.wf (mv 0 0 (2 ^ 63)) = false ∧
    MoveReq.wf { mv 0 0 0 with turns := 256 } = false ∧ MoveReq.wf { mv 0 0 0 with points := [2 ^ 63] } = false ∧ JogReq.wf { jg 0 0 with axis := 256 } = false ∧
    JogReq.wf (jg 0 (2 ^ 63)) = false ∧ LatchReq.wf ⟨256, 0, 0, 0, 0, 0⟩ = false ∧ LatchReq.wf ⟨0, 0, 0, 0, 0, 2 ^ 63⟩ = false ∧ (mv 0 0 0).wf = true := by
  decide

theorem test_illformed_gears :
    GearReq.wf { gq with num := 2 ^ 31 } = false ∧ GearReq.wf { gq with den := 2 ^ 32 } = false ∧ GearReq.wf { gq with len := 2 ^ 64 } = false ∧
    GearReq.wf { gq with master := 2 ^ 32 } = false ∧ GearReq.wf { gq with land := 256 } = false ∧ GearReq.wf { gq with pTarget := 2 ^ 63 } = false ∧
    CamReq.wf ⟨256, 4, 0, 0, []⟩ = false ∧ CamReq.wf ⟨0, 4, 2 ^ 63, 0, []⟩ = false ∧ CamReq.wf ⟨0, 4, 0, 0, [2 ^ 63]⟩ = false ∧
    (Instr.tideSchedule 0 (hd 8) 256 0).wf = false ∧ (Instr.tideSchedule 0 (hd 8) 0 (2 ^ 32)).wf = false ∧ gq.wf = true := by
  decide

theorem test_illformed_requests :
    (Instr.faultRead 0 (hd 4) 65536 0).wf = false ∧ (Instr.faultAck 0 (hd 2) 65536).wf = false ∧ (Instr.faultInject 0 (hd 12) 256 0 0 0).wf = false ∧
    (Instr.traceArm 0 (hd 1) 256).wf = false ∧ (Instr.traceRead 0 (hb 8) (2 ^ 64)).wf = false ∧ (Instr.replayRun 0 (hd 12) (2 ^ 32) 0 0).wf = false ∧
    (Instr.timedOutput 0 (hd 32) ⟨256, 0, 0, 0, 0, 0, 0, 0, 0⟩).wf = false ∧ (Instr.timeAcceptJump 0 (hd 8) (2 ^ 64)).wf = false ∧
    (Instr.timetableSwitch 0 (hd 1) 256).wf = false ∧ (Instr.bistRun 0 (hd 1) 256).wf = false ∧ (Instr.fwUpdateBegin 0 (hd 8) (2 ^ 32) 0).wf = false ∧
    (Instr.fwUpdateEnd 0 (hd 1) 256).wf = false ∧ (Instr.lifecycleAdvance 0 (hd 1) 256 []).wf = false ∧ (Instr.debugChallenge 0 (hd 1) 256).wf = false := by
  decide

theorem test_illformed_ports :
    (Instr.registerWrite 0 .qspi 0 []).wf = false ∧ (Instr.qspiFast 5 0 1 4).wf = false ∧ (Instr.qspiRead 5 0 1 4).wf = false ∧
    (Instr.qspiUnknownCommand 0 0xEB).wf = false ∧ (Instr.qspiUnknownCommand 0 0x0F).wf = false ∧ (Instr.qspiUnknownCommand 0 0x02).wf = false ∧
    (Instr.ethWindowRead 0 ⟨2 ^ 48, 1, 1, 0, 0, 1, []⟩).wf = false ∧ (Instr.ethWindowWrite 0 ⟨0, 1, 2, 0, 65536, 1, [0]⟩).wf = false ∧
    (Instr.ethFrameDiscard 0 ⟨0x88B5, 0, true⟩).wf = false ∧ (Instr.ethFrameDiscard 0 ⟨65536, 0, true⟩).wf = false := by
  decide

theorem test_illformed_events :
    (Instr.downstreamSend 0 [1]).wf = false ∧ (Instr.moveStartAtDue 0 0x88).wf = false ∧ (Instr.berthLaunch 0 512).wf = false ∧
    (Instr.ferrySegmentRx 0 []).wf = false ∧ (Instr.ferryRetransmit 0 65536 0).wf = false ∧ (Instr.injectionWindowEnd 0 256).wf = false ∧
    (Instr.safetyExchangeFrame 0 ⟨true, false, false, false, 2 ^ 32⟩).wf = false ∧ (Instr.safetyConfigDone 0 (2 ^ 32) 0).wf = false ∧
    (Instr.fieldLinkUpFrame 0 ⟨65536, 0⟩).wf = false ∧ (Instr.canFrameRx 0 0 ⟨2048, false, false, false, false, 0, [], 0⟩).wf = false ∧
    (Instr.canFrameRx 0 0 ⟨2047, false, false, false, false, 16, [], 0⟩).wf = false ∧ (Instr.ageingMeasure 0 []).wf = false ∧ (Instr.marginReplan 0 [[1]]).wf = false ∧
    (Instr.powerUp 0 { good with readings := [[1]] }).wf = false ∧ (Instr.linkWakeRx 0 0 ⟨[], 2, 1, 0, 0, [0, 0, 0]⟩).wf = false ∧
    (Instr.linkTrainRx 0 0 ⟨[], 1, 1, 0, 0, [0]⟩).wf = false ∧ (Instr.linkTrainRx 0 0 ⟨[1024], 1, 1, 0, 0, [0, 0, 0]⟩).wf = false ∧
    (Instr.linkTrainRx 0 0 ⟨[], 1, 1, 0, 16, [0, 0, 0]⟩).wf = false ∧ (Instr.safeMessageRx 0 .can1 (List.replicate 65 0)).wf = false := by
  decide

/-- A frame has at most 8,212 bytes of body and what stands around them. -/
theorem test_illformed_frame : CFrame.wf ⟨List.replicate 8257 0, 0⟩ = false := by
  decide +kernel

/-! ### Values that the manual gives -/

/-- Check values of the three CRCs over "123456789" (R85, R343, R491). -/
def digits : List Byte := [0x31, 0x32, 0x33, 0x34, 0x35, 0x36, 0x37, 0x38, 0x39]

theorem test_crc_check_values : crc16 digits = 0x29B1 ∧ crc32 digits = 0xCBF43926 ∧ crc32c digits = 0xE3069283 := by decide +kernel

/-- The worked example of 04_pwm_edges.md: the three half-bridges of a carrier at 32 kHz on the gravure press. -/
theorem test_worked_example_edges :
    placePulse 40750 62500 2000 1200 = (10875, 51625, false, false) ∧ placePulse 14250 62500 2000 1200 = (24125, 38375, false, false) ∧
    placePulse 44250 62500 2000 1200 = (9125, 53375, false, false) := by
  decide +kernel

/-- The worked example of 03_axis_link.md: SAMPLE_OFS and UP_OFS of link AXL5 with d = 70 ns. -/
theorem test_worked_example_link : sampleOfs 31250 (6112 * 65536) (70 * 2 ^ 17) = 100272 ∧ upOfs (70 * 2 ^ 17) = -95 := by decide +kernel

/-- The worked example of 07_feedback.md: the merge of the count with the fine angle, and the position. -/
theorem test_worked_example_feedback :
    mergeCount { n := 1000006 } 5774 = (1000005, 0, false) ∧ xOf 1000005 5774 = 4096022158 ∧
    rawPos (setTop ready pAxFbLines 0 [2048]) 0 4096022158 = 524290836224 := by
  decide +kernel

/-! ### Single steps -/

/-- The state after a step that answers next. -/
def after (o : Host.Outcome State Fault Refusal) : State := match o with | .next s => s | _ => State.reset

theorem test_no_word_spells_a_command : decodeTableWord 16 5 = none ∧ decodeTableWord 0 0 = none := by decide

theorem test_step_idles : step ready = .next ready := rfl

theorem test_step_takes_the_front :
    (after (step { ready with pending := [.heartbeatWrite 2000000 .qspi 1, .hostErrRead 3000000 .qspi] })).pending = [.hostErrRead 3000000 .qspi] ∧
    (after (step { ready with pending := [.heartbeatWrite 2000000 .qspi 1] })).host.lastBeat = 2000000 := by
  decide +kernel

/-- REQ_PROD may run 64 entries ahead and not 65; the write binds the ring; an overrun is counted and recorded (R422). -/
theorem test_req_prod_bounds :
    let a := after (exec (.reqProdWrite 5 .qspi 0 64) ready)
    let b := after (exec (.reqProdWrite 5 .qspi 0 65) ready)
    (a.host.rings.get 0).reqProd = 64 ∧ (a.host.rings.get 0).port = 1 ∧ a.host.overrun = 0 ∧ (b.host.rings.get 0).reqProd = 0 ∧ b.host.overrun = 1 ∧
      (b.frec 0).code = fRingOverrun ∧ (b.frec 0).state = 2 := by
  decide +kernel

theorem test_bulk_write_reads_back :
    let a := after (exec (.qspiWrite 5 0xFFFE [0xAB, 0xCD]) ready)
    (after (exec (.qspiRead 6 0xFFFD 3 9) a)).out.qspi = [0, 0xAB, 0xCD] ∧ a.host.mem = [(0xFFFE, 0xAB), (0xFFFF, 0xCD)] ∧
      (after (exec (.qspiWrite 7 0xFFFE [0, 0]) a)).host.mem = [] := by
  decide +kernel

/-- The entry of a BAD_LENGTH response: opcode, tag, LENGTH 4, FINAL, own address 0xFF, STATUS 0x11 (R427, R428). -/
theorem test_bad_length_response :
    let a := after (exec (.check 5 (hd 57)) ready)
    memReadN a.host.mem 0x5000 12 = [0x10, 0x01, 7, 0, 4, 0, 0x10, 0xFF, 0x11, 0, 0, 0] ∧ (a.host.rings.get 0).rspProd = 1 := by
  decide +kernel

/-- VSYS_LOW opens a record at 17,499 mV, not at 17,500 mV, and posts FAULT_OPENED (R591, R473). -/
theorem test_vsys_low :
    let a := after (exec (.vsysLow 5 17499) ready)
    let b := after (exec (.vsysLow 5 17500) ready)
    (a.frec 0).code = 0x0202 ∧ (a.frec 0).state = 1 ∧ a.flt.newest = 0 ∧ a.host.evtProd = 1 ∧ b.flt.newest = 0xFFFF ∧ b.host.evtProd = 0 := by
  decide +kernel

/-- An injected fault is ACTIVE with INJ until its window ends, and then LATCHED; FAULT_ACK closes it (R481, R483, R484). -/
theorem test_inject_latch_close :
    let a := after (exec (.faultInject 5 (hd 12) 2 0x0202 0xFF 1) ready)
    let b := after (exec (.injectionWindowEnd 1001000 0) a)
    let c := after (exec (.faultAck 1002000 (hd 2) 0) b)
    (a.frec 0).state = 1 ∧ (a.frec 0).isInj = true ∧ (a.frec 0).real = false ∧ (b.frec 0).state = 2 ∧ (c.frec 0).state = 3 := by
  decide +kernel

/-- A CYCLE parameter waits while the block cycles; a NOW parameter does not (R454). -/
theorem test_param_set_codes :
    let h := hd 10
    let s : State := { ready with cyc := { cycling := true } }
    let a := after (exec (.paramSet 5 h (pAxModeTorqueRef * 256) 1 [5, 0]) s)
    let b := after (exec (.paramSet 5 h (pAxModeTorqueRef * 256) 1 [5, 0]) ready)
    a.p1 pAxModeTorqueRef 0 = 0 ∧ a.prm.cyclePend = [(pAxModeTorqueRef * 256, [5])] ∧ b.p1 pAxModeTorqueRef 0 = 5 := by
  decide +kernel

/-- DISCARD brings the topcoat back; APPLY without cycling takes effect with its preparation and counts one generation (R440, R441). -/
theorem test_stage_discard_apply :
    let a := after (exec (.paramStage 5 (hd 9) (pFltErrPinLevel * 256) 1 0 [2]) ready)
    let d := after (exec (.discard 6 (hd 0)) a)
    let p := after (exec (.applyPrepared 7) (after (exec (.apply 6 (hd 8) 0 0) a)))
    a.prm.undercoat ≠ a.prm.topcoat ∧ d.prm.undercoat = d.prm.topcoat ∧ p.p1 pFltErrPinLevel 0 = 2 ∧ p.prm.applyGen = 1 ∧ p.prm.topcoatValid = true := by
  decide +kernel

/-- The third WAKE burst in a row leads to TRAIN, and a wrong one starts the count anew (R65, R67). -/
theorem test_wake :
    let w := bst (prbsBody 0x94 80) 100 3
    let s := lk (fun l => { l with st := .listen, wakes := 2 })
    ((after (exec (.linkWakeRx 5 0 w) s)).ax 0).link.st = .train ∧
      ((after (exec (.linkWakeRx 5 0 { w with groups := [] }) s)).ax 0).link.wakes = 0 := by
  decide +kernel

/-- The fast command reads the buffer that the index names, and a flip leaves a held buffer alone (R410, R416). -/
theorem test_flip :
    let s := cyc { opened := true, closed := true }
    let a := after (exec (.fastStatusFlip 5) s)
    let b := after (exec (.fastStatusFlip 5) { s with host := { s.host with held := some (1, 2000000) } })
    a.host.bufIdx = 1 ∧ a.host.pubSkip = 0 ∧ b.host.bufIdx = 0 ∧ b.host.pubSkip = 1 := by
  decide +kernel

/-- A module without power starts at 16.5 V and not below; HOST_STATE becomes 2, LT starts at 0 (R378, R419, R590). -/
theorem test_power_up :
    let a := after (exec (.powerUp 5 good) State.reset)
    a.domOn .sup = true ∧ a.host.hostState = 2 ∧ a.host.ident.bootCount = 1 ∧ (after (exec (.powerUp 5 { good with vsysMv := 16499 }) State.reset)).domOn .sup = false := by
  decide +kernel

/-- A discrete input passes its filter after its time and not before (R516). -/
theorem test_di_filter :
    let s := after (exec (.diEdge 2000000 8 true) ready)
    let due := 2000000 + diHold ready 8
    (s.fld.di.get 8).filt = false ∧ ((after (exec (.diFilterExpiry (due - 1) 8) s)).fld.di.get 8).filt = false ∧
      ((after (exec (.diFilterExpiry due 8) s)).fld.di.get 8).filt = true := by
  decide +kernel

/-- The lowest-numbered matching object takes a frame; one that none matches is counted (R529). -/
theorem test_can_receive :
    let s : State := { setTop ready pCanObjects 0 (objBytes 3 [5, 0, 0, 0, 0xFF, 0xFF, 0xFF, 0xFF, 1, 0, 0, 0, 0, 0, 0, 0]) with
      can := (Vector.replicate 2 ({} : CanChan)).set 0 { st := 2 } }
    let f : CanFrame := ⟨5, false, false, false, false, 2, [1, 2], 0⟩
    let a := after (exec (.canFrameRx 5 0 f) s)
    ((a.canObj 0 3).new ∧ (a.canObj 0 3).data = [1, 2] ∧ (a.can.get 0).unmatched = 0) ∧
      ((after (exec (.canFrameRx 5 0 { f with id := 6 }) s)).can.get 0).unmatched = 1 := by
  decide +kernel

/-- A node in LISTEN that has heard nothing for 4 ms starts the fabric; its eighth frame makes it the leader (R369). -/
theorem test_coldstart :
    let s := setTop (nodeIn (fun f => { f with st := 1, ttNow := 0xF, listenSince := some 0 })) pModColdstartAllowed 0 [1]
    (after (exec (.coldstartEntry 4000000) s)).fab.st = 2 ∧ (after (exec (.coldstartEntry 3999999) s)).fab.st = 1 ∧
      (after (exec (.coldstartSend 5) (nodeIn (fun f => { f with st := 2, ttNow := 0xF, coldSent := 7 })))).fab.leader = true := by
  decide +kernel

/-- In SCRAP only FAULT_READ, TIME_GET and BIST_RUN are served: CHECK is answered LIFECYCLE (R562). -/
theorem test_scrap :
    let s : State := { ready with life := { ready.life with lc := 4 } }
    memRead (after (exec (.check 5 (hd 0)) s)).host.mem 0x5008 = 0x15 ∧ memRead (after (exec (.faultRead 5 (hd 4) 0 1) s)).host.mem 0x5008 = 0 := by
  decide +kernel

end Sys2Proof.Tests
end

section
/-! SUPPORT. The fast status window: what a due flip does to the host part, and that it leaves a buffer that an open
transaction reads alone (R39, R410). -/

namespace Sys2Proof.Machine

/-- The buffer that the index does not name, into which the next flip publishes (R410). -/
def HostState.backBuf (h : HostState) : Fin 2 := if h.bufIdx = 0 then 1 else 0

/-- The host part after a flip of `b`: published into the back buffer, or skipped and counted where that buffer is held (R410). -/
def flippedHost (b : State) : HostState :=
  if b.bufHeld b.host.backBuf then { b.host with pubSkip := (b.host.pubSkip + 1) % 2 ^ 16 }
  else { b.host with bufs := b.host.bufs.set b.host.backBuf.val (fastBuf b) b.host.backBuf.isLt, bufIdx := b.host.backBuf }

theorem flippedHost_of_held {b : State} (h : b.bufHeld b.host.backBuf = true) :
    flippedHost b = { b.host with pubSkip := (b.host.pubSkip + 1) % 2 ^ 16 } := if_pos h

theorem flippedHost_of_free {b : State} (h : b.bufHeld b.host.backBuf = false) :
    flippedHost b = { b.host with bufs := b.host.bufs.set b.host.backBuf.val (fastBuf b) b.host.backBuf.isLt
                                  bufIdx := b.host.backBuf } := if_neg (Bool.eq_false_iff.mp h)

/-- A flip leaves a held buffer alone: a held back buffer is skipped, and the front buffer is not written. -/
theorem flippedHost_get_of_held {b : State} {i : Fin 2} (hi : b.bufHeld i = true) :
    (flippedHost b).bufs.get i = b.host.bufs.get i := by
  cases hb : b.bufHeld b.host.backBuf with
  | true => rw [flippedHost_of_held hb]
  | false =>
    have hne : b.host.backBuf ≠ i := fun he => Bool.eq_false_iff.mp hb (he ▸ hi)
    rw [flippedHost_of_free hb]
    exact get_set_other _ hne _

/-- A flip that is due marks the cycle as flipped and changes nothing else than the host part. -/
theorem execFastStatusFlip_due {s b : State} {t : Nat} (hb : s.begin t = b) (hcyc : b.cyc.cycling = true)
    (hcl : b.cyc.closed = true) (hfl : b.cyc.flipped = false) (hft : b.cyc.start + b.cyc.per - 200 ≤ b.ft) :
    execFastStatusFlip t s = done { b with cyc := { b.cyc with flipped := true }, host := flippedHost b } := by
  have hdue : ¬ (¬ b.cyc.cycling = true ∨ ¬ b.cyc.closed = true ∨ b.cyc.flipped = true ∨
      b.ft < b.cyc.start + b.cyc.per - 200) := by
    simp [hcyc, hcl, hfl, hft]
  subst hb
  unfold execFastStatusFlip
  rw [if_neg hdue]
  cases hh : (s.begin t).bufHeld (s.begin t).host.backBuf with
  | true => rw [flippedHost_of_held hh]; exact if_pos hh
  | false => rw [flippedHost_of_free hh]; exact if_neg (Bool.eq_false_iff.mp hh)

/-- Settles O38, from what a due flip does and that it leaves a held buffer alone. -/
theorem fastStatusFlipsUnlessHeld : Obligations.FastStatusFlipsUnlessHeld := by
  unfold Obligations.FastStatusFlipsUnlessHeld
  intro s b t hb hcyc hcl hfl hft other s1
  have hrun := execFastStatusFlip_due hb hcyc hcl hfl hft
  exact ⟨flippedHost b, hrun, flippedHost_of_free, flippedHost_of_held,
    fun _ => flippedHost_get_of_held⟩

end Sys2Proof.Machine
end

section
/-! SUPPORT. Requests to a frozen bank: the state in which a taken request is judged, and what FROZEN refuses and leaves accepted
(R443, R455). -/

namespace Sys2Proof.Machine

section
variable {s b : State} {opc need : Nat} {ba br : Bool} {h : Hdr} {pay : List Byte}
  {checks : State → List (Bool × Nat × Nat)} {effect : ReqRef → State → Rsp × State}

/-- The first check that fails in the state `b` in which the request is judged is the answer. -/
theorem runOp_refused_of_noted {st d : Nat} (hb : s.noteCmd opc h pay = b) (hs : b.Serves h need ba br)
    (hf : firstFail (checks b) = some (st, d)) (hp : st ≠ stPending) :
    runOp opc need ba br h pay s checks effect = b.answer opc h { status := st, detail := d } := by
  subst hb
  exact runOp_refused hs hf hp

/-- With every check passed in the state `b` in which the request is judged, the operation acts on `b`. -/
theorem runOp_served_of_noted (hb : s.noteCmd opc h pay = b) (hs : b.Serves h need ba br) (hf : firstFail (checks b) = none) :
    runOp opc need ba br h pay s checks effect = (effect (refOf h opc) b).2.answer opc h (effect (refOf h opc) b).1 := by
  subst hb
  exact runOp_served hs hf

end

section
variable {s b : State} {t id count ofs : Nat} {h : Hdr} {v : List Byte} {r : PRow}

/-- Outside SCRAP no request is refused for the lifecycle as such (R562). -/
theorem State.scrap_eq_false (hlc : b.life.lc ≠ 4) : b.scrap = false := decide_eq_false hlc

/-- The row that a request of at least one value names. -/
theorem idRow_max_one (hc : 1 ≤ count) : idRow id (max 1 count) = idRow id count := by
  rw [Nat.max_eq_right hc]

/-- The count of a request lies in its range (R434). -/
theorem count_inRange (h1 : 1 ≤ count) (h32 : count ≤ 32) : decide (count = 0 ∨ 32 < count) = false :=
  decide_eq_false (by omega)

/-- The segment that a PARAM_STAGE of `cyc.cb_image` brings does not continue its object, or passes the object's limit (R337, R435). -/
def State.segmentOut (s : State) (id ofs : Nat) (v : List Byte) : Bool :=
  decide (id / 256 = pCycCbImage) && decide ((ofs ≠ 0 ∧ ofs ≠ (s.segOf id).length) ∨ cbImageMax < ofs + v.length)

/-- A segment in its order and within the limit is not refused; a value of another parameter is no segment. -/
theorem State.segmentOut_eq_false
    (hseg : id / 256 = pCycCbImage → (ofs = 0 ∨ ofs = (b.segOf id).length) ∧ ofs + v.length ≤ 73728) :
    b.segmentOut id ofs v = false := by
  unfold State.segmentOut
  rw [Bool.and_eq_false_imp]
  intro himg
  obtain ⟨hord, hmax⟩ := hseg (of_decide_eq_true himg)
  refine decide_eq_false ?_
  unfold cbImageMax
  omega

/-- DISCARD to a frozen bank is answered BUSY. -/
theorem execDiscard_frozen (hb : (s.begin t).taken (.discard t h) = b) (hs : b.Serves h 0 false false) (hlc : b.life.lc ≠ 4)
    (hfr : b.prm.frozen = true) : execDiscard t h s = done (b.answer 0x0112 h { status := stBusy }) := by
  refine congrArg done (runOp_refused_of_noted hb hs ?_ (by decide))
  simp [firstFail, State.scrap_eq_false hlc, hfr]

/-- PARAM_STAGE to a frozen bank is answered BUSY where every check before it passes. -/
theorem execParamStage_frozen (hb : (s.begin t).taken (.paramStage t h id count ofs v) = b) (hs : b.Serves h 8 true false)
    (hlc : b.life.lc ≠ 4) (hfr : b.prm.frozen = true) (h1 : 1 ≤ count) (h32 : count ≤ 32) (hrow : idRow id count = some r)
    (hfit : valuesFit r 8 count h.length v = true) (hbad : badValue r count v = none) (happ : r.app = .commit)
    (hobj : r.n = 0 → h.bulk = true ∧ count = 1) (hlc1 : id / 256 = pCycCbImage → b.life.lc = 1)
    (hseg : b.segmentOut id ofs v = false) :
    execParamStage t h id count ofs v s = done (b.answer 0x0103 h { status := stBusy }) := by
  have hpay : (s.begin t).noteCmd 0x0103 h (toLE 4 id ++ toLE 1 count ++ toLE 3 0 ++
      (if decide (id / 256 = pCycCbImage) = true then toLE 4 ofs else []) ++ v) = b := by
    simp only [decide_eq_true_eq]
    exact hb
  have hseg0 : (s.begin t).segmentOut id ofs v = false := by
    rw [← hseg, ← hb, State.taken_frame]
    rfl
  have hbulk : (decide (r.n = 0) && !h.bulk) = false := by
    simpa using fun h0 => (hobj h0).1
  have hsvc : (decide (id / 256 = pCycCbImage) && decide (b.life.lc ≠ 1)) = false := by
    simpa using hlc1
  have hcount : decide (count = 0 ∨ 32 < count ∨ (r.n = 0 ∧ count ≠ 1)) = false := by
    refine decide_eq_false ?_
    have := fun h0 => (hobj h0).2
    omega
  unfold execParamStage
  unfold State.segmentOut at hseg hseg0
  simp only [hseg0, Bool.false_eq_true, false_and, and_false, if_false]
  refine congrArg done (runOp_refused_of_noted hpay hs ?_ (by decide))
  simp only [idRow_max_one h1, hrow, hfit, hbulk, State.scrap_eq_false hlc, hsvc, hcount, hseg, hbad, happ, hfr, firstFail]
  simp

/-- PARAM_SET has its effect where every check passes; FROZEN is none of them. -/
theorem execParamSet_served (hb : (s.begin t).taken (.paramSet t h id count v) = b) (hs : b.Serves h 8 true false)
    (hlc : b.life.lc ≠ 4) (h1 : 1 ≤ count) (h32 : count ≤ 32) (hrow : idRow id count = some r)
    (hfit : valuesFit r 8 count h.length v = true) (hbad : badValue r count v = none)
    (hpair : testRange b r (instVals r (id % 256) count v) = none) (hst : setState b r (instVals r (id % 256) count v) = false)
    (hacq : r.key / 256 = 7 → b.acq.armed = false) :
    execParamSet t h id count v s =
      done (((instVals r (id % 256) count v).foldl (fun s e => setOne r e.1 e.2 s) b).answer 0x0102 h (okRsp [])) := by
  have harm : (decide (r.key / 256 = 0x07) && b.acq.armed) = false := by
    simpa using hacq
  refine congrArg done ((runOp_served_of_noted hb hs ?_).trans ?_)
  · simp [idRow_max_one h1, hrow, hfit, State.scrap_eq_false hlc, count_inRange h1 h32, hbad, hpair, hst, harm, firstFail]
  · simp only [idRow_max_one h1, hrow]

end

/-- Settles O14: the check for BUSY is the one that fails for DISCARD and PARAM_STAGE, and PARAM_SET has no check of FROZEN. -/
theorem frozenBankRefusesStagingOnly : Obligations.FrozenBankRefusesStagingOnly := by
  unfold Obligations.FrozenBankRefusesStagingOnly
  intro s b t h hlc hfr
  refine ⟨fun hb hs => execDiscard_frozen hb hs hlc hfr, ?_, ?_⟩
  · intro id count ofs v r hb hs h1 h32 hrow hfit hbad happ hobj himg
    exact execParamStage_frozen hb hs hlc hfr h1 h32 hrow hfit hbad happ hobj (fun hi => (himg hi).1)
      (State.segmentOut_eq_false fun hi => (himg hi).2)
  · intro id count v r hb hs h1 h32 hrow hfit hbad _ hpair hst hkey
    exact execParamSet_served hb hs hlc h1 h32 hrow hfit hbad hpair hst (fun h7 => absurd h7 hkey)

end Sys2Proof.Machine
end

section
/-! SUPPORT. The stable sort by a key, and the collector's pass: the order in which it takes what a command reported (R475), and
what `settle` leaves when one pass has decided everything. -/

namespace Sys2Proof.Machine

/-! ### The sort -/

section
variable {α : Type} (key : α → Nat)

theorem insertBy_perm (x : α) (l : List α) : (insertBy key x l).Perm (x :: l) := by
  induction l with
  | nil => exact .refl _
  | cons y r ih =>
    unfold insertBy
    split
    · exact .refl _
    · exact (ih.cons y).trans (.swap x y r)

theorem insertBy_pairwise (x : α) {l : List α} (h : l.Pairwise (key · ≤ key ·)) :
    (insertBy key x l).Pairwise (key · ≤ key ·) := by
  induction l with
  | nil => exact List.pairwise_singleton _ _
  | cons y r ih =>
    obtain ⟨hy, hr⟩ := List.pairwise_cons.mp h
    unfold insertBy
    split
    next hlt => exact h.cons (List.forall_mem_cons.mpr ⟨hlt.le, fun a ha => hlt.le.trans (hy a ha)⟩)
    next hge =>
      refine (ih hr).cons fun a ha => ?_
      obtain rfl | ha := List.mem_cons.mp ((insertBy_perm key x r).mem_iff.mp ha)
      · exact not_lt.mp hge
      · exact hy a ha

theorem sortBy_concat (l : List α) (x : α) : sortBy key (l ++ [x]) = insertBy key x (sortBy key l) := by
  simp [sortBy]

theorem sortBy_perm (l : List α) : (sortBy key l).Perm l := by
  induction l using List.reverseRecOn with
  | nil => exact .refl _
  | append_singleton l x ih =>
    rw [sortBy_concat]
    exact (insertBy_perm key x _).trans ((ih.cons x).trans (List.perm_append_singleton x l).symm)

theorem sortBy_pairwise (l : List α) : (sortBy key l).Pairwise (key · ≤ key ·) := by
  induction l using List.reverseRecOn with
  | nil => exact .nil
  | append_singleton l x ih =>
    rw [sortBy_concat]
    exact insertBy_pairwise key x ih

/-- A list with strictly rising keys is what every arrangement of it sorts to. -/
theorem sortBy_eq_of_perm {l l' : List α} (hp : l'.Perm l) (h : l.Pairwise (key · < key ·)) : sortBy key l' = l := by
  have hinj : ∀ a ∈ l, ∀ b ∈ l, key a = key b → a = b := fun a ha b hb =>
    List.inj_on_of_nodup_map (List.pairwise_map.mpr (h.imp ne_of_lt)) ha hb
  have hperm := (sortBy_perm key l').trans hp
  exact hperm.eq_of_pairwise (fun a b ha hb hab hba => hinj a (hperm.mem_iff.mp ha) b hb (hab.antisymm hba))
    (sortBy_pairwise key l') (h.imp le_of_lt)

end

/-! ### The pass -/

/-- Class, unit and code, compared in this order (R475). -/
def OccBefore (x y : Occ) : Prop :=
  x.code / 256 < y.code / 256 ∨ (x.code / 256 = y.code / 256 ∧ (x.unit < y.unit ∨ (x.unit = y.unit ∧ x.code < y.code)))

/-- Where unit and code fit their fields, the collector's key compares occurrences as R475 says. -/
theorem occKey_lt {x y : Occ} (hx : x.unit < 0x1000 ∧ x.code < 0x10000) (hy : y.unit < 0x1000 ∧ y.code < 0x10000)
    (h : OccBefore x y) : occKey x < occKey y := by
  unfold occKey
  obtain hcls | ⟨hcls, hunit | ⟨hunit, hcode⟩⟩ := h <;> omega

/-- A pass decides the inbox in the one arrangement that is in the order of R475. -/
theorem settlePass_eq_foldl {s : State} {l : List Occ} (hp : s.flt.inbox.Perm l) (hl : l.Pairwise OccBefore)
    (hwf : ∀ o ∈ l, o.unit < 0x1000 ∧ o.code < 0x10000) :
    settlePass s = l.foldl decideOcc { s with flt := { s.flt with inbox := [] } } := by
  have hkey : l.Pairwise (occKey · < occKey ·) :=
    hl.imp_of_mem fun ha hb => occKey_lt (hwf _ ha) (hwf _ hb)
  rw [settlePass, sortBy_eq_of_perm occKey hp hkey]

/-- An empty inbox is emptied by nothing. -/
theorem emptyInbox_eq_self {s : State} (h : s.flt.inbox = []) :
    ({ s with flt := { s.flt with inbox := [] } } : State) = s := by
  rw [← h]

theorem settlePass_of_inbox_nil {s : State} (h : s.flt.inbox = []) : settlePass s = s := by
  rw [settlePass_eq_foldl (.of_eq h) .nil (List.forall_mem_nil _), List.foldl_nil, emptyInbox_eq_self h]

/-- In a quiet state the end of `settle`, which empties the inbox and the count of dropped events, only sets ERR_N. -/
theorem updateErr_cleared_of_quiet {s : State} (h : s.Quiet) :
    updateErr { s with flt := { s.flt with inbox := [] }, host := { s.host with evtDropped := 0 } } =
      { s with flt := { s.flt with inbox := [], errLow := s.errPin } } := by
  rw [← h.2]
  rfl

/-- Where one pass decides everything and no event is dropped, `settle` is this pass and then the level of ERR_N. -/
theorem settle_of_settlePass {s s1 : State} (hsup : s.domOn .sup = true) (hpass : settlePass s = s1) (h : s1.Quiet) :
    settle s = { s1 with flt := { s1.flt with inbox := [], errLow := s1.errPin } } := by
  unfold settle
  rw [if_pos hsup, hpass, settlePass_of_inbox_nil h.1]
  simp only [h.2, List.range_zero, List.foldl_nil]
  exact updateErr_cleared_of_quiet h

/-- Settles O4: one pass decides the inbox in ascending order and leaves a quiet state; a state that is quiet only sets ERR_N. -/
theorem collectorDecidesInOrder : Obligations.CollectorDecidesInOrder := by
  unfold Obligations.CollectorDecidesInOrder
  refine ⟨?_, fun s => settle_quiet⟩
  intro s l hsup hp hl hwf s1 hdrop hin
  exact settle_of_settlePass hsup (settlePass_eq_foldl hp hl hwf) ⟨hin, hdrop⟩

end Sys2Proof.Machine
end

section
/-! SUPPORT. Challenges and debug access: which KIND is accepted in which lifecycle state, when a nonce is open, and what
DEBUG_CHALLENGE and DEBUG_RESPONSE do with it (R566-R569). -/

namespace Sys2Proof.Machine

/-! ### The nonce -/

/-- The lifecycle states of each KIND (R566). -/
theorem kindOpen_iff {kind lc : Nat} (hk : kind ≤ 2) :
    kindOpen kind lc = true ↔ (kind = 0 ∧ lc = 1) ∨ (kind = 1 ∧ (lc = 1 ∨ lc = 2)) ∨ (kind = 2 ∧ lc ≤ 3) := by
  obtain rfl | rfl | rfl : kind = 0 ∨ kind = 1 ∨ kind = 2 := by omega
  all_goals simp [kindOpen]

/-- No KIND is accepted in SCRAP. -/
theorem ne_scrap_of_kindOpen {kind lc : Nat} (hk : kind ≤ 2) (ho : kindOpen kind lc = true) : lc ≠ 4 := by
  rw [kindOpen_iff hk] at ho
  omega

theorem nonceBytes_length (k : Nat) : (nonceBytes k).length = 32 := by
  rw [nonceBytes, List.length_map, List.length_range]

section
variable {s : State} {k d : Nat} {n : List Byte}

/-- Before its instant a nonce is open. -/
theorem State.openNonce_before (hn : s.life.nonce = some (k, n, d)) (ht : s.time.lt < d) : s.openNonce = some (k, n) := by
  rw [State.openNonce, hn]
  exact if_pos ht

/-- From its instant on it is not. -/
theorem State.openNonce_expired (hn : s.life.nonce = some (k, n, d)) (ht : d ≤ s.time.lt) : s.openNonce = none := by
  rw [State.openNonce, hn]
  exact if_neg ht.not_gt

end

/-! ### DEBUG_CHALLENGE -/

section
variable {s b : State} {t kind : Nat} {h : Hdr}

/-- In a lifecycle state of its KIND a challenge replaces the nonce by a fresh one, open for 60 s. -/
theorem execDebugChallenge_opens (hb : (s.begin t).taken (.debugChallenge t h kind) = b) (hs : b.Serves h 1 false false)
    (hk : kind ≤ 2) (ho : kindOpen kind b.life.lc = true) (hf : b.life.authFails < 3) :
    execDebugChallenge t h kind s = done
      (({ b with free := b.free + 1
                 life := { b.life with nonce := some (kind, nonceBytes b.free, b.time.lt + 60000000000) } } : State).answer
        0x0803 h (okRsp (nonceBytes b.free))) := by
  refine congrArg done (runOp_served_of_noted hb hs ?_)
  simp [firstFail, State.scrap_eq_false (ne_scrap_of_kindOpen hk ho), ho, hk.not_gt, hf.not_ge]

/-- In every other lifecycle state it is answered LIFECYCLE. -/
theorem execDebugChallenge_refused (hb : (s.begin t).taken (.debugChallenge t h kind) = b) (hs : b.Serves h 1 false false)
    (ho : kindOpen kind b.life.lc = false) :
    execDebugChallenge t h kind s = done (b.answer 0x0803 h { status := stLifecycle }) := by
  refine congrArg done (runOp_refused_of_noted hb hs ?_ (by decide))
  simp [firstFail, ho]

end

/-! ### DEBUG_RESPONSE -/

/-- What the first response to a nonce leaves, right or wrong: the nonce is used up; a right one opens what its KIND opens, a
wrong one waits 1 s for AUTH (R566-R569). -/
def responded (b : State) (q : ReqRef) (k : Nat) (n body : List Byte) : Rsp × State :=
  let used := { b with life := { b.life with nonce := none } }
  if responseOk b k n body then (okRsp [], responseOpens k used)
  else ({ status := stPending }, { used with life := { used.life with
    authPend := used.life.authPend ++ [(q, b.time.lt + 1000000000)] } })

/-- What a response opens leaves the nonce alone. -/
theorem responseOpens_nonce (k : Nat) (s : State) : (responseOpens k s).life.nonce = s.life.nonce := by
  unfold responseOpens
  split_ifs <;> rfl

/-- A response uses its nonce up. -/
theorem responded_nonce (b : State) (q : ReqRef) (k : Nat) (n body : List Byte) :
    (responded b q k n body).2.life.nonce = none := by
  unfold responded
  split
  · exact responseOpens_nonce k _
  · rfl

section
variable {s b : State} {t k : Nat} {h : Hdr} {n body : List Byte}

/-- A response without an open nonce is answered STATE (R569). -/
theorem execDebugResponse_closed (hb : (s.begin t).taken (.debugResponse t h body) = b) (hs : b.Serves h 0 true false)
    (hlc : b.life.lc ≠ 4) (hn : b.openNonce = none) (hbulk : h.bulk = false) :
    execDebugResponse t h body s = done (b.answer 0x0804 h { status := stState }) := by
  refine congrArg done (runOp_refused_of_noted hb hs ?_ (by decide))
  simp [firstFail, State.scrap_eq_false hlc, hn, hbulk]

/-- The form of a response suits its nonce: a password inline, a signature of 64 bytes in bulk (R567, R568). -/
theorem responseForm_ok (hform : if k = 0 then h.bulk = false else h.bulk = true ∧ h.length = 64) :
    ((decide (k ≠ 0) && decide (h.length ≠ 64)) || (decide (k ≠ 0) != h.bulk)) = false := by
  split at hform
  case isTrue hk => simp [hk, hform]
  case isFalse hk => simp [hk, hform]

/-- A response in the form of the open nonce is judged against it. -/
theorem execDebugResponse_served (hb : (s.begin t).taken (.debugResponse t h body) = b) (hs : b.Serves h 0 true false)
    (hlc : b.life.lc ≠ 4) (hn : b.openNonce = some (k, n))
    (hform : if k = 0 then h.bulk = false else h.bulk = true ∧ h.length = 64) (hf : b.life.authFails < 3) :
    execDebugResponse t h body s =
      done ((responded b (refOf h 0x0804) k n body).2.answer 0x0804 h (responded b (refOf h 0x0804) k n body).1) := by
  refine congrArg done ((runOp_served_of_noted hb hs ?_).trans ?_)
  · have hfails : decide (3 ≤ b.life.authFails) = false := decide_eq_false hf.not_ge
    simp only [hn, responseForm_ok hform, State.scrap_eq_false hlc, hfails, firstFail, Option.isNone_some, Bool.false_eq_true,
      if_false]
  · simp only [hn]
    rfl

end

/-- Settles O26, from what a challenge does in and out of the states of its KIND, and from the first response using its
nonce up, right or wrong. -/
theorem challengeOpensOneNonce : Obligations.ChallengeOpensOneNonce := by
  unfold Obligations.ChallengeOpensOneNonce
  refine ⟨?_, nonceBytes_length, fun s k d n hn => ⟨State.openNonce_before hn, State.openNonce_expired hn⟩, ?_, ?_⟩
  · intro s b t h kind hb hs hk may
    have hmay : kindOpen kind b.life.lc = true ↔ may := kindOpen_iff hk
    exact ⟨fun hm hf => execDebugChallenge_opens hb hs hk (hmay.mpr hm) hf,
      fun hm => execDebugChallenge_refused hb hs (Bool.eq_false_iff.mpr (mt hmay.mp hm))⟩
  · intro s b t h body
    exact execDebugResponse_closed
  · intro s b t h body n k hb hs hlc hn hform hf
    exact ⟨_, _, execDebugResponse_served hb hs hlc hn hform hf, responded_nonce ..⟩

end Sys2Proof.Machine
end

section
/-! SUPPORT. Every command ends through `done`, and so in a settled next state. -/

namespace Sys2Proof.Machine

/-- A meaning ends in a next state through `done`. -/
def Ends (o : Host.Outcome State Fault Refusal) : Prop := ∃ s', o = done s'

theorem ends_done (s : State) : Ends (done s) := ⟨s, rfl⟩

theorem ends_ite {c : Prop} [Decidable c] {a b : Host.Outcome State Fault Refusal} (ha : Ends a) (hb : Ends b) :
    Ends (if c then a else b) := by
  split
  · exact ha
  · exact hb

theorem portRead_ends (t : Nat) (p : HostPort) (a n : Nat) (s : State) : Ends (portRead t p a n s) := by
  unfold portRead
  extract_lets
  split <;> exact ends_done _

theorem portWrite_ends (t : Nat) (p : HostPort) (a : Nat) (l : List Byte) (s : State) : Ends (portWrite t p a l s) := by
  unfold portWrite
  extract_lets
  split <;> exact ends_done _

theorem runRequest_ends (opc t : Nat) (h : Hdr) (p : List Byte) (s : State) : Ends (runRequest opc t h p s) := by
  unfold runRequest
  repeat refine ends_ite (ends_done _) ?_
  exact ends_done _

theorem execMailboxServicePass_ends (p : ServicePass) (s : State) : Ends (execMailboxServicePass p s) := by
  unfold execMailboxServicePass
  extract_lets
  split
  · split
    · exact runRequest_ends ..
    · exact runRequest_ends ..
    · exact ends_done _
  · exact ends_done _

/-- Every branch of every command ends through `done`. -/
theorem exec_ends (i : Instr) (s : State) : Ends (exec i s) := by
  cases i
  all_goals dsimp only [exec]
  case reqProdWrite => exact portWrite_ends ..
  case rspConsWrite => exact portWrite_ends ..
  case evtConsWrite => exact portWrite_ends ..
  case heartbeatWrite => exact portWrite_ends ..
  case hostSilent => unfold execHostSilent; extract_lets; (repeat' split) <;> exact ends_done _
  case evtRegisterRead => exact portRead_ends ..
  case hostErrRead => exact portRead_ends ..
  case fldCntRead => exact portRead_ends ..
  case canStatRead => exact portRead_ends ..
  case fldOutWrite => exact portWrite_ends ..
  case objStatClear => exact portWrite_ends ..
  case txReq => exact portWrite_ends ..
  case registerWrite => exact portWrite_ends ..
  case qspiFast => unfold execQspiFast; extract_lets; (repeat' split) <;> exact ends_done _
  case qspiRead => unfold execQspiRead; extract_lets; (repeat' split) <;> exact ends_done _
  case qspiWrite => exact portWrite_ends ..
  case ethWindowRead => unfold execEthWindowRead; extract_lets; (repeat' split) <;> exact ends_done _
  case ethWindowWrite => unfold execEthWindowWrite; extract_lets; (repeat' split) <;> exact ends_done _
  case ethFrameDiscard => unfold execEthFrameDiscard; extract_lets; (repeat' split) <;> exact ends_done _
  case ethLink => unfold execEthLink; extract_lets; (repeat' split) <;> exact ends_done _
  case mailboxServicePass => exact execMailboxServicePass_ends ..
  case controlCycleStart => unfold execControlCycleStart; extract_lets; (repeat' split) <;> exact ends_done _
  case upstreamFrameRx => unfold execUpstreamFrameRx; extract_lets; (repeat' split) <;> exact ends_done _
  case upstreamDeadline => unfold execUpstreamDeadline; extract_lets; (repeat' split) <;> exact ends_done _
  case tileWindowOpen => unfold execTileWindowOpen; extract_lets; (repeat' split) <;> exact ends_done _
  case tileWindowClose => unfold execTileWindowClose; extract_lets; (repeat' split) <;> exact ends_done _
  case downstreamSend => unfold execDownstreamSend; extract_lets; (repeat' split) <;> exact ends_done _
  case fastStatusFlip => unfold execFastStatusFlip; extract_lets; (repeat' split) <;> exact ends_done _
  case applyPrepared => unfold execApplyPrepared; extract_lets; (repeat' split) <;> exact ends_done _
  case applyTakeEffect => unfold execApplyTakeEffect; extract_lets; (repeat' split) <;> exact ends_done _
  case applyPersistDone => unfold execApplyPersistDone; extract_lets; (repeat' split) <;> exact ends_done _
  case fabricApplyDecision => unfold execFabricApplyDecision; extract_lets; (repeat' split) <;> exact ends_done _
  case fabricApplySwitch => unfold execFabricApplySwitch; extract_lets; (repeat' split) <;> exact ends_done _
  case modeSwitchCycle => unfold execModeSwitchCycle; extract_lets; (repeat' split) <;> exact ends_done _
  case enableCycle => unfold execEnableCycle; extract_lets; (repeat' split) <;> exact ends_done _
  case linkWakeRx => unfold execLinkWakeRx; extract_lets; (repeat' split) <;> exact ends_done _
  case linkTrainRx => unfold execLinkTrainRx; extract_lets; (repeat' split) <;> exact ends_done _
  case trainFail => unfold execTrainFail; extract_lets; (repeat' split) <;> exact ends_done _
  case measureDone => unfold execMeasureDone; extract_lets; (repeat' split) <;> exact ends_done _
  case linkIdleExchange => unfold execLinkIdleExchange; extract_lets; (repeat' split) <;> exact ends_done _
  case linkLost => unfold execLinkLost; extract_lets; (repeat' split) <;> exact ends_done _
  case eyeLow => unfold execEyeLow; extract_lets; (repeat' split) <;> exact ends_done _
  case stoMismatch => unfold execStoMismatch; extract_lets; (repeat' split) <;> exact ends_done _
  case tripClearTimeout => unfold execTripClearTimeout; extract_lets; (repeat' split) <;> exact ends_done _
  case idBound => unfold execIdBound; extract_lets; (repeat' split) <;> exact ends_done _
  case stepperHoldReduce => unfold execStepperHoldReduce; extract_lets; (repeat' split) <;> exact ends_done _
  case moveStartAtDue => unfold execMoveStartAtDue; extract_lets; (repeat' split) <;> exact ends_done _
  case jogTimeout => unfold execJogTimeout; extract_lets; (repeat' split) <;> exact ends_done _
  case standstill => unfold execStandstill; extract_lets; (repeat' split) <;> exact ends_done _
  case stopTimeout => unfold execStopTimeout; extract_lets; (repeat' split) <;> exact ends_done _
  case homePhaseEnd => unfold execHomePhaseEnd; extract_lets; (repeat' split) <;> exact ends_done _
  case homePressed => unfold execHomePressed; extract_lets; (repeat' split) <;> exact ends_done _
  case limitDebounce => unfold execLimitDebounce; extract_lets; (repeat' split) <;> exact ends_done _
  case chatterEnd => unfold execChatterEnd; extract_lets; (repeat' split) <;> exact ends_done _
  case tilePowered => unfold execTilePowered; extract_lets; (repeat' split) <;> exact ends_done _
  case tideDecision => unfold execTideDecision; extract_lets; (repeat' split) <;> exact ends_done _
  case tideSwitch => unfold execTideSwitch; extract_lets; (repeat' split) <;> exact ends_done _
  case tideAdopt => unfold execTideAdopt; extract_lets; (repeat' split) <;> exact ends_done _
  case tideStale => unfold execTideStale; extract_lets; (repeat' split) <;> exact ends_done _
  case masterStale => unfold execMasterStale; extract_lets; (repeat' split) <;> exact ends_done _
  case gearEngageBegin => unfold execGearEngageBegin; extract_lets; (repeat' split) <;> exact ends_done _
  case gearSynced => unfold execGearSynced; extract_lets; (repeat' split) <;> exact ends_done _
  case fabricCycleStart => unfold execFabricCycleStart; extract_lets; (repeat' split) <;> exact ends_done _
  case berthLaunch => unfold execBerthLaunch; extract_lets; (repeat' split) <;> exact ends_done _
  case berthFrameRx => unfold execBerthFrameRx; extract_lets; (repeat' split) <;> exact ends_done _
  case clockSyncUpdate => unfold execClockSyncUpdate; extract_lets; (repeat' split) <;> exact ends_done _
  case noSource => unfold execNoSource; extract_lets; (repeat' split) <;> exact ends_done _
  case syncLost => unfold execSyncLost; extract_lets; (repeat' split) <;> exact ends_done _
  case silentReturn => unfold execSilentReturn; extract_lets; (repeat' split) <;> exact ends_done _
  case joinComplete => unfold execJoinComplete; extract_lets; (repeat' split) <;> exact ends_done _
  case nodesLost => unfold execNodesLost; dsimp only; (repeat' split) <;> exact ends_done _
  case portLock => unfold execPortLock; extract_lets; (repeat' split) <;> exact ends_done _
  case linkDown => unfold execLinkDown; extract_lets; (repeat' split) <;> exact ends_done _
  case probeSend => unfold execProbeSend; extract_lets; (repeat' split) <;> exact ends_done _
  case probeRx => unfold execProbeRx; extract_lets; (repeat' split) <;> exact ends_done _
  case coldstartEntry => unfold execColdstartEntry; extract_lets; (repeat' split) <;> exact ends_done _
  case coldstartSend => unfold execColdstartSend; extract_lets; (repeat' split) <;> exact ends_done _
  case coldstartRx => unfold execColdstartRx; extract_lets; (repeat' split) <;> exact ends_done _
  case censusRx => unfold execCensusRx; dsimp only; (repeat' split) <;> exact ends_done _
  case censusReturn => unfold execCensusReturn; extract_lets; (repeat' split) <;> exact ends_done _
  case assignRx => unfold execAssignRx; extract_lets; (repeat' split) <;> exact ends_done _
  case autoDiscovery => unfold execAutoDiscovery; extract_lets; (repeat' split) <;> exact ends_done _
  case startFrameRx => unfold execStartFrameRx; extract_lets; (repeat' split) <;> exact ends_done _
  case timetableSwitchAt => unfold execTimetableSwitchAt; dsimp only; (repeat' split) <;> exact ends_done _
  case ferrySegmentRx => unfold execFerrySegmentRx; extract_lets; (repeat' split) <;> exact ends_done _
  case ferryRetransmit => unfold execFerryRetransmit; extract_lets; (repeat' split) <;> exact ends_done _
  case timetableRepeat => unfold execTimetableRepeat; extract_lets; (repeat' split) <;> exact ends_done _
  case timetableLoadTimeout => unfold execTimetableLoadTimeout; extract_lets; (repeat' split) <;> exact ends_done _
  case ptpMessageRx => unfold execPtpMessageRx; extract_lets; (repeat' split) <;> exact ends_done _
  case ptpLost => unfold execPtpLost; extract_lets; (repeat' split) <;> exact ends_done _
  case ppsiEdge => unfold execPpsiEdge; extract_lets; (repeat' split) <;> exact ends_done _
  case ntRecordSend => unfold execNtRecordSend; extract_lets; (repeat' split) <;> exact ends_done _
  case ntRecordApply => unfold execNtRecordApply; extract_lets; (repeat' split) <;> exact ends_done _
  case ntHoldover => unfold execNtHoldover; extract_lets; (repeat' split) <;> exact ends_done _
  case tqEdge => unfold execTqEdge; dsimp only; (repeat' split) <;> exact ends_done _
  case ppsoEdge => unfold execPpsoEdge; extract_lets; (repeat' split) <;> exact ends_done _
  case clockCheck => unfold execClockCheck; extract_lets; (repeat' split) <;> exact ends_done _
  case pllUnlock => unfold execPllUnlock; extract_lets; (repeat' split) <;> exact ends_done _
  case injectionWindowEnd => unfold execInjectionWindowEnd; extract_lets; (repeat' split) <;> exact ends_done _
  case safetyExchangeFrame => unfold execSafetyExchangeFrame; extract_lets; (repeat' split) <;> exact ends_done _
  case safeInputFilter => unfold execSafeInputFilter; extract_lets; (repeat' split) <;> exact ends_done _
  case testPulse => unfold execTestPulse; extract_lets; (repeat' split) <;> exact ends_done _
  case discrepancy => unfold execDiscrepancy; extract_lets; (repeat' split) <;> exact ends_done _
  case ss1TimerEnd => unfold execSs1TimerEnd; extract_lets; (repeat' split) <;> exact ends_done _
  case resetRelease => unfold execResetRelease; dsimp only; (repeat' split) <;> exact ends_done _
  case soReadback => unfold execSoReadback; dsimp only; (repeat' split) <;> exact ends_done _
  case safeMessageSend => unfold execSafeMessageSend; extract_lets; (repeat' split) <;> exact ends_done _
  case msgWatchdog => unfold execMsgWatchdog; extract_lets; (repeat' split) <;> exact ends_done _
  case safetyConfigDone => unfold execSafetyConfigDone; extract_lets; (repeat' split) <;> exact ends_done _
  case diEdge => unfold execDiEdge; extract_lets; (repeat' split) <;> exact ends_done _
  case diFilterExpiry => unfold execDiFilterExpiry; extract_lets; (repeat' split) <;> exact ends_done _
  case wireBreak => unfold execWireBreak; extract_lets; (repeat' split) <;> exact ends_done _
  case fieldLinkDownFrame => unfold execFieldLinkDownFrame; extract_lets; (repeat' split) <;> exact ends_done _
  case fieldLinkUpFrame => unfold execFieldLinkUpFrame; extract_lets; (repeat' split) <;> exact ends_done _
  case fieldSilent => unfold execFieldSilent; extract_lets; (repeat' split) <;> exact ends_done _
  case fieldDownSilence => unfold execFieldDownSilence; extract_lets; (repeat' split) <;> exact ends_done _
  case vfldSag => unfold execVfldSag; extract_lets; (repeat' split) <;> exact ends_done _
  case vfldRestore => unfold execVfldRestore; extract_lets; (repeat' split) <;> exact ends_done _
  case dqOverload => unfold execDqOverload; extract_lets; (repeat' split) <;> exact ends_done _
  case dqExternal => unfold execDqExternal; extract_lets; (repeat' split) <;> exact ends_done _
  case openLoad => unfold execOpenLoad; extract_lets; (repeat' split) <;> exact ends_done _
  case canFrameRx => unfold execCanFrameRx; extract_lets; (repeat' split) <;> exact ends_done _
  case canTxDone => unfold execCanTxDone; extract_lets; (repeat' split) <;> exact ends_done _
  case canPeriodicDue => unfold execCanPeriodicDue; extract_lets; (repeat' split) <;> exact ends_done _
  case canBusError => unfold execCanBusError; extract_lets; (repeat' split) <;> exact ends_done _
  case busOffRecovery => unfold execBusOffRecovery; extract_lets; (repeat' split) <;> exact ends_done _
  case recorderFreeze => unfold execRecorderFreeze; extract_lets; (repeat' split) <;> exact ends_done _
  case replayDone => unfold execReplayDone; extract_lets; (repeat' split) <;> exact ends_done _
  case bistDone => unfold execBistDone; extract_lets; (repeat' split) <;> exact ends_done _
  case lifecycleProgrammed => unfold execLifecycleProgrammed; extract_lets; (repeat' split) <;> exact ends_done _
  case lifecycleReset => unfold execLifecycleReset; extract_lets; (repeat' split) <;> exact ends_done _
  case debugNonceExpire => unfold execDebugNonceExpire; extract_lets; (repeat' split) <;> exact ends_done _
  case fwTrialReadyTimeout => unfold execFwTrialReadyTimeout; extract_lets; (repeat' split) <;> exact ends_done _
  case fwTrialEnd => unfold execFwTrialEnd; extract_lets; (repeat' split) <;> exact ends_done _
  case ageingMeasure => unfold execAgeingMeasure; extract_lets; (repeat' split) <;> exact ends_done _
  case marginReplan => unfold execMarginReplan; extract_lets; (repeat' split) <;> exact ends_done _
  case powerUp => unfold execPowerUp; extract_lets; (repeat' split) <;> exact ends_done _
  case vsysLow => unfold execVsysLow; extract_lets; (repeat' split) <;> exact ends_done _
  case vsysLowClear => unfold execVsysLowClear; extract_lets; (repeat' split) <;> exact ends_done _
  case shutdown => unfold execShutdown; extract_lets; (repeat' split) <;> exact ends_done _
  case rstNLow => unfold execRstNLow; extract_lets; (repeat' split) <;> exact ends_done _
  case rstNHigh => unfold execRstNHigh; extract_lets; (repeat' split) <;> exact ends_done _
  case domainLost => unfold execDomainLost; extract_lets; (repeat' split) <;> exact ends_done _
  case vbakCheck => unfold execVbakCheck; extract_lets; (repeat' split) <;> exact ends_done _
  case tempThreshold => unfold execTempThreshold; extract_lets; (repeat' split) <;> exact ends_done _
  case supWatchdog => unfold execSupWatchdog; extract_lets; (repeat' split) <;> exact ends_done _
  case pllLockRegained => unfold execPllLockRegained; extract_lets; (repeat' split) <;> exact ends_done _
  case safetyExchangeAbsence => unfold execSafetyExchangeAbsence; extract_lets; (repeat' split) <;> exact ends_done _
  case coldSpareSelfTest => unfold execColdSpareSelfTest; extract_lets; (repeat' split) <;> exact ends_done _
  case dqOverloadCleared => unfold execDqOverloadCleared; extract_lets; (repeat' split) <;> exact ends_done _
  case dqExternalCleared => unfold execDqExternalCleared; extract_lets; (repeat' split) <;> exact ends_done _
  case canBusIntegration => unfold execCanBusIntegration; extract_lets; (repeat' split) <;> exact ends_done _
  all_goals exact ends_done _

/-- Settles O5: every command ends through `done`, and an empty queue leaves the state as it is. -/
theorem everyStepAnswersNext : Obligations.EveryStepAnswersNext := by
  unfold Obligations.EveryStepAnswersNext
  intro s
  unfold step
  split
  · exact ⟨s, rfl⟩
  next i r _ =>
    obtain ⟨s', h⟩ := exec_ends i { s with pending := r }
    exact ⟨settle s', h⟩

/-- Settles O3: an idle step changes nothing, and every command ends in `settle`. -/
theorem stepKeepsSettled : Obligations.StepKeepsSettled := by
  unfold Obligations.StepKeepsSettled
  intro s s' hs hstep
  unfold step at hstep
  split at hstep
  · obtain rfl := Host.Outcome.next.inj hstep
    exact hs
  next i r _ =>
    obtain ⟨x, hx⟩ := exec_ends i { s with pending := r }
    obtain rfl := Host.Outcome.next.inj ((done_eq x).symm.trans (hx.symm.trans hstep))
    exact settle_settled x

/-- Settles O1, by the two cases of the queue. -/
theorem stepRunsFrontCommandOrIdles : Obligations.StepRunsFrontCommandOrIdles := by
  unfold Obligations.StepRunsFrontCommandOrIdles
  refine ⟨fun c r s => rfl, fun s hp => ?_⟩
  unfold step
  rw [hp]

/-- Settles O2: at reset nothing waits, and ERR_N is low since SUP is off. -/
theorem resetIsSettled : Obligations.ResetIsSettled := by
  unfold Obligations.ResetIsSettled
  exact ⟨⟨⟨rfl, rfl⟩, by decide +kernel⟩, reset_memWf, rfl, fun _ => rfl⟩

end Sys2Proof.Machine
end

section
/-! SUPPORT. What every mailbox request has in common: it is carried out by `runOp`, in the order of checks of R428, and SCRAP
refuses it (R424, R428, R429, R562). -/

namespace Sys2Proof.Machine

/-! ### Checks -/

/-- The checks refuse the request, with a code that is neither OK nor PENDING. -/
def Refuses (l : List (Bool × Nat × Nat)) : Prop := ∃ st d, st ≠ stOk ∧ st ≠ stPending ∧ firstFail l = some (st, d)

/-- A first check that fails refuses. -/
theorem refuses_head {b : Bool} {st d : Nat} {r : List (Bool × Nat × Nat)} (hb : b = true) (hst : 1 < st := by decide) :
    Refuses ((b, st, d) :: r) :=
  ⟨st, d, (Nat.zero_lt_of_lt hst).ne', hst.ne', by rw [firstFail_cons, if_pos hb]⟩

/-- Where the later checks refuse, a check before them only changes the code. -/
theorem refuses_cons {b : Bool} {st d : Nat} {r : List (Bool × Nat × Nat)} (h : Refuses r) (hst : 1 < st := by decide) :
    Refuses ((b, st, d) :: r) := by
  cases b with
  | true => exact refuses_head rfl hst
  | false => exact h

theorem axMoveChecks_scrap {s : State} (hs : s.scrap = true) (a : AxisId) (m : MoveReq) : Refuses (axMoveChecks s a m) :=
  refuses_head hs

theorem grpMoveChecks_scrap {s : State} (hs : s.scrap = true) (g : Fin 8) (m : MoveReq) : Refuses (grpMoveChecks s g m) :=
  refuses_cons (refuses_head hs)

theorem gearChecks_scrap {s : State} (hs : s.scrap = true) (a : AxisId) (r : GearReq) : Refuses (gearChecks s a r) :=
  refuses_cons (refuses_cons (refuses_head hs))

/-! ### The shape of a request -/

/-- The request is taken, of a fitting length and for this node. -/
def ReqForm.judged (f : ReqForm) (s : State) : Bool :=
  s.canTake f.h && s.isLocal f.h && lengthOk f.h f.need f.bulkAllowed f.bulkRequired

/-- Every request is carried out by `runOp` in its form, unless this node judges it outside SCRAP, where a segment out of order also
discards its object (R435); and in SCRAP the checks of every request but FAULT_READ, TIME_GET and BIST_RUN refuse it (R562). -/
theorem exec_runOp {i : Instr} {f : ReqForm} (hf : requestForm i = some f) (s : State) : ∃ checks effect,
    (f.judged (s.begin f.t) = false ∨ s.life.lc = 4 → exec i s =
      done (runOp f.opc f.need f.bulkAllowed f.bulkRequired f.h (requestPayload i) (s.begin f.t) checks effect)) ∧
    (f.opc ≠ 0x0401 → f.opc ≠ 0x0601 → f.opc ≠ 0x0801 → ∀ x : State, x.life.lc = 4 → Refuses (checks x)) := by
  unfold requestForm at hf
  split at hf
  case h_43 => cases hf
  all_goals obtain rfl := Option.some.inj hf
  case h_3 t h id count ofs vals =>
    have hpay : requestPayload (.paramStage t h id count ofs vals) = toLE 4 id ++ toLE 1 count ++ toLE 3 0 ++
        (if decide (id / 256 = pCycCbImage) = true then toLE 4 ofs else []) ++ vals := by
      simp only [requestPayload, decide_eq_true_eq]
    rw [hpay]
    refine ⟨_, _, fun hj => congrArg done (if_neg ?_), fun _ _ _ x hx => ?_⟩
    · rintro ⟨hrun, -, hlc⟩
      obtain hj | hj := hj
      · exact Bool.eq_false_iff.mp hj hrun
      · exact absurd (hlc.symm.trans hj) (by decide)
    · dsimp only
      split
      · exact refuses_head rfl
      · exact refuses_cons (refuses_cons (refuses_head (decide_eq_true hx)))
  case h_40 t h ofs body =>
    refine ⟨_, _, fun hj => congrArg done (if_neg ?_), fun _ _ _ x hx => refuses_head (decide_eq_true hx)⟩
    rintro ⟨hrun, -⟩
    obtain ⟨hrun, hscrap⟩ := (Bool.and_eq_true ..).mp hrun
    obtain hj | hj := hj
    · exact Bool.eq_false_iff.mp hj hrun
    · exact Bool.eq_false_iff.mp (Bool.not_eq_true' _ ▸ hscrap) (decide_eq_true hj)
  all_goals refine ⟨_, _, fun _ => rfl, ?_⟩
  case h_21 => exact fun h => absurd rfl h
  case h_29 => exact fun _ h => absurd rfl h
  case h_35 => exact fun _ _ h => absurd rfl h
  all_goals
    intro _ _ _ x hx
    have hscrap : x.scrap = true := decide_eq_true hx
  case h_1 => split; exacts [refuses_head rfl, refuses_cons (refuses_head hscrap)]
  case h_2 => split; exacts [refuses_head rfl, refuses_cons (refuses_head hscrap)]
  case h_9 => split; exacts [refuses_head rfl, refuses_head hscrap]
  case h_10 => split; exacts [axMoveChecks_scrap hscrap _ _, grpMoveChecks_scrap hscrap _ _, refuses_head rfl]
  case h_14 => split; exacts [refuses_head rfl, refuses_head hscrap]
  case h_15 => split; exacts [refuses_head rfl, refuses_cons (refuses_head hscrap)]
  case h_16 => split; exacts [refuses_head rfl, refuses_cons (refuses_head hscrap)]
  case h_17 => exact refuses_cons (refuses_cons (refuses_head hscrap))
  case h_19 => split; exacts [refuses_head rfl, gearChecks_scrap hscrap _ _]
  case h_23 => exact refuses_cons (refuses_head (by simp [hx]))
  case h_24 => exact refuses_cons (refuses_cons (refuses_head hscrap))
  case h_28 => exact refuses_head (by simp [hx])
  case h_37 => exact refuses_head (by simp [hscrap])
  case h_42 => exact refuses_cons (refuses_head (by simp [hscrap]))
  case h_11 | h_12 | h_13 | h_18 | h_20 | h_22 | h_30 | h_36 | h_38 => exact refuses_cons (refuses_head hscrap)
  all_goals exact refuses_head hscrap

/-! ### The ways a request ends -/

section
variable {i : Instr} {f : ReqForm} {s : State}

theorem ReqForm.judged_eq_false_of_length (hl : lengthOk f.h f.need f.bulkAllowed f.bulkRequired = false) : f.judged s = false := by
  simp [ReqForm.judged, hl]

theorem ReqForm.judged_eq_false_of_elsewhere (hi : s.isLocal f.h = false) : f.judged s = false := by
  simp [ReqForm.judged, hi]

theorem ReqForm.judged_eq_false_of_not_taken (hc : s.canTake f.h = false) : f.judged s = false := by
  simp [ReqForm.judged, hc]

/-- A node that the table does not hold, or any other node in startup mode, has no ferry: the answer is UNREACHABLE (R429). -/
theorem State.forward_unreachable {h : Hdr} {q : ReqRef} {pay : List Byte}
    (hn : s.fab.ttNow = 0xF ∨ ∀ n ∈ s.fab.nodes, n.addr ≠ h.target) :
    s.forward h q pay = s.respond q h.bulkOfs { status := stUnreachable } := by
  refine if_pos (hn.imp_right fun hall => ?_)
  simpa using hall

/-- Settles O6: `runOp` leaves a request that it cannot take in its ring. -/
theorem requestThatCannotBeTakenChangesNothing : Obligations.RequestThatCannotBeTakenChangesNothing := by
  unfold Obligations.RequestThatCannotBeTakenChangesNothing
  intro i f s hf hc
  obtain ⟨checks, effect, hrun, -⟩ := exec_runOp hf s
  rw [hrun (.inl (ReqForm.judged_eq_false_of_not_taken hc)), runOp_not_taken hc, done_eq]

/-- Settles O7: the length is the first thing that `runOp` checks of a request it takes. -/
theorem wrongLengthIsAnsweredBadLength : Obligations.WrongLengthIsAnsweredBadLength := by
  unfold Obligations.WrongLengthIsAnsweredBadLength
  intro i f s hf hc hl
  obtain ⟨checks, effect, hrun, -⟩ := exec_runOp hf s
  rw [hrun (.inl (ReqForm.judged_eq_false_of_length hl)), runOp_bad_length hc hl, State.taken_of_form _ hf, done_eq]

/-- Settles O8: `runOp` forwards a request for another node, and there is no way to this one. -/
theorem requestForAnUnknownNodeIsUnreachable : Obligations.RequestForAnUnknownNodeIsUnreachable := by
  unfold Obligations.RequestForAnUnknownNodeIsUnreachable
  intro i f s hf hc hl hi hn
  obtain ⟨checks, effect, hrun, -⟩ := exec_runOp hf s
  rw [hrun (.inl (ReqForm.judged_eq_false_of_elsewhere hi)), runOp_elsewhere hc hl hi, State.taken_of_form _ hf]
  exact congrArg done (State.forward_unreachable (s := (s.begin f.t).noteCmd f.opc f.h (requestPayload i)) hn)

/-- Settles O9: one of the checks of every other request fails, and a failed check is the answer. -/
theorem scrapRefusesRequests : Obligations.ScrapRefusesRequests := by
  unfold Obligations.ScrapRefusesRequests
  intro i f s hf hread htime hbist hlc hs
  obtain ⟨checks, effect, hrun, hscrap⟩ := exec_runOp hf s
  obtain ⟨st, d, hok, hpend, hfail⟩ := hscrap hread htime hbist ((s.begin f.t).noteCmd f.opc f.h (requestPayload i)) hlc
  refine ⟨st, d, hok, hpend, ?_⟩
  rw [hrun (.inr hlc), runOp_refused hs hfail hpend, State.taken_of_form _ hf, done_eq]

end

end Sys2Proof.Machine
end

section
/-! SUPPORT. Requests as bytes: the fields of a payload and of a header are read back from the bytes that spell them (R3, R426,
R435, R438). -/

namespace Sys2Proof.Machine

/-! ### Fields in a row -/

theorem getU_toLE_skip {a o n : Nat} {x : Int} {r : List Byte} (h : a ≤ o) : getU (toLE a x ++ r) o n = getU r (o - a) n := by
  rw [getU_skip (by rwa [toLE_length]), toLE_length]

theorem getS_toLE_skip {a o n : Nat} {x : Int} {r : List Byte} (h : a ≤ o) : getS (toLE a x ++ r) o n = getS r (o - a) n := by
  rw [getS_skip (by rwa [toLE_length]), toLE_length]

/-- A field that is the whole of the bytes. -/
theorem getU_toLE {n v : Nat} (h : v < 2 ^ (8 * n)) : getU (toLE n (v : Int)) 0 n = v := by
  simpa using getU_head h []

theorem getS_toLE {n : Nat} {v : Int} (hn : 0 < n) (h1 : -(2 ^ (8 * n - 1)) ≤ v) (h2 : v < 2 ^ (8 * n - 1)) :
    getS (toLE n v) 0 n = v := by
  simpa using getS_head hn h1 h2 []

/-- What stands behind a field. -/
theorem drop_toLE_append {a o : Nat} {x : Int} {r : List Byte} (h : a ≤ o) : (toLE a x ++ r).drop o = r.drop (o - a) := by
  rw [List.drop_append, List.drop_eq_nil_of_le (by rwa [toLE_length]), List.nil_append, toLE_length]

/-- Groups of `n` bytes in a row: how long they are together, and that they are cut apart again. -/
theorem length_flatten_groups {n : Nat} {l : List (List Byte)} (h : ∀ x ∈ l, x.length = n) : l.flatten.length = n * l.length := by
  rw [List.length_flatten, List.sum_eq_card_nsmul (l.map List.length) n (by simpa using h), List.length_map, smul_eq_mul, Nat.mul_comm]

theorem map_chunks_groups {α : Type} {n : Nat} {l : List α} {enc : α → List Byte} {dec : List Byte → α}
    (hlen : ∀ x ∈ l, (enc x).length = n) (hdec : ∀ x ∈ l, dec (enc x) = x) :
    (chunks n l.length (l.map enc).flatten).map dec = l := by
  have hcut := chunks_flatten (l.map enc) (List.forall_mem_map.mpr hlen)
  rw [List.length_map] at hcut
  rw [hcut, List.map_map]
  exact (List.map_congr_left hdec).trans (List.map_id l)

theorem length_flatten_toLE8 (l : List Int) : (l.map (toLE 8)).flatten.length = 8 * l.length := by
  rw [length_flatten_groups (n := 8) (by simp), List.length_map]

/-- Signed values of 8 bytes in a row are read back. -/
theorem chunks_toLE8 {l : List Int} (h : l.all (fitsS 64) = true) :
    (chunks 8 l.length (l.map (toLE 8)).flatten).map ofLES = l := by
  refine map_chunks_groups (fun x _ => toLE_length 8 x) fun v hv => ?_
  have hfit := List.all_eq_true.mp h v hv
  simp only [fitsS, decide_eq_true_eq] at hfit
  exact ofLES_toLE (by decide) hfit.1 hfit.2

/-! ### Operands -/

theorem parseJog_jogBytes {j : JogReq} (h : j.wf = true) : parseJog (jogBytes j) = j := by
  simp only [JogReq.wf, fits, fitsS, Bool.and_eq_true, decide_eq_true_eq, Nat.reducePow, Nat.reduceSub, Int.reducePow, Int.reduceNeg] at h
  simp [parseJog, jogBytes, getU_toLE_skip, getS_toLE_skip, getU_head, getS_toLE, h]

theorem parseLatch_latchBytes {l : LatchReq} (h : l.wf = true) : parseLatch (latchBytes l) = l := by
  simp only [LatchReq.wf, fits, fitsS, Bool.and_eq_true, decide_eq_true_eq, Nat.reducePow, Nat.reduceSub, Int.reducePow, Int.reduceNeg] at h
  simp [parseLatch, latchBytes, getU_toLE_skip, getS_toLE_skip, getU_head, getS_head, getS_toLE, h]

theorem parseGear_gearBytes {g : GearReq} (h : g.wf = true) : parseGear (gearBytes g) = g := by
  simp only [GearReq.wf, fits, fitsS, Bool.and_eq_true, decide_eq_true_eq, Nat.reducePow, Nat.reduceSub, Int.reducePow, Int.reduceNeg] at h
  simp [parseGear, gearBytes, getU_toLE_skip, getS_toLE_skip, getU_head, getS_head, getS_toLE, h]

theorem parseTq_tqBytes {p : TqReq} (h : p.wf = true) : parseTq (tqBytes p) = p := by
  simp only [TqReq.wf, fits, fitsS, Bool.and_eq_true, decide_eq_true_eq, Nat.reducePow, Nat.reduceSub, Int.reducePow, Int.reduceNeg] at h
  simp [parseTq, tqBytes, getU_toLE_skip, getS_toLE_skip, getU_head, getS_head, getU_toLE, h]

theorem parseCam_camBytes {c : CamReq} (h : c.wf = true) : parseCam (camBytes c) = c := by
  have hlen : (camBytes c).length = 20 + 8 * c.ys.length := by
    simp only [camBytes, List.length_append, toLE_length, length_flatten_toLE8]
  have hys : (camBytes c).drop 20 = (c.ys.map (toLE 8)).flatten := by
    simp [camBytes, drop_toLE_append]
  have hn : ((camBytes c).length - 20) / 8 = c.ys.length := by omega
  simp only [CamReq.wf, Bool.and_eq_true] at h
  obtain ⟨h, hpts⟩ := h
  simp only [fits, fitsS, decide_eq_true_eq, Nat.reducePow, Nat.reduceSub, Int.reducePow, Int.reduceNeg] at h
  rw [parseCam, hn, hys, chunks_toLE8 hpts]
  simp [camBytes, getU_toLE_skip, getS_toLE_skip, getU_head, getS_head, h]

theorem parsePairs_flatten {l : List (Nat × Nat)} (h : l.all (fun p => fits 32 p.1 && fits 64 p.2) = true) :
    parsePairs (l.map (fun p => toLE 4 (p.1 : Int) ++ toLE 8 (p.2 : Int))).flatten = l := by
  have hlen : ∀ p ∈ l, (toLE 4 (p.1 : Int) ++ toLE 8 (p.2 : Int)).length = 12 := by simp
  have hn : (l.map (fun p => toLE 4 (p.1 : Int) ++ toLE 8 (p.2 : Int))).flatten.length / 12 = l.length := by
    rw [length_flatten_groups (n := 12) (List.forall_mem_map.mpr hlen), List.length_map, Nat.mul_div_cancel_left _ (by decide)]
  rw [parsePairs, hn]
  refine map_chunks_groups hlen fun p hp => ?_
  have hfit := List.all_eq_true.mp h p hp
  simp only [fits, Bool.and_eq_true, decide_eq_true_eq, Nat.reducePow] at hfit
  simp [getU_toLE_skip, getU_head, getU_toLE, hfit]

/-- The flags of a header or of a move: three bits and what stands above them. -/
theorem flags_bits (a b c : Bool) (r : Nat) :
    bitOf (b2n a + 2 * b2n b + 4 * b2n c + 8 * r) 0 = a ∧ bitOf (b2n a + 2 * b2n b + 4 * b2n c + 8 * r) 1 = b ∧
    bitOf (b2n a + 2 * b2n b + 4 * b2n c + 8 * r) 2 = c ∧ (b2n a + 2 * b2n b + 4 * b2n c + 8 * r) / 8 = r := by
  have hb : ∀ x : Bool, b2n x = x.toNat := by decide
  simp only [hb, bitOf, Nat.testBit_eq_decide_div_mod_eq]
  cases a <;> cases b <;> cases c <;> simp <;> omega

theorem parseMove_moveBytes {m : MoveReq} (h : m.wf = true) : parseMove (moveBytes m) = m := by
  have hlen : (moveBytes m).length = 49 + 8 * m.points.length := by
    simp only [moveBytes, List.length_append, toLE_length, length_flatten_toLE8]
  have hpoints : (moveBytes m).drop 49 = (m.points.map (toLE 8)).flatten := by
    simp [moveBytes, drop_toLE_append]
  have hn : ((moveBytes m).length - 49) / 8 = m.points.length := by omega
  simp only [MoveReq.wf, Bool.and_eq_true] at h
  obtain ⟨h, hpts⟩ := h
  simp only [fits, fitsS, decide_eq_true_eq, Nat.reducePow, Nat.reduceSub, Int.reducePow, Int.reduceNeg] at h
  obtain ⟨h0, h1, h2, h3⟩ := flags_bits m.replace m.startAt m.endRun m.reservedFlags
  have hflags : b2n m.replace + 2 * b2n m.startAt + 4 * b2n m.endRun + 8 * m.reservedFlags < 256 := by
    omega
  have hf : getU (moveBytes m) 3 1 = b2n m.replace + 2 * b2n m.startAt + 4 * b2n m.endRun + 8 * m.reservedFlags := by
    rw [moveBytes]
    simp only [List.append_assoc]
    rw [getU_toLE_skip (by decide), getU_toLE_skip (by decide), getU_toLE_skip (by decide)]
    exact getU_head hflags _
  rw [parseMove, hn, hpoints, chunks_toLE8 hpts, hf]
  simp only [h0, h1, h2, h3]
  simp [moveBytes, getU_toLE_skip, getS_toLE_skip, getU_head, getS_head, h]

/-! ### The entry -/

theorem padTo_length (n : Nat) (l : List Byte) : (padTo n l).length = n := by
  rw [padTo, List.length_append, List.length_replicate]
  have := List.length_take_le n l
  omega

theorem padTo_of_le {n : Nat} {l : List Byte} (h : l.length ≤ n) : padTo n l = l ++ List.replicate (n - l.length) 0 := by
  rw [padTo, List.take_of_length_le h]

theorem entryBytes_length (opc tag length flags source : Nat) (p : List Byte) :
    (entryBytes opc tag length flags source p).length = 64 := by
  simp only [entryBytes, List.length_append, toLE_length, padTo_length]

/-- The payload stands behind the eight bytes of the header. -/
theorem drop_entryBytes (opc tag length flags source : Nat) (p : List Byte) :
    (entryBytes opc tag length flags source p).drop 8 = padTo 56 p := by
  simp [entryBytes, drop_toLE_append]

theorem hdrFlags_bits (h : Hdr) : bitOf (hdrFlags h) 0 = h.bulk ∧ bitOf (hdrFlags h) 1 = h.persist ∧ bitOf (hdrFlags h) 2 = h.more ∧
    hdrFlags h < 256 := by
  obtain ⟨h0, h1, h2, h3⟩ := flags_bits h.bulk h.persist h.more 0
  exact ⟨h0, h1, h2, by unfold hdrFlags; omega⟩

theorem getU_requestEntry_opcode {opc : Nat} (h : Hdr) (p : List Byte) (hopc : opc < 2 ^ 16) :
    getU (requestEntry opc h p) 0 2 = opc := by
  simp only [requestEntry, entryBytes, List.append_assoc]
  exact getU_head hopc _

/-- A region's offset stands in the place of the payload (R426). -/
theorem getU_requestEntry_bulkOfs (opc : Nat) {h : Hdr} (p : List Byte) (hbulk : h.bulk = true) (hofs : h.bulkOfs < 65536) :
    getU (requestEntry opc h p) 8 2 = h.bulkOfs := by
  rw [requestEntry, if_pos hbulk, entryBytes, padTo_of_le (by simp)]
  simp [getU_toLE_skip, getU_head, hofs]

/-- The header that an entry spells is the one it was made of. -/
theorem entryHdr_requestEntry {opc : Nat} {h : Hdr} (p : List Byte) (hw : h.wf = true) (hvia : h.via = none) :
    entryHdr h.ring none (requestEntry opc h p) = h := by
  obtain ⟨hb, hp, hm, hflags⟩ := hdrFlags_bits h
  simp only [Hdr.wf, hvia, fits, Bool.and_eq_true, Bool.or_eq_true, decide_eq_true_eq, Nat.reducePow] at hw
  obtain ⟨⟨⟨⟨⟨htag, hlen⟩, htgt⟩, hofs⟩, hzero⟩, -⟩ := hw
  have hfields : getU (requestEntry opc h p) 2 2 = h.tag ∧ getU (requestEntry opc h p) 4 2 = h.length ∧
      getU (requestEntry opc h p) 6 1 = hdrFlags h ∧ getU (requestEntry opc h p) 7 1 = h.target := by
    simp [requestEntry, entryBytes, getU_toLE_skip, getU_head, htag, hlen, htgt, hflags]
  obtain ⟨f2, f4, f6, f7⟩ := hfields
  have hregion : (if h.bulk = true then getU (requestEntry opc h p) 8 2 else 0) = h.bulkOfs := by
    split
    · exact getU_requestEntry_bulkOfs opc p ‹_› hofs
    · exact (hzero.resolve_left ‹_›).symm
  rw [entryHdr, f2, f4, f6, f7, hb, hp, hm, hregion, ← hvia]

/-- The inline payload of an entry is what it was made of. -/
theorem payload_requestEntry {opc : Nat} {h : Hdr} {p : List Byte} (hbulk : h.bulk = false) (hlen : p.length = h.length)
    (hmax : h.length ≤ 56) : ((requestEntry opc h p).drop 8).take h.length = p := by
  rw [requestEntry, if_neg (by simp [hbulk]), drop_entryBytes, padTo_of_le (by omega), ← hlen, List.take_left]

/-! ### The command -/

/-- The payload of PARAM_STAGE gives back the offset that a segment carries and the value (R435). -/
theorem stageOfs_payload {id count ofs : Nat} {v : List Byte} (hid : id < 4294967296) (hofs : ofs < 4294967296)
    (hz : id / 256 = pCycCbImage ∨ ofs = 0) : stageOfs (toLE 4 (id : Int) ++ (toLE 1 (count : Int) ++ (toLE 3 0 ++
      ((if id / 256 = pCycCbImage then toLE 4 (ofs : Int) else []) ++ v)))) = (ofs, v) := by
  unfold stageOfs
  rw [getU_head (by simpa using hid)]
  split
  case isTrue himg => simp [getU_toLE_skip, getU_head, drop_toLE_append, hofs]
  case isFalse himg => simp [drop_toLE_append, hz.resolve_left himg]

/-- The payload that spells a well-formed request runs exactly that request. -/
theorem runRequest_requestPayload {i : Instr} {f : ReqForm} (s : State) (hf : requestForm i = some f) (hw : i.wf = true) :
    runRequest f.opc f.t f.h (requestPayload i) s = exec i s := by
  unfold requestForm at hf
  split at hf
  case h_43 => cases hf
  all_goals
    obtain rfl := Option.some.inj hf
    simp only [Instr.wf, fits, Bool.and_eq_true, decide_eq_true_eq, Nat.reducePow] at hw
    unfold requestPayload runRequest exec
    dsimp only
  case h_3 t h id count ofs v =>
    simp only [Bool.or_eq_true, decide_eq_true_eq] at hw
    obtain ⟨⟨⟨⟨-, hid⟩, hcount⟩, hofs⟩, hz⟩ := hw
    simp [stageOfs_payload hid hofs hz, getU_toLE_skip, getU_head, hid, hcount]
  case h_10 => simp [parseMove_moveBytes hw.2]
  case h_14 => simp [parseJog_jogBytes hw.2]
  case h_16 => simp [parseLatch_latchBytes hw.2]
  case h_19 => simp [parseGear_gearBytes hw.2]
  case h_20 => simp [parseCam_camBytes hw.2]
  case h_24 => simp only [Nat.reduceEqDiff, if_false, if_true]; rw [parsePairs_flatten (by simpa [fits] using hw.2)]
  case h_30 => simp [parseTq_tqBytes hw.2]
  all_goals simp [getU_toLE_skip, getU_head, getU_toLE, drop_toLE_append, hw]

/-- Settles O10: every opcode's payload gives back its operands, and the entry its header, opcode and inline payload. -/
theorem requestsSpellTheirCommands : Obligations.RequestsSpellTheirCommands := by
  unfold Obligations.RequestsSpellTheirCommands
  refine ⟨fun i f s => runRequest_requestPayload s, fun h opc p hw hvia hopc => ⟨?_, ?_, ?_, ?_⟩⟩
  · exact entryBytes_length ..
  · exact getU_requestEntry_opcode h p hopc
  · exact entryHdr_requestEntry p hw hvia
  · exact payload_requestEntry

end Sys2Proof.Machine
end

section
/-! SUPPORT. Posted entries: the bytes of an event and of a response in their rings, and the memory around them (R427, R430). -/

namespace Sys2Proof.Machine

variable {s : State}

/-! ### The memory of an entry -/

/-- An entry of 64 bytes that has been written is read, and no other byte has changed. -/
theorem State.MemOk.writeMem_entry (hm : s.MemOk) (a : Nat) {e : List Byte} (he : e.length = 64) :
    memReadN (s.writeMem a e).host.mem a 64 = e ∧
      ∀ c, (c < a ∨ a + 64 ≤ c) → memRead (s.writeMem a e).host.mem c = memRead s.host.mem c := by
  refine ⟨?_, fun c hc => ?_⟩
  · rw [← he]
    exact memReadN_writeN hm a e
  · exact (memRead_writeN hm a c e).trans (dif_neg (by omega))

theorem State.MemOk.writeMem (hm : s.MemOk) (a : Nat) (l : List Byte) : (s.writeMem a l).MemOk := memWf_writeN hm a l

/-! ### Events -/

/-- With the ring full an event is dropped and counted. -/
theorem State.postEvent_full {code tag unit : Nat} {data : List Byte} (h : 64 ≤ (s.host.evtProd - s.host.evtCons).toNat) :
    s.postEvent code tag unit data = { s with
      host := { s.host with evtLost := incSat 16 s.host.evtLost, evtDropped := s.host.evtDropped + 1 } } := if_pos h

/-- The bytes of an event after its header: its time, its unit and its data. -/
def eventPayload (s : State) (unit : Nat) (data : List Byte) : List Byte := toLE 8 s.ft ++ toLE 2 unit ++ [0, 0] ++ data

theorem eventPayload_length (unit : Nat) (data : List Byte) : (eventPayload s unit data).length = 12 + data.length := by
  simp [eventPayload]; omega

/-- The host part after an event has found room: the entry at EVT_PROD. -/
theorem State.postEvent_host {code tag unit : Nat} {data : List Byte} (h : (s.host.evtProd - s.host.evtCons).toNat < 64) :
    (s.postEvent code tag unit data).host = { s.host with
      mem := (s.writeMem (0x9000 + 64 * (s.host.evtProd.toNat % 64))
        (entryBytes code tag (eventPayload s unit data).length 0 s.fab.addr (eventPayload s unit data))).host.mem
      evtProd := s.host.evtProd + 1 } :=
  congrArg State.host (if_neg h.not_ge)

theorem entryBytes_event (code tag unit addr : Nat) {data : List Byte} (hd : data.length ≤ 44) :
    entryBytes code tag (eventPayload s unit data).length 0 addr (eventPayload s unit data) =
      toLE 2 code ++ toLE 2 tag ++ toLE 2 (12 + data.length : Nat) ++ [0] ++ toLE 1 addr ++ toLE 8 s.ft ++ toLE 2 unit ++ [0, 0] ++
        data ++ List.replicate (44 - data.length) 0 := by
  have hpad : 56 - (12 + data.length) = 44 - data.length := by omega
  rw [entryBytes, padTo_of_le (by rw [eventPayload_length]; omega), eventPayload_length, hpad]
  simp only [eventPayload, List.append_assoc]
  rfl

/-! ### Responses -/

theorem ringOf_val (i : Fin 4) : ringOf i.val = i := Fin.ext (Nat.mod_eq_of_lt i.isLt)

/-- The bytes of a response without bulk results after its header (R427). -/
def rspPayload (st d : Nat) (body : List Byte) : List Byte := toLE 1 st ++ [0] ++ toLE 2 d ++ body

theorem rspPayload_length (st d : Nat) (body : List Byte) : (rspPayload st d body).length = 4 + body.length := by
  simp [rspPayload]; omega

/-- The 64 bytes of a response without bulk results. -/
def rspEntry (q : ReqRef) (addr st d : Nat) (body : List Byte) : List Byte :=
  entryBytes q.op q.tag (rspPayload st d body).length (if st = stPending then 0 else 0x10) addr (rspPayload st d body)

theorem rspEntry_eq (q : ReqRef) (addr st d : Nat) {body : List Byte} (hb : body.length ≤ 52) :
    rspEntry q addr st d body = toLE 2 q.op ++ toLE 2 q.tag ++ toLE 2 (4 + body.length : Nat) ++
      toLE 1 (if st = stPending then 0 else 0x10 : Nat) ++ toLE 1 addr ++ toLE 1 st ++ [0] ++ toLE 2 d ++ body ++
        List.replicate (52 - body.length) 0 := by
  have hpad : 56 - (4 + body.length) = 52 - body.length := by omega
  rw [rspEntry, entryBytes, padTo_of_le (by rw [rspPayload_length]; omega), rspPayload_length, hpad]
  simp only [rspPayload, List.append_assoc]

/-- A response without bulk results to a request of this node's rings is posted in the ring of the request. -/
theorem State.respond_inline {q : ReqRef} (ofs st d : Nat) (body : List Byte) (hv : q.via = none) :
    s.respond q ofs { status := st, detail := d, body := body } = s.postRsp q.ring (rspEntry q s.fab.addr st d body) := by
  unfold State.respond
  rw [hv]
  rfl

theorem State.postRsp_wait {i : Fin 4} {e : List Byte} (h : (s.host.rings.get i).rspRoom = 0) :
    s.postRsp i.val e = { s with host := { s.host with rspWait := s.host.rspWait ++ [(i.val, e)] } } := by
  unfold State.postRsp
  rw [ringOf_val]
  exact if_pos h

theorem State.postRsp_room {i : Fin 4} {e : List Byte} (h : (s.host.rings.get i).rspRoom ≠ 0) :
    s.postRsp i.val e = (s.writeMem (0x5000 + 0x1000 * i.val + 64 * ((s.host.rings.get i).rspProd.toNat % 64)) e).modRing i
      (fun r => { r with rspProd := r.rspProd + 1 }) := by
  unfold State.postRsp
  rw [ringOf_val]
  exact if_neg h

/-- Settles O11: an entry is one write of 64 bytes at the producer index of its ring. -/
theorem entriesAreReadInTheirRings : Obligations.EntriesAreReadInTheirRings := by
  unfold Obligations.EntriesAreReadInTheirRings
  refine ⟨?_, ?_⟩
  · intro s code tag unit data hm hd
    dsimp only
    refine ⟨fun hroom => ?_, State.postEvent_full⟩
    obtain ⟨hread, hother⟩ := hm.writeMem_entry (0x9000 + 64 * (s.host.evtProd.toNat % 64)) (entryBytes_length code tag
      (eventPayload s unit data).length 0 s.fab.addr (eventPayload s unit data))
    have hevent := entryBytes_event (s := s) code tag unit s.fab.addr hd
    rw [State.MemOk, State.postEvent_host hroom]
    dsimp only
    exact ⟨rfl, memWf_writeN hm _ _, hread.trans hevent, hother⟩
  · intro s q i ofs st d body hm hb hv hi s1 r a
    have hs1 : s1 = s.postRsp i.val (rspEntry q s.fab.addr st d body) := hi ▸ State.respond_inline ofs st d body hv
    obtain ⟨hread, hother⟩ := hm.writeMem_entry a (e := rspEntry q s.fab.addr st d body) (entryBytes_length ..)
    refine ⟨fun hroom => ?_, fun hfull => ?_⟩
    · rw [State.postRsp_room hroom] at hs1
      rw [hs1]
      refine ⟨?_, hm.writeMem .., hread.trans (rspEntry_eq q s.fab.addr st d hb), hother⟩
      rw [State.modRing_same]
      rfl
    · rw [State.postRsp_wait hfull] at hs1
      rw [hs1]
      exact ⟨rfl, rfl⟩

end Sys2Proof.Machine
end

section
/-! SUPPORT. No step of a disable enables an axis: what AXIS_DISABLE and a reaction at level 5 do to the axes (R183, R237, R466). -/

namespace Sys2Proof.Machine

/-- Every axis that is enabled after was enabled before. -/
structure EnabledLe (s s' : State) : Prop where
  before : ∀ a, (s'.ax a).enabled = true → (s.ax a).enabled = true

namespace EnabledLe

variable {s s' s'' : State}

theorem refl (s : State) : EnabledLe s s := ⟨fun _ h => h⟩

theorem trans (h : EnabledLe s s') (h' : EnabledLe s' s'') : EnabledLe s s'' := ⟨fun a ha => h.before a (h'.before a ha)⟩

theorem of_axes_eq (h : s'.axes = s.axes) : EnabledLe s s' := ⟨fun a ha => by rwa [State.ax, h] at ha⟩

/-- An axis that is disabled stays so. -/
theorem disabled (h : EnabledLe s s') {a : AxisId} (ha : (s.ax a).enabled = false) : (s'.ax a).enabled = false :=
  Bool.eq_false_iff.mpr fun h' => Bool.eq_false_iff.mp ha (h.before a h')

theorem modAxis (s : State) (a : AxisId) {f : Axis → Axis} (hf : ∀ x, (f x).enabled = true → x.enabled = true) :
    EnabledLe s (s.modAxis a f) := by
  refine ⟨fun b hb => ?_⟩
  by_cases hab : a = b
  · subst hab
    rw [State.modAxis_same] at hb
    exact hf _ hb
  · rwa [State.modAxis_other _ hab] at hb

theorem foldl {β : Type} {f : State → β → State} (hf : ∀ s x, EnabledLe s (f s x)) (l : List β) (s : State) :
    EnabledLe s (l.foldl f s) := by
  induction l generalizing s with
  | nil => exact refl s
  | cons x r ih => exact (hf s x).trans (ih (f s x))

theorem forAxes {f : AxisId → State → State} (hf : ∀ a s, EnabledLe s (f a s)) (l : List AxisId) (s : State) :
    EnabledLe s (forAxes l f s) := foldl (fun s a => hf a s) l s

/-! ### Operations that discard, stop and end -/

theorem postDrops (unit reason : Nat) (q : List Nat) (s : State) : EnabledLe s (postDrops unit reason q s) :=
  foldl (fun s _ => of_axes_eq (s.postEvent_axes ..)) q s

theorem finish? (s : State) (q : Option ReqRef) (r : Rsp) : EnabledLe s (s.finish? q r) := by
  cases q with
  | none => exact refl s
  | some q => exact of_axes_eq (s.finish_axes q r)

theorem dropAxisQueue (a : AxisId) (reason : Nat) (s : State) : EnabledLe s (dropAxisQueue a reason s) := by
  unfold Machine.dropAxisQueue
  exact (postDrops ..).trans (modAxis _ a fun _ h => h)

theorem homeAbort (a : AxisId) (s : State) : EnabledLe s (homeAbort a s) := by
  unfold Machine.homeAbort
  extract_lets
  split
  · exact refl s
  · exact (finish? ..).trans (modAxis _ a fun _ h => h)

theorem gearOff (a : AxisId) (s : State) : EnabledLe s (gearOff a s) := by
  unfold Machine.gearOff
  dsimp only
  split
  · exact (finish? ..).trans (modAxis _ a fun _ h => h)
  · exact modAxis s a fun _ h => h

theorem cancelSwitch (a : AxisId) (st : Nat) (s : State) : EnabledLe s (cancelSwitch a st s) := by
  unfold Machine.cancelSwitch
  split
  · exact refl s
  · exact (finish? ..).trans (modAxis _ a fun _ h => h)

theorem cancelEnable (a : AxisId) (st : Nat) (s : State) : EnabledLe s (cancelEnable a st s) := by
  unfold Machine.cancelEnable
  extract_lets hit src s1 off
  refine (of_axes_eq (s := s) (s' := s1) rfl).trans (foldl (fun s p => ?_) hit s1)
  have hoff : EnabledLe s (off s p) := forAxes (fun b s => modAxis s b fun _ h => absurd h Bool.false_ne_true) (maskAxes p.mask) s
  exact hoff.trans (of_axes_eq (State.finish_axes ..))

theorem axisOff (a : AxisId) (reason : Nat) (s : State) : EnabledLe s (axisOff a reason s) := by
  unfold Machine.axisOff
  extract_lets s1 s2
  have h1 : EnabledLe s s1 := (dropAxisQueue a reason s).trans <| (homeAbort a _).trans <| (gearOff a _).trans <|
    (cancelSwitch a stState _).trans (cancelEnable a stState _)
  exact (h1.trans (postDrops ..)).trans (modAxis s2 a fun _ h => absurd h Bool.false_ne_true)

theorem modProf (s : State) (a : AxisId) (f : Prof → Prof) : EnabledLe s (s.modProf a f) := modAxis s a fun _ h => h

theorem stopGroup (g : Fin 8) (kind reason : Nat) (slot : Option Nat) (s : State) : EnabledLe s (stopGroup g kind reason slot s) := by
  unfold Machine.stopGroup
  extract_lets s1
  have h1 : EnabledLe s s1 := (postDrops ..).trans (of_axes_eq rfl)
  exact h1.trans (foldl (fun s a => modProf s a _) (s1.members g) s1)

/-! ### AXIS_DISABLE -/

theorem holdSwitch (a : AxisId) (s : State) : EnabledLe s (holdSwitch a s) := by
  unfold Machine.holdSwitch
  split
  · exact modAxis s a fun _ h => h
  · exact refl s

theorem disableAxis (a : AxisId) (s : State) : EnabledLe s (disableAxis a s) := by
  unfold Machine.disableAxis
  extract_lets kept s1 s2
  have h1 : EnabledLe s s1 := by
    dsimp only [s1]
    split
    · split
      · exact stopGroup ..
      · exact refl s
    · exact refl s
  have h2 : EnabledLe s s2 := h1.trans ((holdSwitch a s1).trans (axisOff a 3 _))
  clear_value kept s2
  split
  · exact h2.trans (modAxis s2 a fun _ h => h)
  · exact h2

theorem setHalves (a : AxisId) (v w : Int) (s : State) : EnabledLe s (s.setHalves a v w) := of_axes_eq rfl

theorem setMode (a : AxisId) (m : Nat) (s : State) : EnabledLe s (setMode a m s) := by
  unfold Machine.setMode
  extract_lets old s1 s2
  have h1 : EnabledLe s s1 := by
    dsimp only [s1]
    split
    · exact (setHalves a 0 0 s).trans (modAxis _ a fun _ h => h)
    · exact refl s
  have h2 : EnabledLe s s2 := h1.trans (modAxis s1 a fun _ h => h)
  split
  · unfold enterTest
    exact h2.trans ((setHalves a _ 0 s2).trans (modAxis _ a fun _ h => h))
  · exact h2

theorem switchDisabled (a : AxisId) (s : State) : EnabledLe s (switchDisabled a s) := by
  unfold Machine.switchDisabled
  split
  · exact refl s
  · split
    · exact refl s
    · exact (finish? ..).trans ((gearOff a _).trans ((setMode a _ _).trans (modAxis _ a fun _ h => h)))

end EnabledLe

theorem axisOff_disabled (a : AxisId) (reason : Nat) (s : State) : ((axisOff a reason s).ax a).enabled = false := by
  unfold axisOff
  rw [State.modAxis_same]

theorem disableAxis_disabled (a : AxisId) (s : State) : ((disableAxis a s).ax a).enabled = false := by
  unfold disableAxis
  extract_lets kept s1 s2
  have h2 : (s2.ax a).enabled = false := axisOff_disabled a 3 _
  clear_value kept s2
  split
  · rw [State.modAxis_same]
    exact h2
  · exact h2

/-- What disables each axis it is applied to, and enables none, leaves every axis of a list disabled. -/
theorem forAxes_disabled {f : AxisId → State → State} (hle : ∀ a s, EnabledLe s (f a s))
    (hoff : ∀ a s, ((f a s).ax a).enabled = false) {l : List AxisId} {a : AxisId} (ha : a ∈ l) (s : State) :
    ((forAxes l f s).ax a).enabled = false := by
  induction l generalizing s with
  | nil => cases ha
  | cons b r ih =>
    rcases List.mem_cons.mp ha with rfl | har
    · exact (EnabledLe.forAxes hle r (f a s)).disabled (hoff a s)
    · exact ih har (f b s)

end Sys2Proof.Machine

open Sys2Proof.Machine

/-- Settles O17: `disableAxis` disables its axis and no part of the disable, nor the switch of a waiting mode, enables one. -/
theorem disabledAxesAreDisabled : Obligations.DisabledAxesAreDisabled := by
  intro s mask a ha
  have hoff := forAxes_disabled EnabledLe.disableAxis disableAxis_disabled ha s
  exact ⟨hoff, (EnabledLe.forAxes EnabledLe.switchDisabled (maskAxes mask) _).disabled hoff⟩

end

section
/-! SUPPORT. What an occurrence that opens a record leaves, and a reaction at level 5 (R466, R469, R471-R474). -/

namespace Sys2Proof.Machine

theorem State.openSafe_opens (s : State) : s.openSafe.safe.soa = false ∧ s.openSafe.safe.sob = false ∧ s.openSafe.safe.level5 = true :=
  ⟨rfl, rfl, rfl⟩

theorem State.openSafe_axes (s : State) : s.openSafe.axes = s.axes := rfl

theorem react_five (unit : Nat) (slot : Option Nat) (s : State) :
    ∃ s', react 5 unit slot s = (forAxes allAxes (fun a s => (axisOff a 4 s).modProf a (fun p => p.addRec slot)) s').openSafe :=
  ⟨_, rfl⟩

/-- At the levels 0 and 1 a reaction stops nothing. -/
theorem react_low {level : Nat} (hl : level ≤ 1) (unit : Nat) (slot : Option Nat) (s : State) : react level unit slot s = s := by
  unfold react
  simp [hl, show ¬ 3 ≤ level by omega, show ¬ 4 ≤ level by omega]

/-- A record that is not the empty one stands in its slot, and every other slot is as before. -/
theorem State.modRec_frec (s : State) {i : Nat} {f : FltRec → FltRec} (hne : f (s.frec i) ≠ {}) (j : Nat) :
    (s.modRec i f).frec j = if j = i then f (s.frec i) else s.frec j := by
  show alGet {} j (alSet {} i (f (s.frec i)) s.flt.recs) = _
  rw [alSet, if_neg hne, alGet_put]
  rfl

theorem State.frec_of_flt {s s' : State} (h : s'.flt = s.flt) : s'.frec = s.frec := by
  funext i
  rw [State.frec, h, State.frec]

/-- Without an open record of the occurrence's code and unit there is none of any further kind. -/
theorem State.findRec_none {s : State} {o : Occ} (h : s.findRec o (fun _ => true) = none) (p : FltRec → Bool) :
    s.findRec o p = none := by
  rw [State.findRec, List.find?_eq_none] at h ⊢
  intro i hi
  have hne := h i hi
  simp only [Bool.and_true] at hne
  simp [hne]

theorem freezeFor_flt (r : FltRec) (before : Nat) (fresh : Bool) (s : State) : (freezeFor r before fresh s).flt = s.flt := by
  unfold freezeFor
  (repeat' split) <;> rfl

theorem postFaultNew_flt (i : Nat) (s : State) : (postFaultNew i s).flt = s.flt := State.postEvent_flt ..

/-- A record at level 0 or 1 is reported and masks nothing; of kind E it is latched at once. -/
theorem afterOccurrence_low {i : Nat} {s : State} (before : Nat) (hl : (s.frec i).level ≤ 1) :
    afterOccurrence i before true s =
      let s1 := postFaultNew i (freezeFor (s.frec i) before true s)
      if (s.frec i).state = 1 ∧ clearsOf (s.frec i).code = .event then latchRec i (s.frec i).last s1 else s1 := by
  have hrec : (postFaultNew i (freezeFor (s.frec i) before true s)).frec i = s.frec i := by
    rw [State.frec_of_flt ((postFaultNew_flt ..).trans (freezeFor_flt ..))]
  unfold afterOccurrence
  simp only [true_or, if_true, react_low hl, noteMasks, hrec, show ¬ 3 ≤ (s.frec i).level by omega, false_and, if_false]

theorem latchRec_frec (i : Nat) (t : Int) (s : State) (j : Nat) :
    (latchRec i t s).frec j = if j = i then { s.frec i with state := 2, cleared := t } else s.frec j := by
  unfold latchRec
  dsimp only
  rw [State.frec_of_flt (State.postEvent_flt ..), State.modRec_frec]
  exact fun h => absurd (congrArg FltRec.state h) (by decide : (2 : Nat) ≠ 0)

theorem latchRec_newest (i : Nat) (t : Int) (s : State) :
    (latchRec i t s).flt.newest = s.flt.newest ∧ (latchRec i t s).flt.opened = s.flt.opened := by
  unfold latchRec
  rw [State.postEvent_flt]
  exact ⟨rfl, rfl⟩

theorem occur_first {s : State} {o : Occ} (hf : s.findRec o (fun _ => true) = none) (hm : s.p1 pModRm8FaultMode 0 ≠ 1)
    (inj : InjWin) : occur o inj s = openRec o (max (o.level.getD (defaultLevel o.code o.unit)) (s.pn pFltClassBaseLevel (o.code / 256)))
      (o.stamp.getD s.recTime.1) s.recTime.2 inj s := by
  unfold occur
  simp only [State.findRec_none hf, hm, decide_false, Bool.false_eq_true, if_false]

/-- The record that a first occurrence opens, before it is latched. -/
def Occ.firstRec (o : Occ) (lvl : Nat) (t : Int) (timeLt : Bool) (s : State) : FltRec :=
  { code := o.code, unit := o.unit, cls := o.code / 256, level := lvl, dflt := lvl, state := 1, timeLt := timeLt,
    first := t, last := t, order := s.flt.opened, incident := o.incident }

/-- The state with a first occurrence's record in its slot, before anything follows from it. -/
def State.withFirstRec (s : State) (i : Nat) (r : FltRec) : State :=
  let s1 := s.modRec i (fun _ => r)
  { s1 with flt := { s1.flt with newest := i, opened := s1.flt.opened + 1 } }

theorem State.withFirstRec_frec (s : State) (i : Nat) {r : FltRec} (hr : r.state = 1) (j : Nat) :
    (s.withFirstRec i r).frec j = if j = i then r else s.frec j :=
  s.modRec_frec (f := fun _ => r) (fun h => absurd ((congrArg FltRec.state h).symm.trans hr) (by decide)) j

theorem openRec_free {s : State} {o : Occ} {i lvl : Nat} (hi : s.freeSlot = some i)
    (ho : s.otherOpen (o.code / 256) o.incident none = false) (t : Int) (timeLt : Bool) :
    openRec o lvl t timeLt none s = afterOccurrence i 0 true (s.withFirstRec i (o.firstRec lvl t timeLt s)) := by
  unfold openRec
  simp [hi, ho, escalated, State.withFirstRec, Occ.firstRec]

theorem afterOccurrence_firstRec {s : State} {o : Occ} {i lvl : Nat} {t : Int} {timeLt : Bool} (hl : lvl ≤ 1) :
    let r := o.firstRec lvl t timeLt s
    let e := decide (clearsOf o.code = .event)
    let s1 := afterOccurrence i 0 true (s.withFirstRec i r)
    s1.frec i = { r with state := if e then 2 else 1, cleared := if e then t else -(2 ^ 63) } ∧
    s1.flt.newest = i ∧ s1.flt.opened = s.flt.opened + 1 ∧ ∀ j, j ≠ i → s1.frec j = s.frec j := by
  intro r e s1
  have hrec := s.withFirstRec_frec i (r := r) rfl
  have hr : (s.withFirstRec i r).frec i = r := by rw [hrec, if_pos rfl]
  have hs1 := afterOccurrence_low (s := s.withFirstRec i r) (i := i) 0 (by rw [hr]; exact hl)
  rw [hr] at hs1
  have hq : (postFaultNew i (freezeFor r 0 true (s.withFirstRec i r))).flt = (s.withFirstRec i r).flt :=
    (postFaultNew_flt ..).trans (freezeFor_flt ..)
  by_cases he : clearsOf o.code = .event
  · have hs1' : s1 = latchRec i t (postFaultNew i (freezeFor r 0 true (s.withFirstRec i r))) := hs1.trans (if_pos ⟨rfl, he⟩)
    obtain ⟨hnew, hopen⟩ := latchRec_newest i t (postFaultNew i (freezeFor r 0 true (s.withFirstRec i r)))
    rw [hs1', hnew, hopen, hq]
    refine ⟨?_, rfl, rfl, fun j hj => ?_⟩
    · rw [latchRec_frec, if_pos rfl, State.frec_of_flt hq, hr]
      simp [e, he]
    · rw [latchRec_frec, if_neg hj, State.frec_of_flt hq, hrec, if_neg hj]
  · have hs1' : s1 = postFaultNew i (freezeFor r 0 true (s.withFirstRec i r)) := hs1.trans (if_neg fun h => he h.2)
    rw [hs1', State.frec_of_flt hq, hq]
    refine ⟨?_, rfl, rfl, fun j hj => ?_⟩
    · rw [hr]
      simp [e, he, r, Occ.firstRec]
    · rw [hrec, if_neg hj]

end Sys2Proof.Machine

open Sys2Proof.Machine

/-- Settles O22: a first occurrence at a low level only writes its record, reports it and latches one of kind E;
a reaction at level 5 switches every axis off and opens both safety outputs. -/
theorem firstOccurrenceOpensARecord : Obligations.FirstOccurrenceOpensARecord := by
  refine ⟨fun s o i lvl hf hm hi ho hlvl hl => ?_, fun s unit slot => ?_⟩
  · rw [occur_first hf hm, hlvl, openRec_free hi ho]
    exact afterOccurrence_firstRec hl
  · obtain ⟨s', hs'⟩ := react_five unit slot s
    rw [hs']
    refine ⟨fun a => (EnabledLe.of_axes_eq (State.openSafe_axes _)).disabled ?_, State.openSafe_opens _⟩
    exact forAxes_disabled (fun a s => (EnabledLe.axisOff a 4 s).trans (EnabledLe.modProf _ a _))
      (fun a s => (EnabledLe.modProf _ a _).disabled (axisOff_disabled a 4 s)) (List.mem_finRange a) s'

end

section
/-! SUPPORT. Write and read transactions in the bulk area of the window (R407, R411, R413, R414). -/

namespace Sys2Proof.Machine

/-- A byte of the bulk area is written to the memory, whatever port and rings. -/
theorem winWriteByte_bulk (p : HostPort) {a0 i : Nat} (bytes : List Byte) (e : State × Bool) (ha : 0xC000 ≤ a0) (hi : a0 + i < 0x10000) :
    winWriteByte p a0 bytes i e = (e.1.writeMem (a0 + i) [bytes.getD i 0], e.2) := by
  have hring : ringAt (a0 + i) = none := by
    unfold ringAt
    rw [if_neg (by omega), if_neg (by omega)]
  unfold winWriteByte
  simp only [Nat.mod_eq_of_lt hi, hring, Bool.false_eq_true, if_false]
  exact if_pos (Or.inr (by omega))

theorem State.writeMem_writeMem (s : State) (a : Nat) (l r : List Byte) :
    (s.writeMem a l).writeMem (a + l.length) r = s.writeMem a (l ++ r) := by
  simp only [State.writeMem, memWriteN_append]

theorem winWriteByte_range_bulk (p : HostPort) {a : Nat} (bytes : List Byte) (s : State) (ha : 0xC000 ≤ a) (n : Nat) (hn : n ≤ bytes.length)
    (he : a + n ≤ 0x10000) :
    (List.range n).foldl (fun e i => winWriteByte p a bytes i e) (s, false) = (s.writeMem a (bytes.take n), false) := by
  induction n with
  | zero => rfl
  | succ n ih =>
    have htake : bytes.take (n + 1) = bytes.take n ++ [bytes.getD n 0] := by
      rw [List.take_succ_eq_append_getElem (by omega), List.getD_eq_getElem _ _ (by omega)]
    have hlen : (bytes.take n).length = n := by rw [List.length_take]; omega
    rw [List.range_succ, List.foldl_append, ih (by omega) (by omega), List.foldl_cons, List.foldl_nil,
      winWriteByte_bulk p bytes _ ha (by omega), htake, ← State.writeMem_writeMem, hlen]

theorem winWrite_bulk (p : HostPort) {a : Nat} (bytes : List Byte) (s : State) (ha : 0xC000 ≤ a) (he : a + bytes.length ≤ 0x10000) :
    winWrite p a bytes s = s.writeMem a bytes := by
  unfold winWrite
  rw [winWriteByte_range_bulk p bytes s ha bytes.length le_rfl he, List.take_length]
  rfl

theorem winBytes_bulk (s : State) (p : HostPort) {a n : Nat} (ha : 0xC000 ≤ a) (he : a + n ≤ 0x10000) :
    winBytes s p a n = memReadN s.host.mem a n := by
  rw [memReadN_eq, winBytes]
  refine List.map_congr_left fun i hi => ?_
  have hin := List.mem_range.mp hi
  rw [Nat.mod_eq_of_lt (by omega), winByte]
  simp only [show ¬ a + i < 0x400 by omega, show ¬ a + i < 0x800 by omega, show ¬ a + i < 0x1000 by omega, show ¬ a + i < 0xA000 by omega,
    show ¬ a + i < 0xB000 by omega, show ¬ a + i < 0xC000 by omega, if_false]

/-- A read of the bulk area touches no field below it. -/
theorem touches_bulk {a n f len : Nat} (ha : 0xC000 ≤ a) (he : a + n ≤ 0x10000) (hl : 0 < len) (hf : f + len ≤ 0xC000) : touches a n f len = false := by
  have hmod : (f + len + 0x10000 - 1 - a) % 0x10000 = f + len + 0x10000 - 1 - a := Nat.mod_eq_of_lt (by omega)
  rw [touches, hmod]
  exact decide_eq_false (by omega)

theorem clearOnRead_bulk {a n : Nat} (s : State) (ha : 0xC000 ≤ a) (he : a + n ≤ 0x10000) : clearOnRead a n s = s := by
  have ht : ∀ f, f ≤ 0x1000 → touches a n f 2 = false := fun f hf => touches_bulk ha he (by omega) (by omega)
  simp [clearOnRead, ht]

theorem winRead_bulk (p : HostPort) {a n : Nat} (s : State) (ha : 0xC000 ≤ a) (he : a + n ≤ 0x10000) :
    winRead p a n s = (memReadN s.host.mem a n, s) := by
  rw [winRead, winBytes_bulk s p ha he, clearOnRead_bulk s ha he]

/-- What a well-formed window-access frame satisfies (R413). -/
theorem ethBad_none {f : EthFrame} (h : ethBad f = none) : f.addr + f.len ≤ 0x10000 := by
  unfold ethBad at h
  split at h
  · cases h
  split at h
  · cases h
  split at h
  · cases h
  split at h
  · cases h
  · omega

theorem portWrite_on {s b : State} {t : Nat} {p : HostPort} (hb : s.begin t = b) (hp : b.portOn p = true) (a : Nat) (bytes : List Byte) :
    portWrite t p a bytes s = done (winWrite p a bytes b) := by
  subst hb
  exact if_pos hp

theorem ethWindow_read {f : EthFrame} (s : State) (hok : ethBad f = none) (hk : f.kind = 1) (ha : 0xC000 ≤ f.addr) :
    ethWindow f s =
      { s with host := { s.host with hostTxn := true },
               out := { s.out with eth := s.out.eth ++ [⟨f.src, 1, 3, f.seq, f.addr, f.len, memReadN s.host.mem f.addr f.len⟩] } } := by
  unfold ethWindow
  simp only [hok, hk, if_true, winRead_bulk .eth _ ha (ethBad_none hok)]

theorem ethWindow_write {f : EthFrame} (s : State) (hok : ethBad f = none) (hk : f.kind = 2) (ha : 0xC000 ≤ f.addr) :
    ethWindow f s =
      { s with host := { s.host with hostTxn := true, writeMac := some f.src, mem := memWriteN s.host.mem f.addr (f.data.take f.len) },
               out := { s.out with eth := s.out.eth ++ [⟨f.src, 1, 4, f.seq, f.addr, f.len, []⟩] } } := by
  have hlen : f.addr + (f.data.take f.len).length ≤ 0x10000 := by
    have hle : (f.data.take f.len).length ≤ f.len := List.length_take_le ..
    have haddr := ethBad_none hok
    omega
  unfold ethWindow
  simp only [hok, hk, show (2 : Nat) ≠ 1 by decide, if_false, winWrite_bulk .eth _ _ ha hlen]
  rfl

end Sys2Proof.Machine

open Sys2Proof.Machine

/-- Settles O32: in the bulk area a written byte goes to the memory, a read byte comes from it, and no field that a read clears lies there. -/
theorem bulkAreaIsReadAndWritten : Obligations.BulkAreaIsReadAndWritten := by
  refine ⟨fun s b t p addr bytes hb hp ha he => ?_, fun s b t addr n until_ hb hp ha he => ?_, fun s b t f hb hp hok hk ha => ?_,
    fun s b t f hb hp hok hk ha => ?_⟩
  · have hwrite : ∀ p, b.portOn p = true → portWrite t p addr.toNat bytes s =
        .next (settle { b with host := { b.host with mem := memWriteN b.host.mem addr.toNat bytes } }) := fun p hp =>
      (portWrite_on hb hp addr.toNat bytes).trans (congrArg done (winWrite_bulk p bytes b ha he))
    refine ⟨hwrite p hp, fun hq => hwrite .qspi (hq ▸ hp), fun hm => ?_⟩
    have hb' : memWf b.host.mem = true := by subst hb; exact hm
    exact ⟨memWf_writeN hb' _ _, fun a => memRead_writeN hb' _ _ _⟩
  · subst hb
    have hfast : touches addr.toNat n 0 0x400 = false := touches_bulk ha he (by omega) (by omega)
    show execQspiRead t addr n until_ s = _
    unfold execQspiRead
    simp only [hp, if_true, winRead_bulk .qspi _ ha he, hfast, Bool.false_eq_true, and_false, if_false]
    rfl
  · subst hb
    exact (if_pos hp).trans (congrArg done (ethWindow_read _ hok hk ha))
  · subst hb
    exact (if_pos hp).trans (congrArg done (ethWindow_write _ hok hk ha))

end

section
/-! SUPPORT. Requests of parameters, banks, enables and modes that pass their checks (R9, R183, R240, R434, R436, R438-R442, R453). -/

namespace Sys2Proof.Machine

section
variable {s b b' : State} {opc need : Nat} {ba br : Bool} {h : Hdr} {pay : List Byte} {r : Rsp}
  {checks : State → List (Bool × Nat × Nat)} {effect : ReqRef → State → Rsp × State}

/-- A request that passes its checks in the state `b` in which it is judged ends with its operation's state and response. -/
theorem done_served (hb : s.noteCmd opc h pay = b) (hs : b.Serves h need ba br) (hf : firstFail (checks b) = none)
    (he : effect (refOf h opc) b = (r, b')) :
    done (runOp opc need ba br h pay s checks effect) = .next (settle (b'.answer opc h r)) := by
  rw [runOp_served_of_noted hb hs hf, he, done_eq]

end

theorem firstFail_append (l r : List (Bool × Nat × Nat)) : firstFail (l ++ r) = (firstFail l).or (firstFail r) := by
  induction l with
  | nil => rfl
  | cons e l ih =>
    obtain ⟨b, st, d⟩ := e
    cases b with
    | true => rfl
    | false => exact ih

/-- What a check answers says nothing of whether it fails. -/
theorem firstFail_map_eq_none {l : List (Bool × Nat × Nat)} (hl : firstFail l = none) {f : Bool × Nat × Nat → Nat × Nat} :
    firstFail (l.map fun e => (e.1, f e)) = none := by
  rw [firstFail_eq_none] at hl ⊢
  exact List.forall_mem_map.mpr hl

theorem axisOf?_val (a : AxisId) : axisOf? a.val = some a := dif_pos a.isLt

/-! ### Parameters -/

section
variable {s b : State} {t : Nat} {h : Hdr} {id count bank : Nat} {r : PRow} {v : List Byte}

/-- One value of a parameter that is no object goes to the only place it has. -/
theorem instVals_one (hn : r.n ≠ 0) (inst : Nat) (v : List Byte) : instVals r inst 1 v = [(inst, (reqElems r 1 v).take r.n)] := by
  rw [instVals, if_neg hn]
  simp

theorem valuesFit_one {len : Nat} (hn : r.n ≠ 0) (hl : len = 8 + r.valueSize) (hv : v.length = r.valueSize) :
    valuesFit r 8 1 len v = true := by
  simp [valuesFit, hn, hl, hv]

theorem execParamGet_served (hb : (s.begin t).taken (.paramGet t h id count bank) = b) (hs : b.Serves h 6 true false) (hlc : b.life.lc ≠ 4)
    (hrow : idRow id count = some r) (h1 : 1 ≤ count) (h32 : count ≤ 32) (hobj : r.n = 0 → count = 1) (hbank : bank ≤ 2)
    (hform : h.bulk = true ∨ (r.n ≠ 0 ∧ count * r.valueSize ≤ 48)) :
    let data := ((List.range count).map (fun j => valueBytes r (readParam b r (id % 256 + j) bank))).flatten
    let size := if r.n = 0 then min data.length 65535 else r.valueSize
    execParamGet t h id count bank s = .next (settle (b.answer 0x0101 h
      (if h.bulk then { status := stOk, body := toLE 2 size ++ toLE 2 0, bulk := some (data.take h.length) }
       else okRsp (toLE 2 size ++ toLE 2 0 ++ data)))) := by
  intro data size
  refine done_served hb hs ?_ ?_
  · have hlen : (decide (1 ≤ count ∧ count ≤ 32 ∧ 48 < if r.n = 0 then 1 + 48 else count * r.valueSize) && !h.bulk) = false := by
      obtain hbulk | ⟨hn, hsize⟩ := hform
      · simp [hbulk]
      · simp [hn, hsize]
    have hcount : decide (count = 0 ∨ 32 < count ∨ (r.n = 0 ∧ count ≠ 1)) = false := decide_eq_false (by omega)
    simp only [idRow_max_one h1, hrow, hlen, hcount, State.scrap_eq_false hlc, decide_eq_false (not_lt.mpr hbank)]
    rfl
  · simp only [idRow_max_one h1, hrow]
    split <;> rfl

theorem execParamStage_served {ofs : Nat} (hb : (s.begin t).taken (.paramStage t h id 1 ofs v) = b) (hs : b.Serves h 8 true false)
    (hlc : b.life.lc ≠ 4) (hrow : idRow id 1 = some r) (hn : r.n ≠ 0) (happ : r.app = .commit) (himg : id / 256 ≠ pCycCbImage)
    (hfit : valuesFit r 8 1 h.length v = true) (hbad : badValue r 1 v = none) (hpend : b.prm.pend = none) (hfr : b.prm.frozen = false) :
    execParamStage t h id 1 ofs v s = .next (settle
      ((b.setUnder r.key (id % 256) ((reqElems r 1 v).take r.n)).answer 0x0103 h (okRsp []))) := by
  have hpay : (s.begin t).noteCmd 0x0103 h (toLE 4 id ++ toLE 1 (1 : Nat) ++ toLE 3 0 ++
      (if decide (id / 256 = pCycCbImage) = true then toLE 4 ofs else []) ++ v) = b := by
    simp only [decide_eq_true_eq]
    exact hb
  unfold execParamStage
  simp only [himg, decide_false, Bool.false_and, Bool.false_eq_true, false_and, and_false, if_false] at hpay ⊢
  refine done_served hpay hs ?_ ?_
  · simp [hrow, hfit, hn, State.scrap_eq_false hlc, hbad, happ, hpend, hfr, firstFail]
  · simp [hrow, instVals_one hn]

end

/-- Settles O12: each request passes its checks, and its operation reads or writes the one value of its row. -/
theorem parameterAccessCompletes : Obligations.ParameterAccessCompletes := by
  refine ⟨fun s b t h id count bank r => execParamGet_served, ?_, ?_⟩
  · intro s b t h id v r hb hs hlc hrow hn hl hv hbad htest hst hacq
    have hone := instVals_one hn (id % 256) v
    have hrun := execParamSet_served hb hs hlc le_rfl (by decide) hrow (valuesFit_one hn hl hv) hbad htest hst hacq
    rw [hone] at hrun
    exact hrun
  · intro s b t h id ofs v r hb hs hlc hrow hn happ himg hl hv hbad hpend hfr
    exact execParamStage_served hb hs hlc hrow hn happ himg (valuesFit_one hn hl hv) hbad hpend hfr

/-- Settles O13: `setOne` branches on the apply code, and `setState` refuses what it does not write. -/
theorem applyCodeSaysWhereAWriteGoes : Obligations.ApplyCodeSaysWhereAWriteGoes := by
  intro s r inst v
  unfold setOne
  refine ⟨fun ha hg => ?_, fun ha hg => ?_, fun ha hc => ?_, fun ha hc => ?_, fun ha => ?_, fun ha => ⟨?_, ?_⟩⟩
  · simp [ha, hg]
  · cases hl : s.cyc.liveHold with
    | none => simp [ha, hg]
    | some x =>
      have hs : ({ s with cyc := { s.cyc with liveHold := some x } } : State) = s := by rw [← hl]
      simp [ha, hg, hs]
  · simp [ha, hc]
  · simp [ha, hc, State.setLive]
  · simp [ha]
  · obtain ha | ha := ha <;> simp [ha]
  · simp [setState, ha]

/-! ### Banks -/

section
variable {s b : State} {t : Nat} {h : Hdr}

theorem execCheck_served (hb : (s.begin t).taken (.check t h) = b) (hs : b.Serves h 0 false false) (hlc : b.life.lc ≠ 4) :
    execCheck t h s = .next (settle (b.answer 0x0110 h
      (match checkBank b b.prm.undercoat with | some f => failRsp f | none => okRsp []))) := by
  refine done_served hb hs ?_ rfl
  simp [State.scrap_eq_false hlc, firstFail]

theorem execDiscard_served (hb : (s.begin t).taken (.discard t h) = b) (hs : b.Serves h 0 false false) (hlc : b.life.lc ≠ 4)
    (hpend : b.prm.pend = none) (hfr : b.prm.frozen = false) :
    execDiscard t h s = .next (settle ({ b with prm := { b.prm with undercoat := b.prm.topcoat, segs := [] } }.answer 0x0112 h (okRsp []))) := by
  refine done_served hb hs ?_ rfl
  simp [State.scrap_eq_false hlc, hpend, hfr, firstFail]

theorem execApply_now_served {n : Nat} (hb : (s.begin t).taken (.apply t h 0 n) = b) (hs : b.Serves h 8 false false) (hlc : b.life.lc ≠ 4)
    (hchk : checkBank b b.prm.undercoat = none) (hst : b.applyState = false) (hpend : b.prm.pend = none) (hfr : b.prm.frozen = false)
    (hper : h.persist = true → b.prm.persist = none) (hrep : b.replayClash = false) :
    let s1 := { b with
      prm := { b.prm with pend := some ({ req := some (refOf h 0x0111), persist := h.persist, fabric := false, n := 0, prepared := false, origin := b.fab.addr, tag := h.tag, members := [], acked := [], ownAck := false, decision := 0 } : PendApply) }
      cyc := { b.cyc with stopDue := b.cyc.stopDue || (b.cyc.cycling && b.stopsCycling) } }
    execApply t h 0 n s = .next (settle ((if b.cyc.cycling then s1 else tileDomains s1).answer 0x0111 h { status := stPending })) := by
  intro s1
  refine done_served hb hs ?_ ?_
  · have hwait : (h.persist && b.prm.persist.isSome) = false := by
      simpa using hper
    simp [State.scrap_eq_false hlc, hchk, hst, hpend, hfr, hwait, hrep, firstFail]
  · simp only [hchk]
    rfl

theorem execTraceSetup_one_served {id v : Nat} {r : PRow} (hb : (s.begin t).taken (.traceSetup t h [(id, v)]) = b)
    (hs : b.Serves h 1 true true) (hlc : b.life.lc ≠ 4) (hl : h.length = 12) (hrow : pairRow id = some r)
    (hbad : firstBad r 0 (pairVal r v) = none) (hfit : v < 2 ^ (8 * r.sz) ∨ r.signed = true) (hacq : b.acq.armed = false) :
    execTraceSetup t h [(id, v)] s = .next (settle ((setOne r (id % 256) (pairVal r v) b).answer 0x0501 h (okRsp []))) := by
  refine done_served hb hs ?_ ?_
  · have hwide : 2 ^ (8 * r.sz) ≤ v → r.signed = true := fun hge => hfit.resolve_left hge.not_gt
    simp [hrow, hl, State.scrap_eq_false hlc, hbad, hacq, firstFail]
    exact hwide
  · simp [hrow]

end

/-- Settles O15, from what each of the four requests does once its checks pass. -/
theorem bankRequestsComplete : Obligations.BankRequestsComplete :=
  ⟨fun _ _ _ _ => execCheck_served, fun _ _ _ _ => execDiscard_served, fun _ _ _ _ _ => execApply_now_served,
    fun _ _ _ _ _ _ _ => execTraceSetup_one_served⟩

/-! ### Enables and modes -/

/-- A check that holds for no axis of a list passes. -/
theorem axisCheck_none {l : List AxisId} {f : AxisId → Bool} (hf : ∀ a ∈ l, f a = false) (st : Nat) : axisCheck l f st = (false, st, 0) := by
  have hnone : l.find? f = none := by
    simpa using hf
  rw [axisCheck, hnone]

section
variable {s b : State} {t : Nat} {h : Hdr} {mask : Nat}

theorem execAxisEnable_served (hb : (s.begin t).taken (.axisEnable t h mask) = b) (hs : b.Serves h 4 false false) (hlc : b.life.lc ≠ 4)
    (hm : mask < 2 ^ 32) :
    let off := (maskAxes mask).filter (fun a => !(b.ax a).enabled)
    (∀ a ∈ off, enableRated b a = false ∧ (b.ax a).link.st = .run ∧ enableRange b a = false ∧ enableState b a = false ∧ enableBusy b mask a = false) →
    (off = [] → execAxisEnable t h mask s = .next (settle (b.answer 0x0201 h (okRsp [])))) ∧
    (off ≠ [] → execAxisEnable t h mask s = .next (settle
      ({ b with cyc := { b.cyc with pendEnable := b.cyc.pendEnable ++ [({ req := refOf h 0x0201, mask := natSum (off.map (fun (a : AxisId) => 2 ^ a.val)), done := 0, effective := false, at_ := b.cyc.posNo + (if off.all (fun a => decide ((b.ax a).mode = 6)) then 1 else 2), moved := 0 } : PendEnable)] } }.answer
        0x0201 h { status := stPending }))) := by
  intro off hoff
  have hmask : mask % 2 ^ 32 = mask := Nat.mod_eq_of_lt hm
  have hchk : firstFail [(b.scrap, stLifecycle, 0), axisCheck off (enableRated b) stRange,
      axisCheck off (fun a => decide ((b.ax a).link.st ≠ .run)) stState, axisCheck off (enableRange b) stRange,
      axisCheck off (enableState b) stState, axisCheck off (enableBusy b mask) stBusy] = none := by
    rw [axisCheck_none fun a ha => (hoff a ha).1, axisCheck_none fun a ha => decide_eq_false (not_not.mpr (hoff a ha).2.1),
      axisCheck_none fun a ha => (hoff a ha).2.2.1, axisCheck_none fun a ha => (hoff a ha).2.2.2.1,
      axisCheck_none fun a ha => (hoff a ha).2.2.2.2, State.scrap_eq_false hlc]
    rfl
  unfold execAxisEnable
  dsimp only
  rw [hmask]
  refine ⟨fun h0 => done_served hb hs hchk (if_pos (List.isEmpty_iff.mpr h0)),
    fun h0 => done_served hb hs hchk (if_neg fun he => h0 (List.isEmpty_iff.mp he))⟩

theorem execAxisDisable_served (hb : (s.begin t).taken (.axisDisable t h mask) = b) (hs : b.Serves h 4 false false) (hlc : b.life.lc ≠ 4)
    (hm : mask < 2 ^ 32) :
    let s1 := forAxes (maskAxes mask) disableAxis b
    execAxisDisable t h mask s = .next (settle
      ((if s1.cyc.cycling then s1 else forAxes (maskAxes mask) switchDisabled s1).answer 0x0202 h (okRsp []))) := by
  intro s1
  have hmask : mask % 2 ^ 32 = mask := Nat.mod_eq_of_lt hm
  unfold execAxisDisable
  dsimp only
  rw [hmask]
  refine done_served hb hs ?_ rfl
  simp [State.scrap_eq_false hlc, firstFail]

theorem execModeSet_served {a : AxisId} {mode : Nat} {r : Rsp} {b' : State} (hb : (s.begin t).taken (.modeSet t h a.val mode) = b)
    (hs : b.Serves h 2 false false) (hlc : b.life.lc ≠ 4) (hmode : mode ≤ 6) (htest : mode = 6 → b.testOpen = true)
    (hst : modeState b a mode = false) (hbusy : modeBusy b a = false)
    (hgear : mode = 3 → (b.ax a).mode ≠ 3 → firstFail (gearChecks b a (gearOfMode b a)) = none)
    (he : (if (b.ax a).mode = mode then (okRsp [], b)
        else if mode = 3 then gearTake a (gearOfMode b a) (refOf h 0x0203) b
        else if (b.ax a).enabled then
          ({ status := stPending }, b.modAxis a (fun x =>
            { x with pendSw := some { target := mode, at_ := b.cyc.posNo + 2, req := some (refOf h 0x0203), moved := 0, preset := true } }))
        else if b.cyc.cycling then
          ({ status := stPending }, b.modAxis a (fun x =>
            { x with pendSw := some { target := mode, at_ := b.cyc.posNo + 1, req := some (refOf h 0x0203), moved := 0, preset := false } }))
        else (okRsp [], modeNow a mode b)) = (r, b')) :
    execModeSet t h a.val mode s = .next (settle (b'.answer 0x0203 h r)) := by
  refine done_served hb hs ?_ ?_
  · have hgears : firstFail (if mode = 3 ∧ (b.ax a).mode ≠ 3 then (gearChecks b a (gearOfMode b a)).map (fun e => (e.1, e.2.1, 0)) else []) = none := by
      split
      next hg => exact firstFail_map_eq_none (hgear hg.1 hg.2)
      next => rfl
    have hopen : (decide (mode = 6) && !b.testOpen) = false := by
      simpa using htest
    simp only [axisOf?_val]
    rw [firstFail_append, firstFail_append, hgears]
    simp [State.scrap_eq_false hlc, hopen, hmode.not_gt, hst, hbusy, firstFail]
  · simp only [axisOf?_val]
    exact he

end

/-- Settles O16: AXIS_ENABLE finds nothing to enable or waits, AXIS_DISABLE acts at once, and MODE_SET takes one of its five ways. -/
theorem enableAndModeRequestsComplete : Obligations.EnableAndModeRequestsComplete := by
  refine ⟨fun _ _ _ _ _ => execAxisEnable_served, fun _ _ _ _ _ => execAxisDisable_served, ?_⟩
  intro s b t h a mode hb hs hlc hmode htest hst hbusy hgear q wait
  have hrun : ∀ {r b'}, _ → execModeSet t h a.val mode s = .next (settle (State.answer b' 0x0203 h r)) :=
    execModeSet_served hb hs hlc hmode htest hst hbusy hgear
  refine ⟨fun hm => hrun ?_, fun hm h3 => hrun ?_, fun hm h3 hen => hrun ?_, fun hm h3 hen hcyc => hrun ?_, fun hm h3 hen hcyc => hrun ?_⟩
  · rw [if_pos hm]
  · rw [if_neg hm, if_pos h3]
  · rw [if_neg hm, if_neg h3, if_pos hen]
  · rw [if_neg hm, if_neg h3, if_neg (by simp [hen]), if_pos hcyc]
  · rw [if_neg hm, if_neg h3, if_neg (by simp [hen]), if_neg (by simp [hcyc])]

end Sys2Proof.Machine
end

section
/-! SUPPORT. Requests of moves, stops, jogs, homing and latches that pass their checks (R214-R216, R238, R241, R242, R253, R261). -/

namespace Sys2Proof.Machine

theorem tgtAxis?_val (a : AxisId) : tgtAxis? a.val = some a := axisOf?_val a

theorem tgtAxis?_grp (g : Fin 8) : tgtAxis? (0x80 + g.val) = none := dif_neg (by omega)

theorem tgtGrp?_grp (g : Fin 8) : tgtGrp? (0x80 + g.val) = some g := by
  rw [tgtGrp?, dif_pos (by omega)]
  simp

section
variable {s b : State} {t : Nat} {h : Hdr}

/-! ### The queues -/

theorem execMoveQueue_axis_served {m : MoveReq} {a : AxisId} (hb : (s.begin t).taken (.moveQueue t h m) = b)
    (hs : b.Serves h 49 true false) (htgt : m.tgt = a.val) (hchk : firstFail (axMoveChecks b a m) = none) :
    let s1 := if m.replace then postDrops a.val 2 (b.ax a).prof.waitingTags b else b
    let s2 := s1.modProf a (fun p => p.enqueue (absEntry (b.ax a).prof m) h.tag)
    execMoveQueue t h m s = .next (settle (s2.answer 0x0210 h (okRsp (toLE 1 (s2.ax a).prof.queue.length)))) := by
  refine done_served hb hs ?_ ?_
  · rw [htgt, tgtAxis?_val]
    exact hchk
  · rw [htgt, tgtAxis?_val]

theorem execMoveQueue_grp_served {m : MoveReq} {g : Fin 8} (hb : (s.begin t).taken (.moveQueue t h m) = b)
    (hs : b.Serves h 49 true false) (htgt : m.tgt = 0x80 + g.val) (hchk : firstFail (grpMoveChecks b g m) = none) :
    let s1 := if m.replace then postDrops (0x80 + g.val) 2 (b.grps.get g).prof.waitingTags b else b
    let s2 := s1.modGrp g (fun x => { x with prof := x.prof.enqueue m h.tag })
    execMoveQueue t h m s = .next (settle (s2.answer 0x0210 h (okRsp (toLE 1 (s2.grps.get g).prof.queue.length)))) := by
  refine done_served hb hs ?_ ?_
  · rw [htgt, tgtAxis?_grp, tgtGrp?_grp]
    exact hchk
  · rw [htgt, tgtAxis?_grp, tgtGrp?_grp]

theorem execMoveFlush_axis_served {a : AxisId} (hb : (s.begin t).taken (.moveFlush t h a.val) = b) (hs : b.Serves h 1 false false)
    (hlc : b.life.lc ≠ 4) :
    execMoveFlush t h a.val s = .next (settle
      (((dropAxisQueue a 1 b).modProf a (fun p => { p with flush := !p.stopping })).answer 0x0211 h
        (okRsp (toLE 1 (b.ax a).prof.waitingTags.length)))) := by
  refine done_served hb hs ?_ ?_
  · simp [tgtAxis?_val, State.scrap_eq_false hlc, firstFail]
  · rw [tgtAxis?_val]

theorem execMoveFlush_grp_served {g : Fin 8} (hb : (s.begin t).taken (.moveFlush t h (0x80 + g.val)) = b)
    (hs : b.Serves h 1 false false) (hlc : b.life.lc ≠ 4) :
    execMoveFlush t h (0x80 + g.val) s = .next (settle
      (((dropGrpQueue g 1 b).modGrp g (fun x => { x with prof := { x.prof with flush := !x.prof.stopping } })).answer 0x0211 h
        (okRsp (toLE 1 (b.grps.get g).prof.waitingTags.length)))) := by
  refine done_served hb hs ?_ ?_
  · simp [tgtGrp?_grp, State.scrap_eq_false hlc, firstFail]
  · rw [tgtAxis?_grp, tgtGrp?_grp]

/-! ### Stops -/

theorem stopOp_target_served {opc kind tgt : Nat} (hb : s.noteCmd opc h (toLE 1 tgt) = b) (hs : b.Serves h 1 false false)
    (hlc : b.life.lc ≠ 4) (htgt : tgt < 32 ∨ (0x80 ≤ tgt ∧ tgt < 0x88)) :
    let r := stopTarget tgt kind b
    done (stopOp opc kind h tgt s) = .next (settle (r.2.answer opc h (okRsp (toLE 2 r.1.1 ++ toLE 1 r.1.2)))) := by
  have hknown : ((tgtAxis? tgt).isNone && (tgtGrp? tgt).isNone) = false := by
    obtain hax | hgrp := htgt
    · simp [tgtAxis?, axisOf?, hax]
    · simp [tgtGrp?, hgrp]
  refine done_served hb hs ?_ ?_
  · simp only [hknown, State.scrap_eq_false hlc, Bool.false_and, firstFail, Bool.false_eq_true, if_false]
  · exact if_neg (by omega)

theorem stopOp_everything_served {opc kind tgt : Nat} (hb : s.noteCmd opc h (toLE 1 tgt) = b) (hs : b.Serves h 1 false false)
    (hlc : b.life.lc ≠ 4) (htgt : tgt = 0xFF) :
    let c := stopEverything kind { b with free := b.free + 3 }
    done (stopOp opc kind h tgt s) = .next (settle (c.2.answer opc h (okRsp ([Config.freeByte b.free, Config.freeByte (b.free + 1)] ++
      [if c.1 < 256 then BitVec.ofNat 8 c.1 else Config.freeByte (b.free + 2)])))) := by
  refine done_served hb hs ?_ ?_
  · simp [State.scrap_eq_false hlc, htgt, firstFail]
  · rw [if_pos htgt]

/-- A state serves a request whatever command it notes. -/
theorem State.taken_serves {s : State} {need : Nat} {ba br : Bool} {i j : Instr} (h : Hdr) (hs : (s.taken i).Serves h need ba br) :
    (s.taken j).Serves h need ba br := by
  rw [State.taken_frame] at hs ⊢
  exact hs

theorem State.taken_life (s : State) (i : Instr) : (s.taken i).life = s.life := by
  rw [State.taken_frame]

theorem State.taken_free (s : State) (i : Instr) : (s.taken i).free = s.free := by
  rw [State.taken_frame]

end

/-- Settles O18, from what each request does to an axis, to a group and to every axis. -/
theorem moveRequestsComplete : Obligations.MoveRequestsComplete := by
  refine ⟨fun s b t h m a => execMoveQueue_axis_served, fun s b t h m g => execMoveQueue_grp_served, fun s b t h a => execMoveFlush_axis_served,
    fun s b t h g => execMoveFlush_grp_served, fun s b c t h tgt hb hc hs hlc htgt => ?_, fun s b c t h hb hc hs hlc => ?_⟩
  all_goals
    have hsc : c.Serves h 1 false false := by subst hb hc; exact State.taken_serves h hs
    have hlcc : c.life.lc ≠ 4 := by subst hb hc; rwa [State.taken_life] at hlc ⊢
  · exact ⟨stopOp_target_served hb hs hlc htgt, stopOp_target_served hc hsc hlcc htgt⟩
  · intro c1 c2 body
    have hfree : c.free = b.free := by subst hb hc; rw [State.taken_free, State.taken_free]
    refine ⟨stopOp_everything_served hb hs hlc rfl, ?_⟩
    dsimp only [body]
    rw [← hfree]
    exact stopOp_everything_served hc hsc hlcc rfl

/-! ### Jogs, homing and latches -/

section
variable {s b : State} {t : Nat} {h : Hdr} {a : AxisId}

theorem execJog_served {j : JogReq} (hb : (s.begin t).taken (.jog t h j) = b) (hs : b.Serves h 24 false false) (hlc : b.life.lc ≠ 4)
    (hax : j.axis = a.val) (hk : j.kind ≤ 1) (hm : (b.ax a).mode = 4) (hstop : (b.ax a).prof.stopping = false)
    (hgrp : ∀ g, b.groupOf a = some g → b.grpBusy g = false)
    (hpos : jogDir (b.ax a) j = 1 → swActive b a .pos = false) (hneg : jogDir (b.ax a) j = -1 → swActive b a .neg = false) :
    let p1 := if (b.ax a).prof.kind = .stop ∨ (b.ax a).prof.kind = .qstop then { (b.ax a).prof with kind := .idle, plan := {}, stillRun := 0 }
      else (b.ax a).prof
    execJog t h j s = .next (settle ((b.modProf a (fun _ =>
      { p1 with
        jog := some (jogWaits p1 j)
        jogUntil := if j.kind = 0 ∧ j.value ≠ 0 then some (b.time.lt + b.pn pAxProfJogTimeoutMs a.val * 1000000) else none })).answer
      0x0214 h (okRsp []))) := by
  intro p1
  refine done_served hb hs ?_ ?_
  · have hsw : ¬ ((jogDir (b.ax a) j = 1 ∧ swActive b a .pos = true) ∨ (jogDir (b.ax a) j = -1 ∧ swActive b a .neg = true)) := by
      simpa using ⟨hpos, hneg⟩
    have hfree : (match b.groupOf a with | some g => b.grpBusy g | none => false) = false := by
      split
      next g hg => exact hgrp g hg
      next => rfl
    simp [hax, axisOf?_val, State.scrap_eq_false hlc, hk.not_gt, hm, hstop, firstFail]
    exact (if_neg hsw).trans (if_neg (Bool.eq_false_iff.mp hfree))
  · simp only [hax, axisOf?_val]
    rfl

theorem execHome_served (hb : (s.begin t).taken (.home t h a.val) = b) (hs : b.Serves h 1 false false) (hlc : b.life.lc ≠ 4)
    (hreq : (b.ax a).home.req = none)
    (hready : ((b.ax a).enabled = true ∧ (b.ax a).mode = 2 ∧ atRest b a = true ∧ (b.ax a).prof.queue = [] ∧ (b.ax a).prof.repl = none) ∨
      ((b.ax a).enabled = false ∧ b.pa pAxHomeMethod a = 5)) :
    execHome t h a.val s = .next (settle ((homeStart a (refOf h 0x0220) b).answer 0x0220 h { status := stPending })) := by
  refine done_served hb hs ?_ ?_
  · simp only [axisOf?_val]
    obtain ⟨hen, hmode, hrest, hq, hr⟩ | ⟨hen, hmeth⟩ := hready
    · simp [hreq, State.scrap_eq_false hlc, hen, hmode, hrest, hq, hr, firstFail]
    · simp [hreq, State.scrap_eq_false hlc, hen, hmeth, firstFail]
  · rw [axisOf?_val]

theorem execLatchArm_served {l : LatchReq} (hb : (s.begin t).taken (.latchArm t h l) = b) (hs : b.Serves h 40 false false)
    (hlc : b.life.lc ≠ 4) (hax : l.axis = a.val) (hmask : l.mask ≤ 3) (hrun : (b.ax a).link.st = .run)
    (hwin0 : bitOf l.mask 0 = true → fieldOf (latchCfg b a 0) 11 2 ≠ 0 → l.win0Start < l.win0End)
    (hwin1 : bitOf l.mask 1 = true → fieldOf (latchCfg b a 1) 11 2 ≠ 0 → l.win1Start < l.win1End) :
    let s1 := if bitOf l.mask 0 then latchArm1 a 0 l.win0Start l.win0End b else b
    let s2 := if bitOf l.mask 1 then latchArm1 a 1 l.win1Start l.win1End s1 else s1
    (l.mask = 0 → execLatchArm t h l s = .next (settle ((b.modAxis a (fun x =>
      { x with latch0 := { x.latch0 with armed := false }, latch1 := { x.latch1 with armed := false } })).answer 0x0230 h (okRsp [])))) ∧
    (l.mask ≠ 0 → execLatchArm t h l s = .next (settle (s2.answer 0x0230 h (okRsp [])))) := by
  intro s1 s2
  have hw0 : (decide (fieldOf (latchCfg b a 0) 11 2 ≠ 0) && bitOf l.mask 0 && decide (l.win0End ≤ l.win0Start)) = false := by
    simpa using fun hf hm => hwin0 hm hf
  have hw1 : (decide (fieldOf (latchCfg b a 1) 11 2 ≠ 0) && bitOf l.mask 1 && decide (l.win1End ≤ l.win1Start)) = false := by
    simpa using fun hf hm => hwin1 hm hf
  unfold execLatchArm
  rw [hax, axisOf?_val]
  refine ⟨fun h0 => done_served hb hs ?_ (if_pos h0), fun h0 => done_served hb hs ?_ (if_neg h0)⟩
  all_goals
    simp only [State.scrap_eq_false hlc, decide_eq_false hmask.not_gt, hw0, hw1, hrun, firstFail]
    rfl

end

/-- Settles O19, from what each of the three requests does once its checks pass. -/
theorem jogHomeAndLatchRequestsComplete : Obligations.JogHomeAndLatchRequestsComplete :=
  ⟨fun _ _ _ _ _ _ => execJog_served, fun _ _ _ _ _ => execHome_served, fun _ _ _ _ _ _ => execLatchArm_served⟩

end Sys2Proof.Machine
end

section
/-! SUPPORT. Requests of tides, gears, cams and faults that pass their checks (R271, R276, R290, R292, R435, R481-R483). -/

namespace Sys2Proof.Machine

section
variable {s b : State} {t : Nat} {h : Hdr}

/-! ### Tides -/

/-- A tide that a request names by its number. -/
theorem tideId_mod (i : TideId) (hlt : i.val % 4 < 4) : (⟨i.val % 4, hlt⟩ : TideId) = i :=
  Fin.ext (Nat.mod_eq_of_lt i.isLt)

theorem execTideDefine_served {body : List Byte} {i : TideId} (hb : (s.begin t).taken (.tideDefine t h body) = b)
    (hs : b.Serves h 544 true true) (hlc : b.life.lc ≠ 4) (hl : h.length = 544) (hbody : body.length = 544)
    (hi : getU body 0 1 = i.val) (hbad : tideBad body = none) (horg : b.tideOrigin i = true) :
    execTideDefine t h body s = .next (settle
      ((b.modTide i (fun x => { x with staged := some (body, crc32 body) })).answer 0x0301 h (okRsp (toLE 4 (crc32 body))))) := by
  unfold execTideDefine
  simp only [hi, tideId_mod]
  refine done_served hb hs ?_ rfl
  simp [hl, hbody, State.scrap_eq_false hlc, hbad, horg, firstFail, show ¬ 3 < i.val by omega]

theorem execTideSchedule_served {i : TideId} {n : Nat} {body : List Byte} {crc : Nat}
    (hb : (s.begin t).taken (.tideSchedule t h i.val n) = b) (hs : b.Serves h 8 false false) (hlc : b.life.lc ≠ 4)
    (hnear : 17 ≤ extendN b.fabN n - b.fabN) (hfar : extendN b.fabN n - b.fabN ≤ 2 ^ 31) (horg : b.tideOrigin i = true)
    (hst : (b.tides.get i).staged = some (body, crc)) (hpend : (b.tides.get i).pend = none)
    (hblk : b.pendBlocks (b.modTide i (fun x => { x with pend := some (schedule b i n) })) = false) :
    let at_ := (extendN b.fabN n).toNat
    let c : TideChange := { n := at_, crc := crc, body := body, members := sortBy id (b.tideMembers i ++ [b.fab.addr]), acked := [], req := some (refOf h 0x0302), origin := true, decision := 0, ownAck := false, new := formDef b (b.tides.get i) at_ crc body }
    let s1 := tideAck 17 i (b.modTide i (fun x => { x with staged := none, pend := some c }))
    let s2 := (b.tideMembers i).foldl (fun s a =>
      s.nextMsg.2.ferrySend a 4 s.nextMsg.1 (toLE 1 1 ++ body ++ toLE 4 at_) none (0, 0)) s1
    execTideSchedule t h i.val n s = .next (settle (s2.answer 0x0302 h { status := stPending })) := by
  intro at_ c s1 s2
  have hsched : { schedule b i n with req := some (refOf h 0x0302) } = c := by
    simp only [schedule, hst, Option.getD_some]
    rfl
  have hbody : (schedule b i n).body = body := congrArg TideChange.body hsched
  have hn : (schedule b i n).n = at_ := congrArg TideChange.n hsched
  unfold execTideSchedule
  simp only [tideId_mod]
  refine done_served hb hs ?_ ?_
  · have hahead : ¬ (extendN b.fabN n - b.fabN < 17 ∨ 2 ^ 31 < extendN b.fabN n - b.fabN) := by omega
    simp only [decide_eq_false hahead, State.scrap_eq_false hlc, horg, hst, hpend, hblk,
      decide_eq_false (show ¬ 3 < i.val by omega), firstFail]
    rfl
  · rw [hsched, hbody, hn]

/-! ### Gears and cams -/

theorem execGearEngage_served {g : GearReq} {a : AxisId} (hb : (s.begin t).taken (.gearEngage t h g) = b) (hs : b.Serves h 56 false false)
    (hax : g.axis = a.val) (hchk : firstFail (gearChecks b a (gearFill b a g)) = none) :
    let r := gearTake a (gearFill b a g) (refOf h 0x0303) b
    execGearEngage t h g s = .next (settle (r.2.answer 0x0303 h r.1)) := by
  refine done_served hb hs ?_ ?_
  · rw [hax, axisOf?_val]
    exact hchk
  · rw [hax, axisOf?_val]

section
variable {c : CamReq}

/-- A segment that continues its object, is not empty, and neither passes the end of the table nor ends short of it. -/
def camFits (x : Cam) (c : CamReq) (more : Bool) : Bool :=
  let ys := x.soFar c.segOfs ++ c.ys
  camInOrder x c && !(decide (c.n < ys.length) || (!more && decide (ys.length ≠ c.n)) || c.ys.isEmpty)

/-- CAM_LOAD of a segment that fits a table which no axis uses. -/
theorem execCamLoad_served {r : Rsp} {b' : State} (hb : (s.begin t).taken (.camLoad t h c) = b) (hs : b.Serves h 20 true true)
    (hlc : b.life.lc ≠ 4) (htab : c.table ≤ 63) (hsize : camSizeOk c.n = true)
    (hflash : h.persist = true → b.camFlash c.table + 8 * c.n ≤ 24 * 2 ^ 20) (hfits : camFits (b.cam c.table) c h.more = true)
    (hidle : b.camAxes c.table = [])
    (he : let x := b.cam c.table
      let ys := x.soFar c.segOfs ++ c.ys
      (if h.more then (okRsp [], b.setCam c.table { x with n := 0, rise := 0, ys := [], stored := false, load := some (c.n, c.rise, ys) })
       else (okRsp [], b.setCam c.table { x with n := c.n, rise := c.rise, ys := ys, stored := h.persist, load := none, flash := if h.persist then some (c.n, c.rise, ys) else x.flash })) = (r, b')) :
    execCamLoad t h c s = .next (settle (b'.answer 0x0304 h r)) := by
  refine done_served hb hs ?_ ?_
  · have hroom : (h.persist && decide (24 * 2 ^ 20 < b.camFlash c.table + 8 * c.n)) = false := by
      simpa using hflash
    simp only [State.scrap_eq_false hlc, decide_eq_false htab.not_gt, hsize, hroom, firstFail]
    rfl
  · obtain ⟨hord, hshort⟩ := (Bool.and_eq_true ..).mp hfits
    have hok : ¬ ((!camInOrder (b.cam c.table) c || (decide (c.n < ((b.cam c.table).soFar c.segOfs ++ c.ys).length) ||
        (!h.more && decide (((b.cam c.table).soFar c.segOfs ++ c.ys).length ≠ c.n)) || c.ys.isEmpty)) = true) := by
      rw [hord, (Bool.not_eq_true' _).mp hshort]
      decide
    dsimp only
    rw [if_neg hok, hidle]
    exact he

end

/-- Settles O20, from what each of the four requests does once its checks pass. -/
theorem tideGearAndCamRequestsComplete : Obligations.TideGearAndCamRequestsComplete := by
  refine ⟨fun s b t h body i => execTideDefine_served, fun s b t h i n body crc => execTideSchedule_served, fun s b t h g a => execGearEngage_served,
    fun s b t h c hb hs hlc htab hsize hflash hord hne hidle => ?_⟩
  intro x ys
  refine ⟨fun hmore hle => ?_, fun hmore heq => ?_⟩
  · refine execCamLoad_served hb hs hlc htab hsize hflash ?_ hidle (if_pos hmore)
    have hlen : ((b.cam c.table).soFar c.segOfs ++ c.ys).length ≤ c.n := hle
    simpa [camFits, hord, hmore, hne] using hlen
  · refine execCamLoad_served hb hs hlc htab hsize hflash ?_ hidle (if_neg (Bool.eq_false_iff.mp hmore))
    have hlen : ((b.cam c.table).soFar c.segOfs ++ c.ys).length = c.n := heq
    simp [camFits, hord, hmore, hne, hlen]

end

/-! ### Faults -/

section
variable {s b : State} {t : Nat} {h : Hdr}

theorem execFaultRead_served {first count : Nat} (hb : (s.begin t).taken (.faultRead t h first count) = b) (hs : b.Serves h 4 true false)
    (hf : first ≤ 255 ∨ (first = 0xFFFF ∧ b.flt.newest ≠ 0xFFFF)) :
    let f := if first = 0xFFFF then b.flt.newest else first
    let held := (b.flt.recs.filter (fun e => decide (e.2.state ≠ 0))).length
    let recs := (slotsDown f (min count (1 + h.length / 32))).map (fun i => (b.frec i).bytes)
    execFaultRead t h first count s = .next (settle (b.answer 0x0401 h
      { status := stOk, detail := b.flt.lost, body := toLE 2 held ++ toLE 2 0 ++ recs.headD (List.replicate 32 0),
        bulk := if h.bulk then some ((recs.tail.flatten).take h.length) else none })) := by
  refine done_served hb hs ?_ (if_neg ?_)
  · have hknown : ¬ (255 < first ∧ first ≠ 0xFFFF) := by omega
    simp [hknown, firstFail]
  · omega

theorem execFaultRead_newest_served {count : Nat} (hb : (s.begin t).taken (.faultRead t h 0xFFFF count) = b) (hs : b.Serves h 4 true false)
    (hnone : b.flt.newest = 0xFFFF) :
    execFaultRead t h 0xFFFF count s = .next (settle (b.answer 0x0401 h
      { status := stOk, detail := b.flt.lost, body := toLE 2 0 ++ toLE 2 0 ++ List.replicate 32 0, bulk := if h.bulk then some [] else none })) :=
  done_served hb hs rfl (if_pos ⟨rfl, hnone⟩)

theorem faultAck_known {i : Nat} (hi : i ≤ 255) (hopen : (b.frec i).isOpen = true) (hlc : b.life.lc ≠ 4) :
    firstFail [(decide (i ≠ 0xFFFF ∧ (255 < i ∨ ¬ (b.frec i).isOpen = true)), stBadId, 0), (b.scrap, stLifecycle, 0)] = none := by
  simp [hi.not_gt, hopen, State.scrap_eq_false hlc, firstFail]

theorem execFaultAck_latched_served {i : Nat} (hb : (s.begin t).taken (.faultAck t h i) = b) (hs : b.Serves h 2 false false)
    (hlc : b.life.lc ≠ 4) (hi : i ≤ 255) (hst : (b.frec i).state = 2) :
    execFaultAck t h i s = .next (settle ((closeRec i b).answer 0x0402 h (okRsp []))) := by
  refine done_served hb hs (faultAck_known hi (decide_eq_true (.inr hst)) hlc) ?_
  rw [if_neg (by omega), if_pos hst]

theorem execFaultAck_active_served {i : Nat} (hb : (s.begin t).taken (.faultAck t h i) = b) (hs : b.Serves h 2 false false)
    (hlc : b.life.lc ≠ 4) (hi : i ≤ 255) (hst : (b.frec i).state = 1) :
    let r := ackActive i (refOf h 0x0402) b
    execFaultAck t h i s = .next (settle (r.2.answer 0x0402 h r.1)) := by
  refine done_served hb hs (faultAck_known hi (decide_eq_true (.inl hst)) hlc) ?_
  rw [if_neg (by omega), if_neg (by omega)]

theorem execFaultAck_all_served (hb : (s.begin t).taken (.faultAck t h 0xFFFF) = b) (hs : b.Serves h 2 false false) (hlc : b.life.lc ≠ 4) :
    let l := b.openSlots.filter (fun i => decide ((b.frec i).state = 2))
    execFaultAck t h 0xFFFF s = .next (settle
      ((l.foldl (fun s i => closeRec i s) b).answer 0x0402 h { status := stOk, detail := l.length })) := by
  refine done_served hb hs ?_ (if_pos rfl)
  simp [State.scrap_eq_false hlc, firstFail]

theorem execFaultInject_served {cls code unit window : Nat} {row : CodeRow}
    (hb : (s.begin t).taken (.faultInject t h cls code unit window) = b) (hs : b.Serves h 12 false false)
    (hrow : codeRow code = some row) (hcls : code / 256 = cls) (hunit : unitIs row.kind unit = true) (hnot : cls ≠ 0xD)
    (hw1 : 1 ≤ window) (hw2 : window ≤ 3600000000)
    (hlc : b.life.lc = 0 ∨ b.life.lc = 1 ∨ b.life.lc = 3 ∨ (b.life.lc = 2 ∧ b.life.service = true))
    (hroom : b.findRec ⟨code, unit, none, false, none, 0⟩ (fun _ => true) ≠ none ∨
      (b.p1 pModRm8FaultMode 0 = 1 ∧ b.oldestOf cls ≠ none) ∨ b.freeSlot ≠ none) :
    let spared := tileSpared b code unit
    let o : Occ := ⟨code, unit, if code = fTileFail ∧ ¬ spared then some 3 else none, false, none, 0⟩
    let s1 := occur o (some (b.time.lt + window * 1000)) b
    let slot := match s1.findRec o (fun _ => true) with
      | some i => i
      | none => (match s1.oldestOf cls with | some i => i | none => s1.flt.newest)
    execFaultInject t h cls code unit window s = .next (settle
      ((if spared then maskByRecord (tileIdx (unit - 0x60)) (some slot) s1 else s1).answer 0x0403 h (okRsp (toLE 2 slot)))) := by
  subst hcls
  refine done_served hb hs ?_ rfl
  have hfull : (!(b.findRec ⟨code, unit, none, false, none, 0⟩ (fun _ => true)).isSome &&
      !(decide (b.p1 pModRm8FaultMode 0 = 1) && (b.oldestOf (code / 256)).isSome) && b.freeSlot.isNone) = false := by
    rw [Bool.eq_false_iff]
    simpa [Option.isSome_iff_ne_none, ← or_assoc, imp_iff_not_or, not_or] using hroom
  have hwin : ¬ (window < 1 ∨ 3600000000 < window) := by omega
  simp only [hrow, hunit, hlc, decide_eq_false hwin, decide_eq_false hnot, hfull, firstFail]
  simp

end

/-- Settles O21, from what each of the three requests does to the records it names. -/
theorem faultRequestsComplete : Obligations.FaultRequestsComplete :=
  ⟨fun _ _ _ _ _ _ => execFaultRead_served, fun _ _ _ _ _ => execFaultRead_newest_served, fun _ _ _ _ _ => execFaultAck_latched_served,
    fun _ _ _ _ _ => execFaultAck_active_served, fun _ _ _ _ => execFaultAck_all_served, fun _ _ _ _ _ _ _ _ _ => execFaultInject_served⟩

end Sys2Proof.Machine
end

section
/-! SUPPORT. Requests of the recorder, of time and of the fabric that pass their checks (R348, R354, R357, R388, R397-R399, R402, R438,
R541, R556, R557). -/

namespace Sys2Proof.Machine

section
variable {s b : State} {t : Nat} {h : Hdr}

/-! ### Acquisition, recorder and replay -/

theorem execTraceArm_start_served (hb : (s.begin t).taken (.traceArm t h 1) = b) (hs : b.Serves h 1 false false) (hlc : b.life.lc ≠ 4)
    (hcyc : b.cyc.cycling = true) (hacq : b.acq.armed = false) :
    execTraceArm t h 1 s = .next (settle ({ b with acq := ({ armed := true, armedAt := b.ft } : AcqState) }.answer 0x0502 h (okRsp []))) := by
  refine done_served hb hs ?_ rfl
  simp [State.scrap_eq_false hlc, hcyc, hacq, firstFail]

theorem execTraceArm_end_served (hb : (s.begin t).taken (.traceArm t h 0) = b) (hs : b.Serves h 1 false false) (hlc : b.life.lc ≠ 4) :
    execTraceArm t h 0 s = .next (settle ((acqEnd 1 b).answer 0x0502 h (okRsp []))) := by
  refine done_served hb hs ?_ rfl
  simp [State.scrap_eq_false hlc, firstFail]

theorem execTraceRead_served {ofs : Nat} (hb : (s.begin t).taken (.traceRead t h ofs) = b) (hs : b.Serves h 1 true true) (hlc : b.life.lc ≠ 4)
    (hofs : ofs % 8 = 0) (htrig : b.acq.armed = true → b.acq.triggered = true) :
    let bytes := (((b.acq.recs.drop (ofs / 8)).take (h.length / 8)).map (fun (w : Nat) => toLE 8 (w : Int))).flatten
    execTraceRead t h ofs s = .next (settle (b.answer 0x0503 h
      { status := stOk, body := toLE 4 (bytes.length : Nat) ++ toLE 8 (b.acq.recs.length * 8 : Nat), bulk := some bytes })) := by
  refine done_served hb hs ?_ rfl
  have hdone : (b.acq.armed && !b.acq.triggered) = false := by simpa using htrig
  simp only [State.scrap_eq_false hlc, hofs, hdone, firstFail]
  rfl

theorem execRecordFreeze_run_served (hb : (s.begin t).taken (.recordFreeze t h 1) = b) (hs : b.Serves h 1 false false) (hlc : b.life.lc ≠ 4)
    (hrep : b.rcd.replay = none) :
    execRecordFreeze t h 1 s = .next (settle
      ((if b.rcd.frozen then { b with rcd := ({ upBase := b.rcd.upBase, dnBase := b.rcd.dnBase } : RcdState) } else b).answer 0x0510 h
        (okRsp (toLE 4 0 ++ toLE 4 0)))) := by
  refine done_served hb hs ?_ rfl
  simp [State.scrap_eq_false hlc, hrep, firstFail]

theorem execRecordFreeze_freeze_served (hb : (s.begin t).taken (.recordFreeze t h 0) = b) (hs : b.Serves h 1 false false)
    (hlc : b.life.lc ≠ 4) :
    execRecordFreeze t h 0 s = .next (settle
      ((if b.rcd.frozen || b.rcd.freezeDue.isSome then b
        else { b with rcd := { b.rcd with freezeDue := some (if b.cyc.cycling then 1 else 0, false) } }).answer 0x0510 h
        (okRsp (toLE 4 b.window.1 ++ toLE 4 b.window.2)))) := by
  refine done_served hb hs ?_ rfl
  simp [State.scrap_eq_false hlc, firstFail]

theorem execReplayRun_served {first cycles mask : Nat} {tile : Fin 5} {e : Nat × Nat × Nat}
    (hb : (s.begin t).taken (.replayRun t h first cycles mask) = b) (hs : b.Serves h 12 false false)
    (hlc : b.life.lc = 1 ∨ b.life.lc = 3 ∨ (b.life.lc = 2 ∧ ∀ a, (b.ax a).enabled = false)) :
    let n := if first = 0 then 0 else (extendN b.fabN first).toNat
    (first ≠ 0 → b.window.1 ≤ n ∧ n ≤ b.window.2) → b.rcd.frozen = true → b.replayTile = some tile → b.rcd.replay = none →
    b.snapFor n = some e → e.2.2 = crc32 b.tiles.image →
    let s1 := { b with rcd := { b.rcd with replay := some ⟨refOf h 0x0511, n, cycles, mask, tile⟩ } }
    execReplayRun t h first cycles mask s = .next (settle
      ((if tile.val = 4 then { s1 with tiles := { s1.tiles with checked := 7 } } else s1).answer 0x0511 h { status := stPending })) := by
  intro n hwin hfrozen htile hrep hsnap hcrc s1
  refine done_served hb hs ?_ ?_
  · have hrange : ¬ (first ≠ 0 ∧ ((extendN b.fabN first).toNat < b.window.1 ∨ b.window.2 < (extendN b.fabN first).toNat)) := by
      rintro ⟨h0, hout⟩
      have hin := hwin h0
      simp only [n, if_neg h0] at hin
      omega
    have hlife : ¬ (b.life.lc = 0 ∨ b.life.lc = 4) := by omega
    have hoff : (decide (b.life.lc = 2) && allAxes.any (fun x => (b.ax x).enabled)) = false := by
      obtain hl | hl | ⟨-, hoff⟩ := hlc
      · simp [hl]
      · simp [hl]
      · simp [hoff]
    have hsnap' : b.snapFor (if first = 0 then 0 else (extendN b.fabN first).toNat) = some e := hsnap
    simp only [decide_eq_false hrange, decide_eq_false hlife, hoff, hfrozen, htile, hsnap', hrep, hcrc, firstFail]
    simp
  · simp only [htile, Option.getD_some]
    rfl

/-! ### Time -/

/-- The UTC offset of the record in force, and whether it is valid; without a record neither. -/
def State.utcNow (s : State) : Bool × Int :=
  match s.time.nt with
  | some r => (r.utcValid, r.utcOffset)
  | none => (false, 0)

theorem execTimeGet_served (hb : (s.begin t).taken (.timeGet t h) = b) (hs : b.Serves h 0 false false) :
    execTimeGet t h s = .next (settle (b.answer 0x0601 h (okRsp (toLE 8 b.ft ++ toLE 8 (b.time.lt : Int) ++ toLE 8 (b.ntNow / secFine) ++
      toLE 4 (b.ntNow % secFine / 65536) ++ toLE 2 (b.ntNow % 65536) ++
      toLE 2 (b2n b.fab.ftValid + 2 * b2n b.ntValid + 4 * b2n b.utcNow.1 : Nat) ++ toLE 2 b.utcNow.2)))) := by
  have hflags : ∀ x y z : Bool, packBits [(1, b2n x), (1, b2n y), (1, b2n z)] = b2n x + 2 * b2n y + 4 * b2n z := by decide
  rw [← hflags]
  exact done_served hb hs rfl rfl

theorem modTq_congr {ch : Fin 4} {f g : TqChan → TqChan} (hfg : f (b.time.tq.get ch) = g (b.time.tq.get ch)) :
    b.modTq ch f = b.modTq ch g := by
  unfold State.modTq
  rw [hfg]

/-- The program that TIMED_OUTPUT gives its channel. -/
def tqProg (p : TqReq) : TqProg :=
  { once := decide (p.kind = 0), nt := decide (p.scale = 1), t0 := tqStart p, period := p.period, width := p.width,
    lowPulse := decide (p.polarity = 1), count := p.count, k := 0 }

theorem execTimedOutput_served {p : TqReq} {ch : Fin 4} {b' : State} (hb : (s.begin t).taken (.timedOutput t h p) = b)
    (hs : b.Serves h 32 false false) (hlc : b.life.lc ≠ 4) (hch : p.channel = ch.val) (hmode : b.p1 pTimeTqMode ch.val = 1)
    (hrange : firstFail (tqRange b p) = none)
    (he : (if p.kind = 2 then b.modTq ch (fun c => { c with prog := none })
      else b.modTq ch (fun c => { c with
        prog := progAt (tqProg p) (match c.pulseEnd with | some e => edgeFrom (tqProg p) (b.scaleCeil (tqProg p).nt e) | none => 0)
        pad := if c.pulseEnd.isNone then (tqProg p).lowPulse else c.pad })) = b') :
    execTimedOutput t h p s = .next (settle (b'.answer 0x0602 h (okRsp []))) := by
  have hfin : ∀ hlt : p.channel % 4 < 4, (⟨p.channel % 4, hlt⟩ : Fin 4) = ch := fun hlt => Fin.ext (by
    show p.channel % 4 = ch.val
    rw [hch, Nat.mod_eq_of_lt ch.isLt])
  unfold execTimedOutput
  simp only [hfin]
  refine done_served hb hs ?_ ?_
  · rw [firstFail_append, firstFail_append, hrange, hch]
    simp [State.scrap_eq_false hlc, hmode, firstFail, show ¬ 3 < ch.val by omega]
  · rw [← he]
    split <;> rfl

theorem execTimeAcceptJump_served {sec : Nat} (hb : (s.begin t).taken (.timeAcceptJump t h sec) = b) (hs : b.Serves h 8 false false)
    (hlc : b.life.lc ≠ 4) (hsrc : b.time.isSource = true)
    (hjump : b.time.jumpPending = true ∨ (b.p1 pTimeNtSource 0 = 2 ∧ b.ntValid = false)) :
    execTimeAcceptJump t h sec s = .next (settle ({ b with time := { b.time with jumpAccepted := b.time.jumpPending, ppsiSeconds := if b.p1 pTimeNtSource 0 = 2 then some sec else none } }.answer 0x0603 h (okRsp []))) := by
  refine done_served hb hs ?_ ?_
  · obtain hjump | ⟨hpps, hnt⟩ := hjump
    · simp [State.scrap_eq_false hlc, hsrc, hjump, firstFail]
    · simp [State.scrap_eq_false hlc, hsrc, hpps, hnt, firstFail]
  · simp

end

/-- Settles O23, from what each request does once its checks pass. -/
theorem recorderAndTimeRequestsComplete : Obligations.RecorderAndTimeRequestsComplete := by
  refine ⟨fun s b c t h hb hc hs hlc => ?_, fun s b t h ofs => execTraceRead_served, fun s b c t h hb hc hs hlc => ?_,
    fun s b t h first cycles mask tile e => execReplayRun_served, fun s b t h hb hs hnt => ?_, fun s b t h r hb hs hnt => ?_,
    fun s b t h p ch hb hs hlc hch hmode hrange => ?_, fun s b t h sec => execTimeAcceptJump_served⟩
  · have hsc : c.Serves h 1 false false := by subst hb hc; exact State.taken_serves h hs
    have hlcc : c.life.lc ≠ 4 := by subst hb hc; rwa [State.taken_life] at hlc ⊢
    exact ⟨execTraceArm_start_served hb hs hlc, execTraceArm_end_served hc hsc hlcc⟩
  · have hsc : c.Serves h 1 false false := by subst hb hc; exact State.taken_serves h hs
    have hlcc : c.life.lc ≠ 4 := by subst hb hc; rwa [State.taken_life] at hlc ⊢
    exact ⟨execRecordFreeze_run_served hb hs hlc, execRecordFreeze_freeze_served hc hsc hlcc⟩
  · have hinv : b.ntValid = false := by rw [State.ntValid, hnt]
    have hutc : b.utcNow = (false, 0) := by rw [State.utcNow, hnt]
    have hrun := execTimeGet_served hb hs
    rw [hinv, hutc] at hrun
    exact hrun
  · have hval : b.ntValid = r.valid := by rw [State.ntValid, hnt]
    have hutc : b.utcNow = (r.utcValid, r.utcOffset) := by rw [State.utcNow, hnt]
    have hrun := execTimeGet_served hb hs
    rw [hval, hutc] at hrun
    exact hrun
  · have hrun : ∀ {b'}, _ → exec (.timedOutput t h p) s = .next (settle (State.answer b' 0x0602 h (okRsp []))) :=
      execTimedOutput_served hb hs hlc hch hmode hrange
    refine ⟨fun hk => hrun (if_pos hk), fun hk hend => hrun ((if_neg hk).trans (modTq_congr ?_)),
      fun e hk hend => hrun ((if_neg hk).trans (modTq_congr ?_))⟩
    · simp only [hend]
      rfl
    · simp only [hend]
      rfl

/-! ### The fabric -/

section
variable {s b : State} {t : Nat} {h : Hdr}

theorem execFabricDiscover_served (hb : (s.begin t).taken (.fabricDiscover t h) = b) (hs : b.Serves h 0 false false) (hlc : b.life.lc ≠ 4)
    (hharb : b.isHarbour = true) (hst : b.fab.st = 4) (hstart : b.startupMode = true) (hdis : b.fab.discover = none) :
    execFabricDiscover t h s = .next (settle ((startCensus (some (refOf h 0x0701)) b).answer 0x0701 h { status := stPending })) := by
  refine done_served hb hs ?_ rfl
  simp [State.scrap_eq_false hlc, hharb, hst, hstart, hdis, firstFail]

theorem execTimetableLoad_served {body : List Byte} {r : Rsp} {b' : State} (hb : (s.begin t).taken (.timetableLoad t h body) = b)
    (hs : b.Serves h 32 true true) (hlc : b.life.lc ≠ 4) (hharb : b.isHarbour = true) (hst : b.fab.st = 4 ∨ b.fab.st = 5)
    (hload : tableBad b body = none → b.fab.ttLoad = none)
    (he : (match tableBad b body with
      | some (rule, berth) => ({ status := stCheckFailed, detail := rule, body := toLE 2 (berth : Int) }, b)
      | none => ({ status := stPending }, distribute body h.persist (some (refOf h 0x0702)) b)) = (r, b')) :
    execTimetableLoad t h body s = .next (settle (b'.answer 0x0702 h r)) := by
  refine done_served hb hs ?_ he
  have hbusy : (b.fab.ttLoad.isSome && (tableBad b body).isNone) = false := by
    rw [Bool.and_comm]
    simpa using hload
  have hst' : ¬ (b.fab.st ≠ 4 ∧ b.fab.st ≠ 5) := by omega
  simp only [State.scrap_eq_false hlc, hharb, hbusy, decide_eq_false hst', firstFail]
  rfl

theorem execTimetableSwitch_served {tt : Nat} {r : Rsp} {b' : State} (hb : (s.begin t).taken (.timetableSwitch t h tt) = b)
    (hs : b.Serves h 1 false false) (hlc : b.life.lc ≠ 4)
    (htt : (tt ≤ 7 ∧ b.lacksTable tt = false) ∨ (tt = 0xFF ∧ b.anyEnabled = false)) (hharb : b.isHarbour = true)
    (hst : b.fab.st = 4 ∨ b.fab.st = 5) (hpend : b.fab.ttPend = none)
    (he : (let to_ := if tt = 0xFF then 0xF else tt
      if b.startupMode then
        if tt = 0xFF then (okRsp [], b) else ({ status := stPending }, startSwitch tt (some (refOf h 0x0703)) b)
      else
        ({ status := stPending }, { b with fab := { b.fab with
          ttReq := some (to_, b.fabN + 1)
          ttPend := some { tt := to_, n := b.fabN + 1, members := [], acked := [], req := some (refOf h 0x0703), commit := false, startup := false, own := true } } })) = (r, b')) :
    execTimetableSwitch t h tt s = .next (settle (b'.answer 0x0703 h r)) := by
  refine done_served hb hs ?_ he
  have hst' : ¬ (b.fab.st ≠ 4 ∧ b.fab.st ≠ 5) := by omega
  have hknown : ¬ (7 < tt ∧ tt ≠ 0xFF) := by omega
  have hlacks : (decide (tt ≤ 7) && b.lacksTable tt) = false := by
    obtain ⟨-, hl⟩ | ⟨htt, -⟩ := htt
    · simp [hl]
    · simp [htt]
  have hidle : (decide (tt = 0xFF) && b.anyEnabled) = false := by
    obtain ⟨htt, -⟩ | ⟨-, hoff⟩ := htt
    · simp [show tt ≠ 255 by omega]
    · simp [hoff]
  simp only [State.scrap_eq_false hlc, hharb, hpend, hlacks, hidle, decide_eq_false hst', decide_eq_false hknown, firstFail]
  rfl

end

/-- Settles O24, from what each of the three requests does once its checks pass. -/
theorem fabricRequestsComplete : Obligations.FabricRequestsComplete := by
  refine ⟨fun s b t h => execFabricDiscover_served, fun s b t h body hb hs hlc hharb hst => ⟨fun hok hload => ?_, fun rule berth hbad => ?_⟩,
    fun s b t h tt hb hs hlc htt hharb hst hpend => ⟨fun hstart hne => ?_, fun hstart heq => ?_, fun hrun => ?_⟩⟩
  · exact execTimetableLoad_served hb hs hlc hharb hst (fun _ => hload) (by rw [hok])
  · exact execTimetableLoad_served hb hs hlc hharb hst (fun hok => absurd (hok.symm.trans hbad) (by simp)) (by rw [hbad])
  · exact execTimetableSwitch_served hb hs hlc htt hharb hst hpend ((if_pos hstart).trans (if_neg hne))
  · exact execTimetableSwitch_served hb hs hlc htt hharb hst hpend ((if_pos hstart).trans (if_pos heq))
  · exact execTimetableSwitch_served hb hs hlc htt hharb hst hpend (if_neg (Bool.eq_false_iff.mp hrun))

end Sys2Proof.Machine
end

section
/-! SUPPORT. Requests of the lifecycle, of firmware updates and of the safety configuration that pass their checks (R492, R493, R563,
R567-R571, R575). -/

namespace Sys2Proof.Machine

section
variable {s b : State} {t : Nat} {h : Hdr}

/-! ### Lifecycle -/

theorem execBistRun_served {scope : Nat} (hb : (s.begin t).taken (.bistRun t h scope) = b) (hs : b.Serves h 1 false false)
    (hscope : scope = 1 ∨ (scope = 0 ∧ b.life.lc ≠ 4 ∧ b.openState = true)) (hoff : b.anyAxisOn = false) (hrail : b.railOk = true)
    (href : b.refOk = true) (hlid : b.lidOk = true) (hpend : b.prm.pend = none) (hrep : b.rcd.replay = none)
    (htake : b.tiles.takeover = none) (hbist : b.life.bist = none) :
    execBistRun t h scope s = .next (settle
      ({ b with life := { b.life with bist := some (scope, refOf h 0x0801), bistCut := false }, cyc := { b.cyc with stopDue := b.cyc.stopDue || b.cyc.cycling } }.answer 0x0801 h { status := stPending })) := by
  refine done_served hb hs ?_ rfl
  have hlife : ((b.scrap && decide (scope ≠ 1)) || (decide (scope = 0) && !b.openState)) = false := by
    obtain h1 | ⟨h0, hlc, hopen⟩ := hscope
    · simp [h1]
    · simp [h0, State.scrap_eq_false hlc, hopen]
  have hknown : ¬ 1 < scope := by omega
  simp only [hlife, decide_eq_false hknown, hoff, hrail, href, hlid, hpend, hrep, htake, hbist, firstFail]
  rfl

theorem execLifecycleAdvance_served {target row : Nat} {body : List Byte} (hb : (s.begin t).taken (.lifecycleAdvance t h target body) = b)
    (hs : b.Serves h 1 true false) (hlc : b.life.lc ≠ 4) (hrow : transition b.life.lc target = some row)
    (hkeys : row = 0 → body.length = 100 ∧ keyBad body = none) (hauth : b.authorised row = true) (hoff : b.anyAxisOn = false)
    (hss1 : b.ss1Runs = false) (hbist : b.life.bist = none) (hupd : b.life.update = none) (hvsys : b.vsysOk = true)
    (hadv : b.life.advance = none) (hres : b.life.resetDue = none) :
    execLifecycleAdvance t h target body s = .next (settle
      ({ b with life := { b.life with advance := some (target, refOf h 0x0802, body), serviceAuth := if row = 1 then none else b.life.serviceAuth, returnAuth := if row = 2 then none else b.life.returnAuth } }.answer 0x0802 h { status := stPending })) := by
  refine done_served hb hs ?_ ?_
  · have hlen : (decide (some row = some 0) && decide (body.length ≠ 100)) = false := by
      simpa using fun h0 => (hkeys h0).1
    have hkey : (decide (some row = some 0) && (keyBad body).isSome) = false := by
      simpa using fun h0 => (hkeys h0).2
    simp only [hrow, hlen, hkey, State.scrap_eq_false hlc, Option.getD_some, hauth, hoff, hss1, hbist, hupd, hvsys, hadv, hres, firstFail]
    rfl
  · simp only [hrow, Option.some.injEq]

end

/-- Settles O25, from what each of the three requests does once its checks pass. -/
theorem lifecycleRequestsComplete : Obligations.LifecycleRequestsComplete := by
  refine ⟨fun s b t h scope => execBistRun_served, fun s b t h target row body => execLifecycleAdvance_served,
    fun s b t h body n k hb hs hlc hn hform hf => ?_⟩
  have hrun : exec (.debugResponse t h body) s =
      done ((responded b (refOf h 0x0804) k n body).2.answer 0x0804 h (responded b (refOf h 0x0804) k n body).1) :=
    execDebugResponse_served hb hs hlc hn hform hf
  refine ⟨fun hok => ?_, fun hbad => ?_⟩
  · rw [hrun, responded, if_pos hok]
    rfl
  · rw [hrun, responded, if_neg (Bool.eq_false_iff.mp hbad)]
    rfl

/-! ### Firmware updates and SAFETY_CONFIG -/

section
variable {s b : State} {t : Nat} {h : Hdr}

theorem execFwUpdateBegin_served {len version : Nat} (hb : (s.begin t).taken (.fwUpdateBegin t h len version) = b)
    (hs : b.Serves h 8 false false) (hlc : b.life.lc ≠ 4) (hlen : len ≤ 16777216) (hupd : b.life.update = none) :
    let s1 := b.setOther {}
    execFwUpdateBegin t h len version s = .next (settle
      ({ s1 with life := { s1.life with update := some (len, version, []) } }.answer 0x0810 h (okRsp []))) := by
  refine done_served hb hs ?_ rfl
  simp only [State.scrap_eq_false hlc, decide_eq_false hlen.not_gt, hupd, firstFail]
  rfl

theorem segmentFits_of_update {ofs len version : Nat} {data : List Byte} (hupd : b.life.update = some (len, version, data))
    (hofs : ofs = 0 ∨ ofs = data.length) : segmentFits b ofs = true := by
  rw [segmentFits, hupd]
  exact decide_eq_true hofs

theorem execFwUpdateData_served {ofs len version : Nat} {data body : List Byte} (hb : (s.begin t).taken (.fwUpdateData t h ofs body) = b)
    (hs : b.Serves h 4 true true) (hlc : b.life.lc ≠ 4) (hupd : b.life.update = some (len, version, data))
    (hofs : ofs = 0 ∨ ofs = data.length) :
    execFwUpdateData t h ofs body s = .next (settle
      ({ b with life := { b.life with update := some (len, version, (if ofs = 0 then [] else data) ++ body) } }.answer 0x0811 h (okRsp []))) := by
  have hfits0 : segmentFits (s.begin t) ofs = true := segmentFits_of_update (by rw [← State.taken_life, hb, hupd]) hofs
  unfold execFwUpdateData
  simp only [hfits0, not_true_eq_false, and_false, if_false]
  refine done_served hb hs ?_ ?_
  · simp [State.scrap_eq_false hlc, segmentFits_of_update hupd hofs, hupd, firstFail]
  · simp only [hupd]

theorem execFwUpdateEnd_served {activate len version : Nat} {data : List Byte} {r : Rsp} {b' : State}
    (hb : (s.begin t).taken (.fwUpdateEnd t h activate) = b) (hs : b.Serves h 1 false false) (hlc : b.life.lc ≠ 4) (hact : activate ≤ 1)
    (hupd : b.life.update = some (len, version, data))
    (he : (let s1 := b.respond (refOf h 0x0812) h.bulkOfs { status := stPending }
      let s2 := { s1 with life := { s1.life with update := none } }
      match imageCheck b len version data with
      | some st => ({ status := st }, s2)
      | none =>
        let s3 := s2.setOther { valid := true, version := imageVersion data, floor := imageFloor data, bytes := data }
        (okRsp [], if activate = 1 then { s3 with life := { s3.life with active := 1 - b.host.ident.image, newImage := true } } else s3)) = (r, b')) :
    execFwUpdateEnd t h activate s = .next (settle (b'.answer 0x0812 h r)) := by
  refine done_served hb hs ?_ ?_
  · simp only [State.scrap_eq_false hlc, decide_eq_false hact.not_gt, hupd, firstFail]
    rfl
  · simp only [hupd]
    exact he

theorem execSafetyConfig_served {body : List Byte} (hb : (s.begin t).taken (.safetyConfig t h body) = b) (hs : b.Serves h 1 true true)
    (hlc : b.life.lc ≠ 4) (hlen : h.length = 256) (hfield : b.life.lc = 2 → b.life.service = true) (hoff : ∀ a, (b.ax a).enabled = false)
    (hss1 : b.ss1Runs = false) (hcrc : getU body 12 4 = b.configCrc) (hrng : blockRange b.host.ident.uid body = none)
    (hcnd : blockConds b body = none) (hwr : b.safe.writing = none) :
    let s2 := safeEvalFrom b { b with safe := { b.safe with writing := some (body, refOf h 0x0901, b.time.lt) } }
    let bad := s2.openSlots.filter (fun i => decide ((s2.frec i).code = fConfigBad ∧ (s2.frec i).state = 1))
    execSafetyConfig t h body s = .next (settle
      ((bad.foldl (fun s i => latchRec i s.recTime.1 s) s2).answer 0x0901 h { status := stPending })) := by
  refine done_served hb hs ?_ rfl
  have hopen : (b.scrap || (decide (b.life.lc = 2) && !b.life.service)) = false := by
    simpa [State.scrap_eq_false hlc] using hfield
  have hstill : (allAxes.any (fun a => (b.ax a).enabled) || b.safe.proc.ss1.isSome || b.safe.logic.ss1.isSome) = false := by
    simpa [hoff, State.ss1Runs] using hss1
  simp only [hlen, hopen, hstill, hcrc, hrng, hcnd, hwr, firstFail]
  simp

end

/-- Settles O27, from what each of the four requests does once its checks pass. -/
theorem updateAndSafetyConfigRequestsComplete : Obligations.UpdateAndSafetyConfigRequestsComplete := by
  refine ⟨fun s b t h len version => execFwUpdateBegin_served, fun s b t h ofs len version data body => execFwUpdateData_served,
    fun s b t h activate len version data hb hs hlc hact hupd => ?_, fun s b t h body => execSafetyConfig_served⟩
  have hrun : ∀ {r b'}, _ → exec (.fwUpdateEnd t h activate) s = .next (settle (State.answer b' 0x0812 h r)) :=
    execFwUpdateEnd_served hb hs hlc hact hupd
  refine ⟨fun st _ hchk => hrun ?_, fun hchk h0 => hrun ?_, fun hchk h1 => hrun ?_⟩
  · rw [hchk]
  · rw [hchk, h0]
    rfl
  · rw [hchk, h1]
    rfl

end Sys2Proof.Machine
end

section
/-! SUPPORT. Writes of the register fields of the window, and the registers that a read clears (R406, R411, R415, R420-R422, R519, R525,
R530-R532). -/

namespace Sys2Proof.Machine

/-! ### Writing a field -/

/-- A byte at an address of a ring that is not bound to the port (R415). -/
def State.foreignAt (s : State) (p : HostPort) (a : Nat) : Bool :=
  match ringAt a with
  | some r => (s.host.rings.get r).foreign p
  | none => false

section
variable {p : HostPort} {a0 i : Nat} {bytes : List Byte} {e : State × Bool}

theorem winWriteByte_foreign (ha : a0 + i < 0x10000) (hf : e.1.foreignAt p (a0 + i) = true) : winWriteByte p a0 bytes i e = (e.1, true) := by
  unfold winWriteByte
  simp only [Nat.mod_eq_of_lt ha]
  exact if_pos hf

theorem winWriteByte_register (ha : a0 + i < 0x1000) (hf : e.1.foreignAt p (a0 + i) = false) :
    winWriteByte p a0 bytes i e =
      match fieldAt (a0 + i) with
      | some (f, len) =>
        let l := (List.range len).map (fun j => if len ≤ i + 1 + j then bytes.getD (i + 1 + j - len) 0 else winByte e.1 p e.1.host.bufIdx (f + j))
        (fieldEffect p (a0 + i) l e.1, e.2)
      | none => e := by
  have hmem : ¬ ((0x1000 ≤ a0 + i ∧ a0 + i < 0x5000) ∨ 0xC000 ≤ a0 + i) := by omega
  unfold winWriteByte
  simp only [Nat.mod_eq_of_lt (show a0 + i < 0x10000 by omega)]
  exact (if_neg (Bool.eq_false_iff.mp hf)).trans ((if_neg hmem).trans rfl)

theorem winWriteByte_quiet (ha : a0 + i < 0x1000) (hf : e.1.foreignAt p (a0 + i) = false) (hq : fieldAt (a0 + i) = none) :
    winWriteByte p a0 bytes i e = e := by
  rw [winWriteByte_register ha hf, hq]

/-- The bytes of a field before its last have no effect of their own. -/
theorem winWriteByte_range_register (s : State) {n : Nat} (ha : a0 + n ≤ 0x1000) (hf : ∀ j, j < n → s.foreignAt p (a0 + j) = false)
    (hq : ∀ j, j < n → fieldAt (a0 + j) = none) :
    (List.range n).foldl (fun e i => winWriteByte p a0 bytes i e) (s, false) = (s, false) := by
  induction n with
  | zero => rfl
  | succ n ih =>
    rw [List.range_succ, List.foldl_append, ih (by omega) (fun j hj => hf j (by omega)) (fun j hj => hq j (by omega)), List.foldl_cons,
      List.foldl_nil, winWriteByte_quiet (by omega) (hf n (by omega)) (hq n (by omega))]

end

theorem range_map_getD (bytes : List Byte) : (List.range bytes.length).map (fun j => bytes.getD j 0) = bytes := by
  refine List.ext_getElem (by simp) fun j h1 h2 => ?_
  simp [h2]

/-- A transaction that writes exactly one field has the effect of that field. -/
theorem winWrite_field {p : HostPort} {a n : Nat} {bytes : List Byte} (s : State) (hl : bytes.length = n + 1) (ha : a + n < 0x1000)
    (hf : ∀ j, j ≤ n → s.foreignAt p (a + j) = false) (hq : ∀ j, j < n → fieldAt (a + j) = none) (hlast : fieldAt (a + n) = some (a, n + 1)) :
    winWrite p a bytes s = fieldEffect p (a + n) bytes s := by
  have hbytes : (List.range (n + 1)).map (fun j => if n + 1 ≤ n + 1 + j then bytes.getD (n + 1 + j - (n + 1)) 0
      else winByte s p s.host.bufIdx (a + j)) = bytes := by
    simp only [Nat.le_add_right, if_true, Nat.add_sub_cancel_left, ← hl, range_map_getD]
  unfold winWrite
  rw [hl, List.range_succ, List.foldl_append, winWriteByte_range_register s (by omega) (fun j hj => hf j (by omega)) hq, List.foldl_cons,
    List.foldl_nil, winWriteByte_register ha (hf n le_rfl), hlast]
  simp only [hbytes, Bool.false_eq_true, if_false]

/-- Outside the rings no byte is foreign. -/
theorem State.foreignAt_none {a : Nat} (s : State) (p : HostPort) (h : ringAt a = none) : s.foreignAt p a = false := by
  rw [State.foreignAt, h]

/-! ### Ring indices -/

theorem ringAt_reqProd (i : Fin 4) {j : Nat} (hj : j ≤ 1) : ringAt (0x410 + 16 * i.val + j) = some i := by
  obtain rfl | rfl : j = 0 ∨ j = 1 := by omega
  all_goals revert i; decide

theorem ringAt_rspCons (i : Fin 4) {j : Nat} (hj : j ≤ 1) : ringAt (0x416 + 16 * i.val + j) = some i := by
  obtain rfl | rfl : j = 0 ∨ j = 1 := by omega
  all_goals revert i; decide

section
variable {s : State} {p : HostPort} {i : Fin 4}

theorem State.foreignAt_ring {a : Nat} (h : ringAt a = some i) : s.foreignAt p a = (s.host.rings.get i).foreign p := by
  rw [State.foreignAt, h]

/-- A ring without a port, or with this one, is not foreign. -/
theorem Ring.foreign_eq_false {r : Ring} (h : r.port = 0 ∨ r.port = portCode p) : r.foreign p = false :=
  decide_eq_false fun ⟨h0, hp⟩ => h.elim h0 hp

theorem ofNat_ofLE_toLE_two (v : Word16) : BitVec.ofNat 16 (ofLE (toLE 2 (v.toNat : Int))) = v := by
  rw [ofLE_toLE_nat v.isLt, BitVec.ofNat_toNat, BitVec.setWidth_eq]

theorem fieldAt_ring_first : ∀ i : Fin 4, fieldAt (0x410 + 16 * i.val) = none ∧ fieldAt (0x416 + 16 * i.val) = none := by
  decide

theorem fieldAt_ring_last : ∀ i : Fin 4, fieldAt (0x410 + 16 * i.val + 1) = some (0x410 + 16 * i.val, 2) ∧
    fieldAt (0x416 + 16 * i.val + 1) = some (0x416 + 16 * i.val, 2) := by
  decide

theorem fieldEffect_reqProd (l : List Byte) : fieldEffect p (0x410 + 16 * i.val + 1) l s = writeReqProd p i (BitVec.ofNat 16 (ofLE l)) s := by
  fin_cases i <;> rfl

theorem fieldEffect_rspCons (l : List Byte) : fieldEffect p (0x416 + 16 * i.val + 1) l s = writeRspCons i (BitVec.ofNat 16 (ofLE l)) s := by
  fin_cases i <;> rfl

theorem winWrite_reqProd (v : Word16) (hown : (s.host.rings.get i).port = 0 ∨ (s.host.rings.get i).port = portCode p) :
    winWrite p (0x410 + 16 * i.val) (toLE 2 (v.toNat : Int)) s = writeReqProd p i v s := by
  have hf : ∀ j, j ≤ 1 → s.foreignAt p (0x410 + 16 * i.val + j) = false := fun j hj =>
    (State.foreignAt_ring (ringAt_reqProd i hj)).trans (Ring.foreign_eq_false hown)
  rw [winWrite_field (n := 1) (bytes := toLE 2 (v.toNat : Int)) s (toLE_length ..) (by omega) hf
    (fun j hj => by rw [Nat.lt_one_iff.mp hj]; exact (fieldAt_ring_first i).1) (fieldAt_ring_last i).1, fieldEffect_reqProd, ofNat_ofLE_toLE_two]

theorem winWrite_rspCons (v : Word16) (hown : (s.host.rings.get i).port = 0 ∨ (s.host.rings.get i).port = portCode p) :
    winWrite p (0x416 + 16 * i.val) (toLE 2 (v.toNat : Int)) s = writeRspCons i v s := by
  have hf : ∀ j, j ≤ 1 → s.foreignAt p (0x416 + 16 * i.val + j) = false := fun j hj =>
    (State.foreignAt_ring (ringAt_rspCons i hj)).trans (Ring.foreign_eq_false hown)
  rw [winWrite_field (n := 1) (bytes := toLE 2 (v.toNat : Int)) s (toLE_length ..) (by omega) hf
    (fun j hj => by rw [Nat.lt_one_iff.mp hj]; exact (fieldAt_ring_first i).2) (fieldAt_ring_last i).2, fieldEffect_rspCons, ofNat_ofLE_toLE_two]

theorem ringAt_evtCons : ∀ j, j ≤ 1 → ringAt (0x452 + j) = none := by
  decide

theorem winWrite_evtCons (v : Word16) : winWrite p 0x452 (toLE 2 (v.toNat : Int)) s = writeEvtCons v s := by
  rw [winWrite_field (n := 1) (bytes := toLE 2 (v.toNat : Int)) s (toLE_length ..) (by decide)
    (fun j hj => s.foreignAt_none p (ringAt_evtCons j hj)) (fun j hj => by rw [Nat.lt_one_iff.mp hj]; rfl) rfl]
  exact congrArg (writeEvtCons · s) (ofNat_ofLE_toLE_two v)

/-- Writes that R415 ignores, byte by byte, count once. -/
theorem winWrite_foreign {a : Nat} {b0 b1 : Byte} (ha : a + 1 < 0x10000) (hf : ∀ j, j ≤ 1 → s.foreignAt p (a + j) = true) :
    winWrite p a [b0, b1] s = { s with host := { s.host with ignored := incSat 16 s.host.ignored } } := by
  have h0 : winWriteByte p a [b0, b1] 0 (s, false) = (s, true) := winWriteByte_foreign (by omega) (hf 0 (by omega))
  have h1 : winWriteByte p a [b0, b1] 1 (s, true) = (s, true) := winWriteByte_foreign ha (hf 1 le_rfl)
  have hfold : (List.range 2).foldl (fun e i => winWriteByte p a [b0, b1] i e) (s, false) = (s, true) :=
    (congrArg (winWriteByte p a [b0, b1] 1) h0).trans h1
  unfold winWrite
  rw [show [b0, b1].length = 2 from rfl, hfold]
  rfl

theorem winWrite_foreign_two {a : Nat} (v : Word16) (ha : a + 1 < 0x10000) (hf : ∀ j, j ≤ 1 → s.foreignAt p (a + j) = true) :
    winWrite p a (toLE 2 (v.toNat : Int)) s = { s with host := { s.host with ignored := incSat 16 s.host.ignored } } :=
  winWrite_foreign ha hf

theorem State.modRing_self {f : Ring → Ring} (h : f (s.host.rings.get i) = s.host.rings.get i) : s.modRing i f = s := by
  have hset : s.host.rings.set i.val (s.host.rings.get i) i.isLt = s.host.rings := Vector.set_getElem_self i.isLt
  rw [State.modRing, h, hset]

theorem State.modRing_congr {f g : Ring → Ring} (h : f (s.host.rings.get i) = g (s.host.rings.get i)) : s.modRing i f = s.modRing i g := by
  rw [State.modRing, h, State.modRing]

/-- A write of REQ_PROD binds an unbound ring to the port, and moves the index where it fits. -/
theorem writeReqProd_eq (v : Word16) :
    let r := s.host.rings.get i
    let bound := { s with host := { s.host with hostTxn := true } }.modRing i (fun r => { r with port := if r.port = 0 then portCode p else r.port })
    writeReqProd p i v s =
      if (v - r.reqCons).toNat ≤ 64 ∧ (r.reqProd - r.reqCons).toNat ≤ (v - r.reqCons).toNat then bound.modRing i (fun r => { r with reqProd := v })
      else refuseIndex bound := by
  intro r bound
  have hbound : (if r.port = 0 then { s with host := { s.host with hostTxn := true } }.modRing i (fun r => { r with port := portCode p })
      else { s with host := { s.host with hostTxn := true } }) = bound := by
    split
    next h0 => exact State.modRing_congr (by rw [if_pos h0])
    next h0 => exact (State.modRing_self (by rw [if_neg h0])).symm
  have hr : bound.host.rings.get i = { r with port := if r.port = 0 then portCode p else r.port } := State.modRing_same ..
  unfold writeReqProd
  dsimp only
  rw [hbound, hr]

end

end Sys2Proof.Machine
end

section
/-! SUPPORT. Transactions at the two host ports: ring indices, registers, frames, and the service pass (R406-R415, R420-R429, R445, R519,
R525, R530-R532). -/

namespace Sys2Proof.Machine

section
variable {s b : State} {t : Nat} {p : HostPort} {i : Fin 4}

theorem portWrite_off (hb : s.begin t = b) (hp : b.portOn p = false) (a : Nat) (bytes : List Byte) : portWrite t p a bytes s = done b := by
  subst hb
  exact if_neg (Bool.eq_false_iff.mp hp)

/-! ### Ring indices -/

theorem execReqProdWrite_own (hb : s.begin t = b) (hp : b.portOn p = true)
    (hown : (b.host.rings.get i).port = 0 ∨ (b.host.rings.get i).port = portCode p) (v : Word16) :
    execReqProdWrite t p i v s = done (writeReqProd p i v b) :=
  (portWrite_on hb hp _ _).trans (congrArg done (winWrite_reqProd v hown))

theorem execRspConsWrite_own (hb : s.begin t = b) (hp : b.portOn p = true)
    (hown : (b.host.rings.get i).port = 0 ∨ (b.host.rings.get i).port = portCode p) (v : Word16) :
    execRspConsWrite t p i v s = done (writeRspCons i v b) :=
  (portWrite_on hb hp _ _).trans (congrArg done (winWrite_rspCons v hown))

theorem execEvtConsWrite_on (hb : s.begin t = b) (hp : b.portOn p = true) (v : Word16) :
    execEvtConsWrite t p v s = done (writeEvtCons v b) :=
  (portWrite_on hb hp _ _).trans (congrArg done (winWrite_evtCons v))

theorem Ring.foreign_of_ne {r : Ring} (h0 : r.port ≠ 0) (hp : r.port ≠ portCode p) : r.foreign p = true := decide_eq_true ⟨h0, hp⟩

end

/-- Settles O28: each index is judged against its bounds in the state that the transaction finds. -/
theorem ringIndexWritesMoveForwardOrOverrun : Obligations.RingIndexWritesMoveForwardOrOverrun := by
  refine ⟨?_, ?_, ?_⟩
  · intro s b t p i v hb hp r bound hown
    have hrun : exec (.reqProdWrite t p i v) s = done (writeReqProd p i v b) := execReqProdWrite_own hb hp hown v
    rw [hrun, writeReqProd_eq]
    exact ⟨fun hle hge => congrArg done (if_pos ⟨hle, hge⟩), fun hbad => congrArg done (if_neg fun ⟨hle, hge⟩ =>
      hbad.elim hle.not_gt hge.not_gt)⟩
  · intro s b t p i v hb hp r hown
    have hrun : exec (.rspConsWrite t p i v) s = done (writeRspCons i v b) := execRspConsWrite_own hb hp hown v
    rw [hrun]
    exact ⟨fun hle => congrArg done (if_pos hle), fun hgt => congrArg done (if_neg hgt.not_ge)⟩
  · intro s b t p v hb hp
    have hrun : exec (.evtConsWrite t p v) s = done (writeEvtCons v b) := execEvtConsWrite_on hb hp v
    rw [hrun]
    exact ⟨fun hle => congrArg done (if_pos hle), fun hgt => congrArg done (if_neg hgt.not_ge)⟩

/-- Settles O29: every byte that a foreign port writes to a ring is ignored, and a closed port carries out nothing. -/
theorem foreignAndClosedPortsTakeNothing : Obligations.ForeignAndClosedPortsTakeNothing := by
  refine ⟨fun s b t p i v hb hp h0 hport => ?_, fun s b t p i v addr bytes f hb hp => ?_⟩
  · have hf : ∀ {a}, ringAt a = some i → b.foreignAt p a = true := fun ha => (State.foreignAt_ring ha).trans (Ring.foreign_of_ne h0 hport)
    refine ⟨(portWrite_on hb hp _ _).trans (congrArg done ?_), (portWrite_on hb hp _ _).trans (congrArg done ?_)⟩
    · exact winWrite_foreign_two v (by omega) fun j hj => hf (ringAt_reqProd i hj)
    · exact winWrite_foreign_two v (by omega) fun j hj => hf (ringAt_rspCons i hj)
  · refine ⟨portWrite_off hb hp _ _, portWrite_off hb hp _ _, ?_, fun heth => ?_⟩
    · subst hb
      exact if_neg (Bool.eq_false_iff.mp hp)
    · subst hb heth
      exact ⟨if_neg (Bool.eq_false_iff.mp hp), if_neg (Bool.eq_false_iff.mp hp)⟩

/-! ### Registers that a write changes -/

section
variable {s : State} {p : HostPort}

theorem ringAt_heartbeat : ∀ j, j ≤ 3 → ringAt (0x40C + j) = none := by
  decide

theorem fieldAt_heartbeat : ∀ j, j < 3 → fieldAt (0x40C + j) = none := by
  decide

theorem winWrite_heartbeat (v : Word32) : winWrite p 0x40C (toLE 4 (v.toNat : Int)) s = restartWd s := by
  rw [winWrite_field (n := 3) (bytes := toLE 4 (v.toNat : Int)) s (toLE_length ..) (by decide)
    (fun j hj => s.foreignAt_none p (ringAt_heartbeat j hj)) fieldAt_heartbeat rfl]
  rfl

theorem ringAt_fldOut : ∀ j, j ≤ 3 → ringAt (0x480 + j) = none := by
  decide

theorem winWrite_objStat (v : Byte) : winWrite p 0x540 [v] s = writeObjStat (selCh (s.selOf p)) (s.selOf p % 128) v.toNat s := by
  rw [winWrite_field (n := 0) s rfl (by decide) (fun j hj => s.foreignAt_none p (by rw [Nat.le_zero.mp hj]; decide))
    (fun j hj => absurd hj (Nat.not_lt_zero j)) rfl]
  rfl

/-- The first byte of FLD_OUT has an effect of its own; the last writes the whole field. -/
theorem winWrite_fldOut (v : Word32) : winWrite p 0x480 (toLE 4 (v.toNat : Int)) s = { s with fld := { s.fld with cmd := v.toNat } } := by
  have hf : ∀ (s : State) j, j ≤ 3 → s.foreignAt p (0x480 + j) = false := fun s j hj => s.foreignAt_none p (ringAt_fldOut j hj)
  have hv : ofLE (toLE 4 (v.toNat : Int)) = v.toNat := ofLE_toLE_nat v.isLt
  have hfold : (List.range 4).foldl (fun e i => winWriteByte p 0x480 (toLE 4 (v.toNat : Int)) i e) (s, false) =
      ({ s with fld := { s.fld with cmd := ofLE (toLE 4 (v.toNat : Int)) } }, false) := by
    have h0 : ∃ c, winWriteByte p 0x480 (toLE 4 (v.toNat : Int)) 0 (s, false) = ({ s with fld := { s.fld with cmd := c } }, false) :=
      ⟨_, winWriteByte_register (e := (s, false)) (by decide) (hf s 0 (by decide))⟩
    obtain ⟨c, h0⟩ := h0
    show winWriteByte p 0x480 _ 3 (winWriteByte p 0x480 _ 2 (winWriteByte p 0x480 _ 1 (winWriteByte p 0x480 _ 0 (s, false)))) = _
    rw [h0, winWriteByte_quiet (by decide) (hf _ 1 (by decide)) rfl, winWriteByte_quiet (by decide) (hf _ 2 (by decide)) rfl]
    exact winWriteByte_register (by decide) (hf _ 3 le_rfl)
  unfold winWrite
  rw [toLE_length, hfold, hv]
  rfl

end

theorem restartWd_of_silent {s : State} (h : s.host.silent = true) :
    restartWd s = ({ s with host := { s.host with lastBeat := s.time.lt, silent := false } }).clearCond fHostSilent 0xFF := if_pos h

theorem restartWd_of_beating {s : State} (h : s.host.silent = false) : restartWd s = { s with host := { s.host with lastBeat := s.time.lt } } := by
  unfold restartWd
  rw [if_neg (Bool.eq_false_iff.mp h), ← h]

/-- Settles O30, from the field that each register's write completes, and from the host watchdog's condition. -/
theorem registerWritesTakeEffect : Obligations.RegisterWritesTakeEffect := by
  refine ⟨?_, ?_, ?_, ?_⟩
  · intro s b t p v hb hp
    have hbeat : exec (.heartbeatWrite t p v) s = done (restartWd b) := (portWrite_on hb hp _ _).trans (congrArg done (winWrite_heartbeat v))
    rw [hbeat]
    exact ⟨fun hs => congrArg done (restartWd_of_beating hs), fun hs => congrArg done (restartWd_of_silent hs),
      (portWrite_on hb hp _ _).trans (congrArg done (winWrite_fldOut v))⟩
  · intro s b t p v hb hp c o s1
    have hrun : exec (.objStatClear t p v) s = done (writeObjStat c o v.toNat b) :=
      (portWrite_on hb hp _ _).trans (congrArg done (winWrite_objStat v))
    rw [hrun]
    refine ⟨fun hres hbit => congrArg done ?_, fun hres => congrArg done (if_pos hres)⟩
    exact (if_neg (Bool.eq_false_iff.mp hres)).trans (if_neg fun h => Bool.eq_false_iff.mp hbit h.1)
  · intro s b t p hb hp c o hres hkind
    refine (portWrite_on hb hp _ _).trans (congrArg done ((winWrite_objStat _).trans ?_))
    have hsame : (fun x : CanObj => { x with new := x.new && !bitOf 4 0, ovr := x.ovr && !bitOf 4 1, txDone := x.txDone && !bitOf 4 4, txFail := x.txFail && !bitOf 4 5 }) =
        fun x => x := by
      funext x
      simp only [show bitOf 4 0 = false from rfl, show bitOf 4 1 = false from rfl, show bitOf 4 4 = false from rfl,
        show bitOf 4 5 = false from rfl, Bool.not_false, Bool.and_true]
    refine (if_neg (Bool.eq_false_iff.mp hres)).trans ((if_pos ⟨rfl, hkind⟩).trans ?_)
    exact congrArg (fun f => canTxReq c o (b.modObj c o f)) hsame
  · intro s b t hb
    subst hb
    refine ⟨fun hwd hs hlt => if_pos ⟨hwd, Bool.eq_false_iff.mp hs, hlt⟩, fun hno => if_neg fun ⟨hwd, hs, hlt⟩ => ?_⟩
    exact hno.elim hwd fun h => h.elim hs hlt.not_gt

/-! ### Registers that a read clears -/

section
variable {s b : State} {t : Nat} {p : HostPort}

theorem portRead_on (hb : s.begin t = b) (hp : b.portOn p = true) (a n : Nat) :
    portRead t p a n s = done { clearOnRead a n b with out := { (clearOnRead a n b).out with qspi := winBytes b p a n } } := by
  subst hb
  exact if_pos hp

/-- The bytes of a register that a port reads. -/
theorem winBytes_register {a n v : Nat} (ha : 0x400 ≤ a) (he : a + n ≤ 0x800) (hreg : ∀ i, i < n → ctrlByte b p (a + i) = byteOf v i) :
    winBytes b p a n = (List.range n).map (byteOf v) := by
  refine List.map_congr_left fun i hi => ?_
  have hin := List.mem_range.mp hi
  rw [Nat.mod_eq_of_lt (by omega), winByte, if_neg (by omega), if_pos (by omega), hreg i hin]

theorem ctrlByte_evt {i : Nat} (hi : i < 8) : ctrlByte b p (0x450 + i) = byteOf (evtReg b) i := by
  interval_cases i <;> rfl

theorem ctrlByte_hostErr {i : Nat} (hi : i < 8) : ctrlByte b p (0x458 + i) = byteOf (hostErrReg b) i := by
  interval_cases i <;> rfl

theorem ctrlByte_fldCnt {i : Nat} (hi : i < 4) : ctrlByte b p (0x490 + i) = byteOf b.fldCntReg i := by
  interval_cases i <;> rfl

theorem ctrlByte_canStat (c : Fin 2) {i : Nat} (hi : i < 8) : ctrlByte b p (0x508 + 8 * c.val + i) = byteOf (b.canStat c) i := by
  fin_cases c <;> interval_cases i <;> rfl

theorem clearOnRead_canStat (c : Fin 2) : clearOnRead (0x508 + 8 * c.val) 8 b = b.modCan c (fun x => { x with unmatched := 0, busOffs := 0 }) := by
  have hset : ∀ c : Fin 2, (b.modCan c (fun x => { x with unmatched := 0 })).modCan c (fun x => { x with busOffs := 0 }) =
      b.modCan c (fun x => { x with unmatched := 0, busOffs := 0 }) := fun c => by
    rw [State.modCan, State.modCan_same]
    simp only [State.modCan, Vector.set_set]
  fin_cases c
  · exact hset 0
  · exact hset 1

end

/-- Settles O31, from the bytes of each register and the fields that a read of it touches. -/
theorem clearOnReadRegisters : Obligations.ClearOnReadRegisters := by
  intro s b t p ch hb hp
  refine ⟨(portRead_on hb hp _ _).trans ?_, (portRead_on hb hp _ _).trans ?_, (portRead_on hb hp _ _).trans ?_, (portRead_on hb hp _ _).trans ?_⟩
  · rw [winBytes_register (by decide) (by decide) fun i => ctrlByte_evt]
    rfl
  · rw [winBytes_register (by decide) (by decide) fun i => ctrlByte_hostErr]
    rfl
  · rw [winBytes_register (by decide) (by decide) fun i => ctrlByte_fldCnt]
    rfl
  · rw [winBytes_register (by omega) (by omega) fun i => ctrlByte_canStat ch, clearOnRead_canStat]
    rfl

/-! ### Frames and transactions -/

section
variable {s b : State} {t : Nat}

theorem ethWindow_bad {f : EthFrame} {r : Nat} (s : State) (hbad : ethBad f = some r) :
    ethWindow f s = { s with out := { s.out with eth := s.out.eth ++ [⟨f.src, 1, 6, f.seq, f.addr, r, []⟩] } } := by
  unfold ethWindow
  rw [hbad]

/-- A byte that the fast command reads. -/
def fastByteAt (b : State) (a : Nat) : Byte := if a < 0x400 then fastByte (b.host.bufs.get b.host.bufIdx) a else 0

theorem fastByteAt_within {a n : Nat} (b : State) (he : a + n ≤ 0x400) : (List.range n).map (fun i => fastByteAt b (a + i)) =
    (List.range n).map (fun i => fastByte (b.host.bufs.get b.host.bufIdx) (a + i)) :=
  List.map_congr_left fun i hi => if_pos (by have := List.mem_range.mp hi; omega)

theorem fastByteAt_beyond {a : Nat} (b : State) (n : Nat) (ha : 0x400 ≤ a) :
    (List.range n).map (fun i => fastByteAt b (a + i)) = List.replicate n 0 := by
  have hzero : ∀ i ∈ List.range n, fastByteAt b (a + i) = 0 := fun i _ => if_neg (by omega)
  rw [List.map_congr_left hzero, List.map_const', List.length_range]

theorem execQspiFast_on {addr : Word16} {n until_ : Nat} (hb : s.begin t = b) (hp : b.portOn .qspi = true) (he : addr.toNat + n ≤ 0x10000) :
    execQspiFast t addr n until_ s = done { b with
      host := { b.host with held := some (b.host.bufIdx, until_) }
      out := { b.out with qspi := (List.range n).map (fun i => fastByteAt b (addr.toNat + i)) } } := by
  subst hb
  have hbytes : (List.range n).map (fun i => fastByteAt (s.begin t) ((addr.toNat + i) % 0x10000)) =
      (List.range n).map (fun i => fastByteAt (s.begin t) (addr.toNat + i)) :=
    List.map_congr_left fun i hi => by rw [Nat.mod_eq_of_lt (by have := List.mem_range.mp hi; omega)]
  rw [← hbytes]
  exact if_pos hp

end

/-- Settles O33, case by case of what a port takes. -/
theorem framesAndTransactionsOfTheTwoPorts : Obligations.FramesAndTransactionsOfTheTwoPorts := by
  refine ⟨?_, ?_, ?_, ?_, ?_, ?_⟩
  · intro s b t f r hb hp hbad
    subst hb
    exact ⟨(if_pos hp).trans (congrArg done (ethWindow_bad _ hbad)), (if_pos hp).trans (congrArg done (ethWindow_bad _ hbad))⟩
  · intro s b t f hb hp hnot
    subst hb
    exact if_pos ⟨hp, decide_eq_false hnot⟩
  · intro s b t addr n until_ hb hp he
    refine (execQspiFast_on hb hp (by omega)).trans ?_
    rw [fastByteAt_within b he]
    rfl
  · intro s b t addr n until_ hb hp ha he
    refine (execQspiFast_on hb hp he).trans ?_
    rw [fastByteAt_beyond b n ha]
    rfl
  · intro s b t cmd hb
    subst hb
    rfl
  · intro s b t up hb hne hmode
    subst hb
    exact (if_neg hne).trans ((if_neg hmode).trans rfl)

/-! ### The service pass -/

section
variable {s b : State} {t : Nat} {errs : List MemErr}

theorem unknownOp_of_not_mem {opc : Nat} (h : Hdr) (p : List Byte) (s : State) (hop : opc ∉
    [0x0101, 0x0102, 0x0103, 0x0110, 0x0111, 0x0112, 0x0201, 0x0202, 0x0203, 0x0210, 0x0211, 0x0212, 0x0213, 0x0214, 0x0220, 0x0230,
      0x0301, 0x0302, 0x0303, 0x0304, 0x0401, 0x0402, 0x0403, 0x0501, 0x0502, 0x0503, 0x0510, 0x0511, 0x0601, 0x0602, 0x0603] ++
    [0x0701, 0x0702, 0x0703, 0x0801, 0x0802, 0x0803, 0x0804, 0x0810, 0x0811, 0x0812, 0x0901]) :
    runRequest opc t h p s = unknownOp opc t h p s := by
  simp only [List.cons_append, List.nil_append, List.mem_cons, List.not_mem_nil, or_false, not_or] at hop
  simp only [runRequest, hop, if_false]

theorem execMailboxServicePass_remote {m : RemoteReq} (hb : memErrors errs (s.begin t) = b) (hh : b.host.hostState = 2)
    (hm : b.remoteFirst = some m) : execMailboxServicePass ⟨t, errs⟩ s = runRemote t m b := by
  subst hb
  unfold execMailboxServicePass
  simp only [hh, if_true, hm]

theorem execMailboxServicePass_ring {i : Fin 4} (hb : memErrors errs (s.begin t) = b) (hh : b.host.hostState = 2)
    (hm : b.remoteFirst = none) (hr : b.nextRing = some i) :
    let e := memReadN b.host.mem (0x1000 + 0x1000 * i.val + 64 * ((b.host.rings.get i).reqCons.toNat % 64)) 64
    execMailboxServicePass ⟨t, errs⟩ s = runRequest (getU e 0 2) t (entryHdr i none e) (b.entryPayload (entryHdr i none e) e)
      (b.modRing i (fun r => { r with reqCons := r.reqCons + 1 })) := by
  subst hb
  unfold execMailboxServicePass
  simp only [hh, if_true, hm, hr]

end

/-- Settles O34, from what the pass takes first and from what a request's opcode leads to. -/
theorem servicePassRunsTheOldestRequest : Obligations.ServicePassRunsTheOldestRequest := by
  unfold Obligations.ServicePassRunsTheOldestRequest
  intro ops
  refine ⟨?_, ?_, ?_⟩
  · intro s b t errs m hb hh hm
    exact execMailboxServicePass_remote hb hh hm
  · intro s b t errs i hb hh hm hr r e h taken
    have hrun : exec (.mailboxServicePass ⟨t, errs⟩) s = runRequest (getU e 0 2) t h (b.entryPayload h e) taken :=
      execMailboxServicePass_ring hb hh hm hr
    refine ⟨hrun, ?_, fun hop htake => ?_⟩
    · obtain ⟨s', hs'⟩ := runRequest_ends (getU e 0 2) t h (b.entryPayload h e) taken
      exact ⟨settle s', hrun.trans hs', hs'⟩
    · exact hrun.trans ((unknownOp_of_not_mem h _ taken hop).trans (if_pos htake))
  · intro s t errs hno
    show execMailboxServicePass ⟨t, errs⟩ s = _
    unfold execMailboxServicePass
    dsimp only
    obtain hh | ⟨hm, hr⟩ := hno
    · rw [if_neg hh]
      rfl
    · rw [hm, hr]
      exact ite_self _

end Sys2Proof.Machine
end

section
/-! SUPPORT. What a new control cycle and the stop of cycling leave of the cycle's state (R30, R33, R40, R48, R50). -/

namespace Sys2Proof.Machine

/-- What every step of a fold keeps, the fold keeps. -/
theorem foldl_keeps {β γ : Type} (π : State → γ) {f : State → β → State} (hf : ∀ s x, π (f s x) = π s) (l : List β) (s : State) :
    π (l.foldl f s) = π s := by
  induction l generalizing s with
  | nil => rfl
  | cons x r ih => exact (ih (f s x)).trans (hf s x)

theorem forAxes_keeps {γ : Type} (π : State → γ) {f : AxisId → State → State} (hf : ∀ a s, π (f a s) = π s) (l : List AxisId) (s : State) :
    π (forAxes l f s) = π s :=
  foldl_keeps π (fun s a => hf a s) l s

/-! ### Operations that leave the cycle alone -/

theorem finish?_cyc (s : State) (q : Option ReqRef) (r : Rsp) : (s.finish? q r).cyc = s.cyc := by
  cases q with
  | none => rfl
  | some q => exact s.finish_cyc q r

theorem setLink_cyc (a : AxisId) (st : LinkState) (s : State) : (setLink a st s).cyc = s.cyc := by
  unfold setLink
  split
  · rfl
  · exact State.postEvent_cyc ..

theorem gearOff_cyc (a : AxisId) (s : State) : (gearOff a s).cyc = s.cyc := by
  unfold gearOff
  dsimp only
  split
  · exact finish?_cyc ..
  · rfl

theorem setMode_cyc (a : AxisId) (m : Nat) (s : State) : (setMode a m s).cyc = s.cyc := by
  unfold setMode
  dsimp only
  split <;> split <;> rfl

theorem switchDisabled_cyc (a : AxisId) (s : State) : (switchDisabled a s).cyc = s.cyc := by
  unfold switchDisabled
  split
  · rfl
  · split
    · rfl
    · rw [State.modAxis_cyc, setMode_cyc, gearOff_cyc, finish?_cyc]

theorem evalDi_cyc (src : Nat) (level : Bool) (edge : Option Int) (s : State) : (evalDi src level edge s).cyc = s.cyc := by
  refine forAxes_keeps State.cyc (fun a s => foldl_keeps State.cyc (fun s k => ?_) allSw s) allAxes s
  split <;> rfl

theorem refreshTiles_cyc (s : State) : (refreshTiles s).cyc = s.cyc := by
  refine foldl_keeps State.cyc (fun s i => ?_) _ s
  rfl

theorem profDomain_cyc (s : State) : (profDomain s).cyc = s.cyc := by
  unfold profDomain
  dsimp only
  (repeat' split) <;> rfl

theorem tileDomains_cyc (s : State) : (tileDomains s).cyc = s.cyc := by
  unfold tileDomains
  dsimp only
  rw [refreshTiles_cyc, profDomain_cyc, foldl_keeps State.cyc, profDomain_cyc]
  intro s i
  (repeat' split) <;> rfl

theorem cycleParams_cyc (s : State) : (cycleParams s).cyc = s.cyc := by
  refine foldl_keeps State.cyc (fun s e => ?_) _ s
  rfl

theorem linksAtStart_cyc (s : State) : (linksAtStart s).cyc = s.cyc := by
  refine forAxes_keeps State.cyc (fun a s => ?_) allAxes s
  dsimp only
  split
  · rfl
  · split
    · exact setLink_cyc ..
    · rfl

theorem inputsAtStart_cyc (s : State) : (inputsAtStart s).cyc = s.cyc := by
  refine (foldl_keeps State.cyc (fun s i => ?_) _ _).trans rfl
  dsimp only
  split
  · exact evalDi_cyc ..
  · rfl

theorem freezeCount_cyc (s : State) : (freezeCount s).cyc = s.cyc := rfl

theorem beginCycle_cyc (n k : Nat) (priming : Bool) (s : State) : (beginCycle n k priming s).cyc = (newCycle n k priming s).cyc := by
  unfold beginCycle
  dsimp only
  rw [tileDomains_cyc, forAxes_keeps State.cyc switchDisabled_cyc]
  rw [freezeCount_cyc, inputsAtStart_cyc, cycleParams_cyc, linksAtStart_cyc]

/-! ### The end of cycling -/

theorem unmaskTile_cyc (i : Fin 5) (s : State) : (unmaskTile i s).cyc = s.cyc := by
  unfold unmaskTile
  rfl

theorem unmaskCan_cyc (c : Fin 2) (s : State) : (unmaskCan c s).cyc = s.cyc := by
  unfold unmaskCan
  dsimp only
  split <;> rfl

theorem closeRec_cyc (i : Nat) (s : State) : (closeRec i s).cyc = s.cyc := by
  unfold closeRec
  extract_lets
  split
  · exact unmaskTile_cyc ..
  · split
    · exact unmaskCan_cyc ..
    · rfl

theorem latchRec_cyc (i : Nat) (t : Int) (s : State) : (latchRec i t s).cyc = s.cyc := State.postEvent_cyc ..

theorem tripClearEnds_cyc (a : AxisId) (status : Nat) (s : State) (c : TripClear) : (tripClearEnds a status s c).cyc = s.cyc := by
  unfold tripClearEnds
  dsimp only
  rw [State.finish_cyc]
  split
  · rw [closeRec_cyc, latchRec_cyc]
    rfl
  · rfl

theorem endTripClear_cyc (a : AxisId) (status : Nat) (s : State) : (endTripClear a status s).cyc = s.cyc :=
  foldl_keeps State.cyc (tripClearEnds_cyc a status) _ _

theorem acqEnd_cyc (cause : Nat) (s : State) : (acqEnd cause s).cyc = s.cyc := by
  unfold acqEnd
  dsimp only
  split
  · exact State.postEvent_cyc ..
  · rfl

theorem homeDone_cyc (a : AxisId) (s : State) : (homeDone a s).cyc = s.cyc := by
  unfold homeDone
  dsimp only
  split
  · exact finish?_cyc ..
  · rfl

theorem latchEvents_cyc (a : AxisId) (s : State) : (latchEvents a s).cyc = s.cyc := by
  refine foldl_keeps State.cyc (fun s ch => ?_) _ s
  dsimp only
  split
  · exact State.postEvent_cyc ..
  · rfl

theorem stopCycling_cyc (s : State) : (stopCycling s).cyc =
    { s.cyc with cycling := false, inPriming := false, stopDue := false, priming := none, computed := 0, posCyc := false, velCyc := false,
                 pendEnable := [] } := by
  unfold stopCycling
  dsimp only
  rw [tileDomains_cyc, cycleParams_cyc, acqEnd_cyc, forAxes_keeps State.cyc fun a s => by rw [latchEvents_cyc, homeDone_cyc, switchDisabled_cyc],
    forAxes_keeps State.cyc, foldl_keeps State.cyc fun s p => State.finish_cyc ..]
  intro a s
  split
  · rw [State.modAxis_cyc, setLink_cyc, State.modLink_cyc, endTripClear_cyc]
  · rfl

end Sys2Proof.Machine

open Sys2Proof.Machine

/-- Settles O36: after the new cycle's own values, and after those that a stop sets, nothing touches the cycle. -/
theorem beginAndStopOfCycling : Obligations.BeginAndStopOfCycling := by
  refine ⟨?_, ?_⟩
  · intro s n k priming c
    have hc : c = (newCycle n k priming s).cyc := beginCycle_cyc n k priming s
    rw [hc]
    exact ⟨rfl, rfl, rfl, rfl, rfl, rfl, rfl, rfl, decide_eq_true_iff, decide_eq_true_iff⟩
  · intro s c
    have hc : c = _ := stopCycling_cyc s
    rw [hc]
    exact ⟨rfl, rfl, rfl, rfl, rfl, rfl⟩

end

section
/-! SUPPORT. Cycle starts, the tile window and the send strobe (R30, R34-R38, R42, R48, R50, R52, R86, R610). -/

namespace Sys2Proof.Machine

/-! ### Cycle starts -/

section
variable {s b : State} {t n k m : Nat}

theorem execControlCycleStart_cycling (hb : s.begin t = b) (hn : b.nextCycle b.cyc.n b.cyc.k = (n, k)) (hc : b.cyc.cycling = true) :
    execControlCycleStart t s =
      if b.ft < b.cyc.start + b.cyc.per then done b
      else if b.stopWanted ∧ ¬ b.torqueSent then done (stopCycling b)
      else done (beginCycle n k false b) := by
  subst hb
  unfold execControlCycleStart
  rw [if_neg (not_not.mpr hc), hn]

theorem startCycling_cycling (hc : b.cyc.cycling = true) : startCycling b = b := if_pos hc

theorem startCycling_placed (hc : b.cyc.cycling = false) (hp : b.cyc.priming = none) (hok : b.canCycle = true) :
    startCycling b = { b with cyc := { b.cyc with priming := some b.primingCycle } } := by
  unfold startCycling
  rw [if_neg (Bool.eq_false_iff.mp hc), hp]
  exact if_pos hok

theorem startCycling_begins (hc : b.cyc.cycling = false) (hp : b.cyc.priming = some m) (hft : b.cycleStartFt m 0 ≤ b.ft)
    (hok : b.canCycle = true) :
    startCycling b = beginCycle m 0 true { b with cyc := { b.cyc with priming := none, computed := 0, stopDue := false } } := by
  unfold startCycling
  rw [if_neg (Bool.eq_false_iff.mp hc), hp]
  exact (if_neg hft.not_gt).trans (if_pos hok)

end

/-- Settles O35: what ends the present cycle, and what `startCycling` finds. -/
theorem cycleStartEventsComplete : Obligations.CycleStartEventsComplete := by
  intro s b t n k m hb hn
  have hrun : b.cyc.cycling = true → exec (.controlCycleStart t) s = _ := execControlCycleStart_cycling hb hn
  have hstart : exec (.cyclingStart t) s = done (startCycling b) := by subst hb; rfl
  refine ⟨fun hc hft hstop => ?_, fun hc hft hw ht => ?_, fun hc hft => ?_, fun hc => ?_, fun hc hp hok => ?_, fun hc hp hft hok => ?_, fun hc => ?_⟩
  · rw [hrun hc, if_neg hft.not_gt, if_neg fun ⟨hw, ht⟩ => hstop.elim (fun h => absurd hw (by simp [h])) ht]
    rfl
  · rw [hrun hc, if_neg hft.not_gt, if_pos ⟨hw, by simp [ht]⟩]
    rfl
  · rw [hrun hc, if_pos hft]
    rfl
  · subst hb
    exact if_pos (Bool.eq_false_iff.mp hc)
  · rw [hstart, startCycling_placed hc hp hok]
    rfl
  · rw [hstart, startCycling_begins hc hp hft hok]
    rfl
  · rw [hstart, startCycling_cycling hc]
    rfl

/-! ### The tile window -/

section
variable {s b : State} {t : Nat} {obs : TileObs}

/-- What an operation over axes gives each axis it is applied to, and takes from none, holds of every axis of its list. -/
theorem forAxes_of {P : Axis → Prop} {f : AxisId → State → State} (hset : ∀ a s, P ((f a s).ax a))
    (hkeep : ∀ a b s, P (s.ax b) → P ((f a s).ax b)) {l : List AxisId} {b : AxisId} (hb : b ∈ l) (s : State) : P ((forAxes l f s).ax b) := by
  have hrest : ∀ (l : List AxisId) (s : State), P (s.ax b) → P ((forAxes l f s).ax b) := by
    intro l
    induction l with
    | nil => exact fun s h => h
    | cons a r ih => exact fun s h => ih (f a s) (hkeep a b s h)
  induction l generalizing s with
  | nil => cases hb
  | cons a r ih =>
    rcases List.mem_cons.mp hb with rfl | hbr
    · exact hrest r (f b s) (hset b s)
    · exact ih hbr (f a s)

theorem gapEnds_offLate (s : State) (a : AxisId) : ((gapEnds s).ax a).offLate = false := by
  refine forAxes_of (P := fun x => x.offLate = false) (fun a s => ?_) (fun a b s h => ?_) (List.mem_finRange a) s
  · rw [State.modAxis_same]
  · by_cases hab : a = b
    · subst hab
      rw [State.modAxis_same]
    · rwa [State.modAxis_other _ hab]

theorem gapEnds_cyc (s : State) : (gapEnds s).cyc = s.cyc := by
  refine forAxes_keeps State.cyc (fun a s => ?_) allAxes s
  rfl

theorem refreshTiles_axes (s : State) : (refreshTiles s).axes = s.axes := by
  refine foldl_keeps State.axes (fun s i => ?_) _ s
  rfl

/-- The end of a tile window's opening: the gap ends and the window is open. -/
def windowOpened (s : State) : State := refreshTiles (gapEnds { s with cyc := { s.cyc with opened := true, liveHold := none } })

theorem windowOpened_spec (s : State) : (windowOpened s).cyc.opened = true ∧ (windowOpened s).cyc.liveHold = none ∧
    ∀ a, ((windowOpened s).ax a).offLate = false := by
  have hcyc : (windowOpened s).cyc = { s.cyc with opened := true, liveHold := none } := (refreshTiles_cyc _).trans (gapEnds_cyc _)
  refine ⟨by rw [hcyc], by rw [hcyc], fun a => ?_⟩
  rw [State.ax, windowOpened, refreshTiles_axes]
  exact gapEnds_offLate _ a

/-- What a tile window does before it counts as open (R34, R38, R48). -/
def windowWork (obs : TileObs) (b1 : State) : State :=
  let late := forAxes allAxes tripClearBuild (if b1.cyc.inPriming then b1 else loseMissing b1)
  if b1.cyc.inPriming then forAxes allAxes (fun a s => if (s.ax a).link.st = .run then offFrame a s else s) (comparePairs late)
  else
    let s2 := pickChecked (enableMove (enableDue (forAxes allAxes (fun a s => moveSwitch a (switchAxis a s)) (takeoverStep late))))
    let s4 := tilePasses (comparePairs { s2 with tiles := { s2.tiles with journal := allAxes.map (fun a => (a.val, s2.ax a)) } })
    observed obs (emuCycle { s4 with tiles := { s4.tiles with after := allAxes.map (fun a => (a.val, s4.ax a)) } })

theorem execTileWindowOpen_due (hb : s.begin t = b) (hc : b.cyc.cycling = true) (ho : b.cyc.opened = false)
    (hft : b.cyc.start + 2330 ≤ b.ft) :
    execTileWindowOpen t obs s = done (windowOpened (settle (swapLive (windowWork obs (swapLive b))))) := by
  unfold execTileWindowOpen windowOpened windowWork
  rw [hb]
  dsimp only
  rw [if_neg (by simp [hc, ho, hft])]

theorem swapLive_inPriming (s : State) : (swapLive s).cyc.inPriming = s.cyc.inPriming := by
  unfold swapLive
  split <;> rfl

/-- What the close of a tile window does before it counts as closed (R38, R42). -/
def closeWork (obs : TileObs) (b : State) : State :=
  let s1 := if b.cyc.inPriming then b else publishSnaps (closePasses (closeSwitches (closeFailures obs (closeCheck obs b))))
  let s2 := if b.cyc.posCyc ∧ b.domOn .prof then positionCycle s1 else s1
  if b.cyc.inPriming then s2 else acqSample s2

theorem execTileWindowClose_due (hb : s.begin t = b) (hc : b.cyc.cycling = true) (ho : b.cyc.opened = true) (hcl : b.cyc.closed = false)
    (hft : b.cyc.start + 2330 + b.windowNs ≤ b.ft) :
    execTileWindowClose t obs s =
      done (refreshTiles { closeWork obs b with cyc := { (closeWork obs b).cyc with closed := true } }) := by
  have hdue : ¬ (b.ft < b.tClose) := hft.not_gt
  unfold execTileWindowClose closeWork
  rw [hb]
  dsimp only
  rw [if_neg (by simp [hc, ho, hcl, hdue])]

/-! ### The send strobe -/

theorem execDownstreamSend_eq {stamps : List Nat} (hb : s.begin t = b) (hc : b.cyc.cycling = true) (hcl : b.cyc.closed = true) :
    execDownstreamSend t stamps s =
      if b.cyc.start + 2330 + b.windowNs + 110 ≤ b.ft then
        done (recordBlock (enablesLeft (forAxes allAxes (fun a s => sendFrame a (stamps.getD a.val (8 * t)) s) b)))
      else done b := by
  subst hb
  unfold execDownstreamSend
  simp only [hc, hcl, true_and]
  rfl

theorem State.withOut_ax (s : State) (o : OutBox) (a : AxisId) : ({ s with out := o } : State).ax a = s.ax a := rfl

theorem followDelay_seq (l : Link) : (followDelay l).seq = l.seq := by
  unfold followDelay
  split <;> rfl

end

/-- Settles O37, from what opening, closing and sending do once they are due. -/
theorem tileWindowAndSendEventsComplete : Obligations.TileWindowAndSendEventsComplete := by
  refine ⟨?_, ?_, ?_, ?_⟩
  · intro s b t obs hb hc ho hft opens b1
    have hrun : exec (.tileWindowOpen t obs) s = done (windowOpened (settle (swapLive (windowWork obs b1)))) :=
      execTileWindowOpen_due hb hc ho hft
    have hpriming : b1.cyc.inPriming = b.cyc.inPriming := swapLive_inPriming b
    refine ⟨fun hp => ?_, fun hp => ?_, ⟨_, hrun, windowOpened_spec _⟩⟩
    · rw [hrun, windowWork, hpriming, if_pos hp, if_pos hp]
      rfl
    · rw [hrun, windowWork, hpriming, if_neg (Bool.eq_false_iff.mp hp), if_neg (Bool.eq_false_iff.mp hp)]
      rfl
  · intro s b t obs hb hc ho hcl hft s1
    have hrun : exec (.tileWindowClose t obs) s = _ := execTileWindowClose_due hb hc ho hcl hft
    refine ⟨fun hp hpos hprof => ?_, fun hp hno => ?_, fun hp => ?_, ⟨_, hrun, by rw [refreshTiles_cyc]⟩⟩
    · have hwork : closeWork obs b = positionCycle b := by
        rw [closeWork, if_pos hp, if_pos hp, if_pos ⟨hpos, hprof⟩]
      rw [hrun, hwork]
      rfl
    · have hwork : closeWork obs b = b := by
        rw [closeWork, if_pos hp, if_pos hp, if_neg fun ⟨hpos, hprof⟩ => hno.elim (Bool.eq_false_iff.mp · hpos) (Bool.eq_false_iff.mp · hprof)]
      rw [hrun, hwork]
      rfl
    · have hwork : closeWork obs b = acqSample (if b.cyc.posCyc = true ∧ b.domOn .prof = true then positionCycle s1 else s1) := by
        rw [closeWork, if_neg (Bool.eq_false_iff.mp hp), if_neg (Bool.eq_false_iff.mp hp)]
      rw [hrun, hwork]
      rfl
  · intro s b t stamps hb hc hcl
    have hrun : exec (.downstreamSend t stamps) s = _ := execDownstreamSend_eq hb hc hcl
    rw [hrun]
    exact ⟨fun hft => if_pos hft, fun hft => if_neg hft.not_ge⟩
  · intro s a stamp hst hb s1
    have hs1 : s1 = _ := if_pos ⟨hst, hb⟩
    have hax : s1.ax a = _ := (congrArg (State.ax · a) hs1).trans ((State.withOut_ax ..).trans (State.modAxis_same ..))
    have hout : s1.out.link = _ := congrArg (fun x : State => x.out.link) hs1
    have hseq := followDelay_seq (s.ax a).link
    rw [hout, hax]
    exact ⟨rfl, rfl, congrArg (· + 1) hseq, hseq, rfl, rfl⟩

end Sys2Proof.Machine
end

section
/-! SUPPORT. Events of the tiles, the spare, the recorder and the replay, and the bytes of a recorder block (R17, R325-R336, R552-R558). -/

namespace Sys2Proof.Machine

/-! ### Bytes of a number -/

theorem toLE_take {m n : Nat} (h : m ≤ n) (x : Int) : (toLE n x).take m = toLE m x := by
  induction m generalizing n x with
  | zero => rfl
  | succ m ih =>
    cases n with
    | zero => cases h
    | succ n => exact congrArg (BitVec.ofInt 8 x :: ·) (ih (Nat.le_of_succ_le_succ h) (x / 256))

/-- The low bytes of a number hold it modulo their size. -/
theorem getU_toLE_low {m n : Nat} (h : m ≤ n) (v : Nat) (r : List Byte) : getU (toLE n (v : Int) ++ r) 0 m = v % 2 ^ (8 * m) := by
  have hbytes : bytesAt (toLE n (v : Int) ++ r) 0 m = toLE m v := by
    rw [bytesAt, List.drop_zero, List.take_append_of_le_length (by rwa [toLE_length]), toLE_take h,
      toLE_length, Nat.sub_self, List.replicate_zero, List.append_nil]
  have hval := ofLE_toLE m (v : Int)
  rw [getU, hbytes]
  exact_mod_cast hval

/-! ### A recorder block -/

theorem getU_pair_skip {x y : Byte} {o n : Nat} {r : List Byte} (h : 2 ≤ o) : getU ([x, y] ++ r) o n = getU r (o - 2) n := getU_skip h

theorem natSum_eq_sum (l : List Nat) : natSum l = l.sum := List.sum_eq_foldl.symm

/-- Bits of bytes that are zero do not count, and those from `k` on count from 2^k on. -/
theorem diffBits_dvd (k : Nat) (l : List Byte) :
    2 ^ k ∣ natSum ((List.replicate k (0 : Byte) ++ l).zipIdx.map (fun e => if e.1 = 0 then 0 else 2 ^ e.2)) := by
  rw [natSum_eq_sum]
  refine List.dvd_sum fun x hx => ?_
  obtain ⟨⟨v, i⟩, he, rfl⟩ := List.mem_map.mp hx
  dsimp only
  split
  · exact dvd_zero _
  next hne =>
    refine pow_dvd_pow 2 ?_
    by_contra hlt
    have hget := List.mem_zipIdx_iff_getElem?.mp he
    simp only at hget
    rw [List.getElem?_append_left (by rw [List.length_replicate]; omega), List.getElem?_replicate, if_pos (by omega)] at hget
    exact hne (Option.some.inj hget).symm

/-- Without an upstream frame no byte of its payload differs. -/
theorem axisEntry_lost {s : State} {a : AxisId} (h : (s.ax a).link.fresh = false) : getU (axisEntry s a) 4 10 = 0 := by
  unfold axisEntry rcdEntry
  simp only [h, Bool.false_eq_true, if_false, List.append_assoc]
  rw [getU_toLE_skip (by decide), getU_toLE_skip (by decide), getU_toLE_skip (by decide), getU_toLE_low (by decide)]
  exact Nat.mod_eq_zero_of_dvd (diffBits_dvd 80 _)

theorem blockBytes_spec (s : State) (first snap : Bool) : let l := blockBytes s first snap
    l.length % 8 = 0 ∧ 24 ≤ l.length ∧ l.take 1 = [0xC1] ∧
    getU l 1 1 = b2n s.cyc.posCyc + 2 * b2n snap + 4 * b2n (applySince s) + 8 * b2n first ∧
    getU l 4 4 = l.length % 2 ^ 32 ∧ getU l 8 4 = s.cyc.n % 2 ^ 32 ∧ getU l 12 2 = s.cyc.k % 2 ^ 16 := by
  have hflags : ∀ x y z w : Bool, (b2n x + 2 * b2n y + 4 * b2n z + 8 * b2n w) % 2 ^ 8 = b2n x + 2 * b2n y + 4 * b2n z + 8 * b2n w := by decide
  unfold blockBytes
  extract_lets axes mask body len l
  have hlen : l.length = len := padTo_length ..
  have hfits : 24 + body.length ≤ len := by
    dsimp only [len]
    omega
  have hl : l = toLE 1 0xC1 ++ (toLE 1 (b2n s.cyc.posCyc + 2 * b2n snap + 4 * b2n (applySince s) + 8 * b2n first : Nat) ++ ([0, 0] ++
      (toLE 4 (len : Nat) ++ (toLE 4 (s.cyc.n : Nat) ++ (toLE 2 (s.cyc.k : Nat) ++ ([0, 0] ++
      (toLE 4 (mask s.cyc.lostMask : Nat) ++ (toLE 4 (mask s.cyc.skipMask : Nat) ++ (body ++ List.replicate (len - (24 + body.length)) 0))))))))) := by
    have hhead : ∀ f : Nat, (toLE 1 0xC1 ++ toLE 1 (f : Nat) ++ [0, 0] ++ toLE 4 (len : Nat) ++ toLE 4 (s.cyc.n : Nat) ++ toLE 2 (s.cyc.k : Nat) ++
        [0, 0] ++ toLE 4 (mask s.cyc.lostMask : Nat) ++ toLE 4 (mask s.cyc.skipMask : Nat) ++ body).length = 24 + body.length := by
      intro f
      simp only [List.length_append, toLE_length, List.length_cons, List.length_nil]
    dsimp only [l]
    rw [padTo_of_le (by rw [hhead]; exact hfits), hhead]
    simp only [List.append_assoc]
  rw [hlen]
  refine ⟨by dsimp only [len]; omega, by omega, ?_, ?_, ?_, ?_, ?_⟩
  · rw [hl]
    rfl
  · rw [hl, getU_toLE_skip (by decide), getU_toLE_low le_rfl, hflags]
  · rw [hl, getU_toLE_skip (by decide), getU_toLE_skip (by decide), getU_pair_skip (by decide), getU_toLE_low le_rfl]
  · rw [hl, getU_toLE_skip (by decide), getU_toLE_skip (by decide), getU_pair_skip (by decide), getU_toLE_skip (by decide), getU_toLE_low le_rfl]
  · rw [hl, getU_toLE_skip (by decide), getU_toLE_skip (by decide), getU_pair_skip (by decide), getU_toLE_skip (by decide),
      getU_toLE_skip (by decide), getU_toLE_low le_rfl]

/-! ### Events -/

section
variable {s b : State} {t : Nat}

theorem execColdSpareSelfTest_idle (hb : s.begin t = b) (hmode : b.spareMode = 1) (hready : b.tileReady 4 = true) (hrow : b.rowEmpty 4 = true)
    (hsl : b.inSlice 4 = false) (pass : Bool) :
    execColdSpareSelfTest t pass s =
      if pass then done b else done (refreshTiles ((lastEvent 4 3 0 0 0 (maskTile 4 (needTile 4 b))).raise fSpareFail 0x64)) := by
  subst hb
  cases pass with
  | true => exact if_neg fun ⟨_, _, _, _, hfail⟩ => hfail rfl
  | false => exact if_pos ⟨hmode, hready, hrow, Bool.eq_false_iff.mp hsl, Bool.false_ne_true⟩

theorem execTilePowered_eq {i : Fin 5} {d : Nat} (hb : s.begin t = b) (hd : (b.tiles.tiles.get i).powerDue = some d) :
    execTilePowered t i s =
      if d ≤ b.time.lt then done (refreshTiles (b.modTile i (fun x => { x with powerDue := none }))) else done b := by
  unfold execTilePowered
  rw [hb]
  simp only [hd]

theorem execReplayDone_eq {d n k a w : Nat} {p : Replay} {e : Nat × Nat × Nat} (hb : s.begin t = b) (hp : b.rcd.replay = some p)
    (he : b.snapFor p.first = some e) (hrun : replayRun b p.mask (replayBlocks b p e) (e.1, e.2.1) = (d, (n, k), a, w)) :
    execReplayDone t s = done (({ b with rcd := { b.rcd with replay := none } } : State).finish p.req
      { status := stOk, detail := d, body := toLE 4 n ++ toLE 2 k ++ toLE 1 a ++ toLE 1 0 ++ toLE 2 w }) := by
  unfold execReplayDone
  rw [hb]
  simp only [hp, he, Option.getD_some, hrun]

end

/-- Settles O39, from each event's condition and from the bytes of a block and of an axis entry. -/
theorem tileAndRecorderEventsComplete : Obligations.TileAndRecorderEventsComplete := by
  refine ⟨?_, ?_, ?_, ?_, ?_, ?_, blockBytes_spec, fun s a => axisEntry_lost⟩
  · intro s b t x y k hb hk
    subst hb
    show execSelfTestSliceDone t x y s = _
    unfold execSelfTestSliceDone
    simp only [hk, Option.map_some]
    rfl
  · intro s b t d i hb hd
    have hrun : exec (.tilePowered t i) s = _ := execTilePowered_eq hb hd
    rw [hrun]
    exact ⟨fun hle => if_pos hle, fun hlt => if_neg hlt.not_ge⟩
  · intro s b t hb hmode hready hrow hsl
    exact ⟨execColdSpareSelfTest_idle hb hmode hready hrow hsl true, execColdSpareSelfTest_idle hb hmode hready hrow hsl false⟩
  · intro s b t hb
    subst hb
    rfl
  · intro s b t byFault hb hfz
    have hrun : exec (.recorderFreeze t) s = execRecorderFreeze t s := rfl
    rw [hrun, execRecorderFreeze, hb]
    refine ⟨fun hd => ?_, fun hd => ?_⟩
    · simp only [hd, hfz, Bool.false_eq_true, if_false]
      rfl
    · simp only [hd]
      rfl
  · intro s b t d n k a w p e hb hp he hrun
    exact execReplayDone_eq hb hp he hrun

end Sys2Proof.Machine
end

section
/-! SUPPORT. Frames, losses, training and supervision of an axis link (R35, R36, R59, R64-R73, R86-R89, R100, R126, R153). -/

namespace Sys2Proof.Machine

/-! ### Upstream bursts -/

section
variable {s b : State} {t : Nat} {a : AxisId} {x : Burst}

/-- What a burst that a link expects leads to (R36, R59, R64, R88). -/
theorem execUpstreamFrameRx_expected (hb : rateWindow a (s.begin t) = b)
    (hst : (b.ax a).link.st = .measure ∨ (b.ax a).link.st = .ready ∨ ((b.ax a).link.st = .run ∧ (b.ax a).link.virt = none))
    (hfresh : (b.ax a).link.fresh = false) (hlost : (b.ax a).link.lost = false) :
    execUpstreamFrameRx t a x s =
      let whole := x.codeOk && decide (x.body.length = 80)
      let crcOk := decide (getU x.body 78 2 = crc16 (x.body.take 78))
      let u := parseUp x.body
      let late := decide ((b.ax a).link.st ≠ .measure) && decide (2300 * 2 ^ 16 ≤ b.ftFine8 x.stampEnd - sampleInstant a b * 2 ^ 16)
      if whole ∧ crcOk ∧ decide (u.type = (b.ax a).link.expType) ∧ decide (u.seq = (b.ax a).link.expect.toNat) ∧ ¬ late then done (frameAccepted a x u b)
      else if whole ∧ crcOk then done (frameLost a b)
      else done (frameLost a (eqDiscarded a (!x.codeOk) whole b)) := by
  unfold execUpstreamFrameRx
  rw [hb]
  refine if_neg ?_
  rw [hfresh, hlost]
  obtain h | h | ⟨h, hv⟩ := hst
  · simp [h]
  · simp [h]
  · simp [h, hv]

end

/-- Settles O40: what the code, the length, the CRC, the expected frame and its time decide. -/
theorem upstreamFramesAreAcceptedOrLost : Obligations.UpstreamFramesAreAcceptedOrLost := by
  intro s b t a x hb hst hfresh hlost u crcOk fits inTime
  have hrun : exec (.upstreamFrameRx t a x) s = _ := execUpstreamFrameRx_expected hb hst hfresh hlost
  have hlate : (decide ((b.ax a).link.st ≠ .measure) && decide (2300 * 2 ^ 16 ≤ b.ftFine8 x.stampEnd - sampleInstant a b * 2 ^ 16)) = !inTime := by
    simp only [inTime, ← not_lt, decide_not, Bool.decide_or, Bool.not_or]
  have hfits : (decide (u.type = (b.ax a).link.expType) = true ∧ decide (u.seq = (b.ax a).link.expect.toNat) = true) ↔ fits = true := by
    simp [fits]
  rw [hrun]
  dsimp only
  rw [hlate]
  refine ⟨fun hcode hlen hcrc hf ht => ?_, fun hcode hlen hcrc hno => ?_, fun hcode hlen hcrc => ?_, fun hcode hlen => ?_, fun hcode => ?_⟩
  · obtain ⟨htype, hseq⟩ := hfits.mpr hf
    exact if_pos ⟨by simp [hcode, hlen], hcrc, htype, hseq, by simp [ht]⟩
  · refine (if_neg ?_).trans (if_pos ⟨by simp [hcode, hlen], hcrc⟩)
    rintro ⟨-, -, htype, hseq, ht⟩
    obtain hf | hl := hno
    · exact Bool.eq_false_iff.mp hf (hfits.mp ⟨htype, hseq⟩)
    · exact ht (by simp [hl])
  · have hbad : ¬ (crcOk = true) := Bool.eq_false_iff.mp hcrc
    rw [if_neg fun h => hbad h.2.1, if_neg fun h => hbad h.2, hcode, hlen]
    rfl
  · have hpart : (x.codeOk && decide (x.body.length = 80)) = false := by simp [hlen]
    rw [hpart, if_neg fun h => Bool.false_ne_true h.1, if_neg fun h => Bool.false_ne_true h.1, hcode]
    rfl
  · rw [hcode, if_neg fun h => Bool.false_ne_true h.1, if_neg fun h => Bool.false_ne_true h.1]
    rfl

/-! ### Deadlines and losses -/

/-- What an operation over axes does to an axis of its list, where it touches no axis but its own. -/
theorem forAxes_own {f : AxisId → State → State} (hother : ∀ a b s, a ≠ b → (f a s).ax b = s.ax b) {l : List AxisId} (hl : l.Nodup)
    {a : AxisId} (ha : a ∈ l) (s : State) : ∃ s', s'.ax a = s.ax a ∧ (forAxes l f s).ax a = (f a s').ax a := by
  have hrest : ∀ (l : List AxisId) (s : State), a ∉ l → (forAxes l f s).ax a = s.ax a := by
    intro l
    induction l with
    | nil => exact fun s _ => rfl
    | cons c r ih =>
      intro s hn
      rw [List.mem_cons, not_or] at hn
      obtain ⟨hne, hn⟩ := hn
      exact (ih (f c s) hn).trans (hother c a s (Ne.symm hne))
  induction l generalizing s with
  | nil => cases ha
  | cons c r ih =>
    obtain ⟨hc, hr⟩ := List.nodup_cons.mp hl
    rcases List.mem_cons.mp ha with rfl | har
    · exact ⟨s, rfl, hrest r (f a s) hc⟩
    · obtain ⟨s', hs', hf⟩ := ih hr har (f c s)
      exact ⟨s', hs'.trans (hother c a s fun h => hc (h ▸ har)), hf⟩

theorem State.raise_ax (s : State) (code unit : Nat) (a : AxisId) : (s.raise code unit).ax a = s.ax a := rfl

theorem State.raiseAt_ax (s : State) (code unit lvl : Nat) (a : AxisId) : (s.raiseAt code unit lvl).ax a = s.ax a := rfl

theorem State.modLink_ax_same (s : State) (a : AxisId) (f : Link → Link) : (s.modLink a f).ax a = { s.ax a with link := f (s.ax a).link } :=
  State.modAxis_same ..

theorem State.modLink_ax_other (s : State) {a c : AxisId} (h : a ≠ c) (f : Link → Link) : (s.modLink a f).ax c = s.ax c :=
  s.modAxis_other h _

/-- Of the axes only the losses that a link has reported differ. -/
structure LossMarked (a : AxisId) (s s' : State) : Prop where
  other : ∀ c, a ≠ c → s'.ax c = s.ax c
  own : ∃ rep rate, s'.ax a = { s.ax a with link := { (s.ax a).link with lostRep := rep, rateOver := rate } }

theorem LossMarked.refl (a : AxisId) (s : State) : LossMarked a s s := ⟨fun _ _ => rfl, _, _, rfl⟩

theorem LossMarked.lostRep {a : AxisId} {s s' : State} (h : LossMarked a s s') (n : Nat) :
    LossMarked a s (s'.modLink a fun l => { l with lostRep := n }) := by
  obtain ⟨rep, rate, hown⟩ := h.own
  exact ⟨fun c hc => (s'.modLink_ax_other hc _).trans (h.other c hc), n, rate, by rw [State.modLink_ax_same, hown]⟩

theorem LossMarked.rateOver {a : AxisId} {s s' : State} (h : LossMarked a s s') (x : Bool) :
    LossMarked a s (s'.modLink a fun l => { l with rateOver := x }) := by
  obtain ⟨rep, rate, hown⟩ := h.own
  exact ⟨fun c hc => (s'.modLink_ax_other hc _).trans (h.other c hc), rep, x, by rw [State.modLink_ax_same, hown]⟩

theorem LossMarked.raise {a : AxisId} {s s' : State} (h : LossMarked a s s') (code unit : Nat) : LossMarked a s (s'.raise code unit) :=
  ⟨h.other, h.own⟩

theorem LossMarked.raiseAt {a : AxisId} {s s' : State} (h : LossMarked a s s') (code unit lvl : Nat) :
    LossMarked a s (s'.raiseAt code unit lvl) :=
  ⟨h.other, h.own⟩

/-- The thresholds of losses only mark what they report (R88, R89). -/
theorem lostThresholds_marks (a : AxisId) (s : State) : LossMarked a s (lostThresholds a s) := by
  unfold lostThresholds
  extract_lets l lvl step s1
  have h1 : LossMarked a s s1 := by
    dsimp only [s1]
    split
    · exact ((LossMarked.refl a s).raiseAt ..).lostRep step
    · exact .refl a s
  split
  · split
    · exact (h1.raise ..).rateOver true
    · exact h1
  · exact .refl a s

/-- A missing frame counts as lost on its own axis alone. -/
theorem frameLost_ax (a : AxisId) (s : State) : (∀ c, a ≠ c → (frameLost a s).ax c = s.ax c) ∧
    ((frameLost a s).ax a).link.lost = true ∧ ((frameLost a s).ax a).link.late = (s.ax a).link.late ∧
    ((frameLost a s).ax a).link.lostRun = (s.ax a).link.lostRun + 1 ∧ ((frameLost a s).ax a).link.lostCount = incSat 32 (s.ax a).link.lostCount := by
  obtain ⟨hother, rep, rate, hown⟩ := lostThresholds_marks a (s.modLink a (fun l =>
    { l with lost := true, lostRun := l.lostRun + 1, lostCount := incSat 32 l.lostCount,
             lostTimes := (l.lostTimes.filter (fun x => decide (s.time.lt < x + 1000000000))) ++ [s.time.lt] }))
  rw [State.modLink_ax_same] at hown
  unfold frameLost
  refine ⟨fun c hc => (hother c hc).trans (s.modLink_ax_other hc _), ?_⟩
  dsimp only
  rw [hown]
  exact ⟨rfl, rfl, rfl, rfl⟩

/-- The deadline of one axis (R88). -/
def deadlineOf (a : AxisId) (s : State) : State :=
  let l := (s.ax a).link
  if l.st = .run ∧ l.virt.isNone ∧ ¬ l.fresh ∧ ¬ l.lost then frameLost a (s.modLink a (fun l => { l with late := true })) else s

theorem deadlineOf_ax_other {a c : AxisId} (s : State) (h : a ≠ c) : (deadlineOf a s).ax c = s.ax c := by
  unfold deadlineOf
  dsimp only
  split
  · exact ((frameLost_ax a _).1 c h).trans (s.modLink_ax_other h _)
  · rfl

theorem loseMissing_ax (s : State) (a : AxisId) : ∃ s', s'.ax a = s.ax a ∧ (loseMissing s).ax a = (deadlineOf a s').ax a :=
  forAxes_own (f := deadlineOf) (fun _ _ s h => deadlineOf_ax_other s h) (List.nodup_finRange 32) (List.mem_finRange a) s

theorem loseMissing_of_missing (s : State) (a : AxisId) (hst : (s.ax a).link.st = .run) (hv : (s.ax a).link.virt = none)
    (hf : (s.ax a).link.fresh = false) (hl : (s.ax a).link.lost = false) :
    ((loseMissing s).ax a).link.lost = true ∧ ((loseMissing s).ax a).link.late = true ∧
    ((loseMissing s).ax a).link.lostRun = (s.ax a).link.lostRun + 1 ∧ ((loseMissing s).ax a).link.lostCount = incSat 32 (s.ax a).link.lostCount := by
  obtain ⟨s', hs', hax⟩ := loseMissing_ax s a
  obtain ⟨-, hlost, hlate, hrun, hcount⟩ := frameLost_ax a (s'.modLink a (fun l => { l with late := true }))
  have hdue : deadlineOf a s' = frameLost a (s'.modLink a (fun l => { l with late := true })) := by
    refine if_pos ?_
    rw [hs']
    simp [hst, hv, hf, hl]
  rw [State.modLink_ax_same] at hlate hrun hcount
  rw [hax, hdue, ← hs']
  exact ⟨hlost, hlate, hrun, hcount⟩

theorem loseMissing_of_present (s : State) (a : AxisId)
    (h : (s.ax a).link.st ≠ .run ∨ (s.ax a).link.virt ≠ none ∨ (s.ax a).link.fresh = true ∨ (s.ax a).link.lost = true) :
    (loseMissing s).ax a = s.ax a := by
  obtain ⟨s', hs', hax⟩ := loseMissing_ax s a
  have hnot : deadlineOf a s' = s' := by
    refine if_neg ?_
    rw [hs', Option.isNone_iff_eq_none]
    rintro ⟨hst, hv, hf, hl⟩
    exact h.elim (· hst) fun h => h.elim (· hv) fun h => h.elim hf hl
  rw [hax, hnot, hs']

theorem lostThresholds_silent {a : AxisId} {s : State} (h : s.cyc.cycling = false ∨ (s.ax a).link.st ≠ .run) : lostThresholds a s = s := by
  refine if_neg ?_
  rw [reports, Bool.and_eq_true, decide_eq_true_eq]
  rintro ⟨hc, hst⟩
  exact h.elim (Bool.eq_false_iff.mp · hc) (· hst)

/-- The thresholds of a link that takes part in cycling. -/
theorem lostThresholds_reports {a : AxisId} {s : State} (hc : s.cyc.cycling = true) (hst : (s.ax a).link.st = .run) :
    lostThresholds a s =
      let l := (s.ax a).link
      let s1 := if l.lostRep < min l.lostRun 3 then
          (s.raiseAt fUpLost a.val (if 3 ≤ l.lostRun then 3 else if l.lostRun = 2 then 1 else 0)).modLink a (fun x => { x with lostRep := min l.lostRun 3 })
        else s
      if 16 < l.lostTimes.length ∧ ¬ l.rateOver then (s1.raise fLostRate a.val).modLink a (fun l => { l with rateOver := true }) else s1 := by
  refine if_pos ?_
  rw [reports, Bool.and_eq_true, decide_eq_true_eq]
  exact ⟨hc, hst⟩

theorem execLinkIdleExchange_due {s b : State} {t : Nat} {a : AxisId} (stamp : Nat) (hb : s.begin t = b)
    (hst : ((b.ax a).link.st = .measure ∧ (b.ax a).link.measCount < 64) ∨ (b.ax a).link.st = .ready) :
    execLinkIdleExchange t a stamp s =
      let c := if (b.ax a).link.virt.isSome = true ∧ ¬ (b.ax a).link.fresh = true ∧ ¬ (b.ax a).link.lost = true then frameLost a b else b
      let l := if (c.ax a).link.st = .ready then followDelay (c.ax a).link else (c.ax a).link
      let ts := match (b.ax a).link.virt with
        | some v => v.1 + virtLength c v.1
        | none => c.ft + 94000
      let len := virtLength c ts
      let f : DnFrame := { type := 0x12, car := offCarrier c a (c.ax a), sideAddr := l.idRot }
      let bytes := dnBytes f l.seq.toNat (sampleOfs ts (c.ftFine8 stamp) l.dUse) (upOfs l.dUse) (4 * len)
      let s1 := c.modAxis a (fun x => { x with torque := false, link := { l with virt := some (ts, len), expect := l.seq, expType := 0x92, seq := l.seq + 1, dStamp := some (c.ftFine8 stamp), dnRaw := bytes, fresh := false, lost := false, idRot := (l.idRot + 1) % 13, measCount := if l.st = .measure then l.measCount + 1 else l.measCount } })
      done { s1 with out := { s1.out with link := s1.out.link ++ [(a.val, burstGroups bytes)] } } := by
  unfold execLinkIdleExchange
  rw [hb]
  refine if_neg ?_
  obtain ⟨hm, hlt⟩ | hr := hst
  · simp [hm, hlt]
  · simp [hr]

/-- Settles O41: which frames a deadline misses, which thresholds a link has reached, and the frame that leaves in MEASURE and READY. -/
theorem linkLossAndIdleEventsComplete : Obligations.LinkLossAndIdleEventsComplete := by
  refine ⟨?_, ?_, ?_, ?_, ?_, ?_, ?_⟩
  · intro s b t hb hc hp hft
    subst hb
    refine ⟨loseMissing (s.begin t), if_pos ⟨hc, Bool.eq_false_iff.mp hp, hft⟩, fun a => ?_⟩
    exact ⟨loseMissing_of_missing _ a, loseMissing_of_present _ a⟩
  · intro s b t hb hno
    subst hb
    refine if_neg fun ⟨hc, hp, hft⟩ => ?_
    exact hno.elim (Bool.eq_false_iff.mp · hc) fun h => h.elim hp hft.not_gt
  · intro s b t a hb hc hst l
    have hrun : exec (.lostFrameLimit t a) s = done (lostThresholds a b) := by subst hb; rfl
    rw [hrun, lostThresholds_reports hc hst]
    dsimp only
    refine ⟨fun h2 hrep hlen => ?_, fun h3 hrep hlen => ?_, fun hrep hlen hrate => ?_, fun hrep hno => ?_⟩
    · rw [if_neg fun h => hlen.not_gt h.1, if_pos (show l.lostRep < min l.lostRun 3 by omega), if_neg (show ¬ 3 ≤ l.lostRun by omega), if_pos h2,
        show min l.lostRun 3 = 2 by omega]
      rfl
    · rw [if_neg fun h => hlen.not_gt h.1, if_pos (show l.lostRep < min l.lostRun 3 by omega), if_pos h3, show min l.lostRun 3 = 3 by omega]
      rfl
    · rw [if_pos ⟨hlen, Bool.eq_false_iff.mp hrate⟩, if_neg hrep.not_gt]
      rfl
    · rw [if_neg fun ⟨hlen, hrate⟩ => hno.elim hlen.not_ge hrate, if_neg hrep.not_gt]
      rfl
  · intro s b t a hb hno
    subst hb
    exact congrArg done (lostThresholds_silent hno)
  · intro s b t a hb
    subst hb
    exact ⟨fun hst hrun => if_pos ⟨hst, hrun⟩, fun hrun => if_neg fun h => hrun.not_ge h.2⟩
  · intro s b c t stamp a hb hst hc
    have hrun : exec (.linkIdleExchange t a stamp) s = _ := execLinkIdleExchange_due stamp hb hst
    rw [hrun, ← hc]
    simp only [Bool.not_eq_true]
    rfl
  · intro s b t stamp a hb hst hcount
    subst hb
    exact if_pos (Or.inr ⟨hst, hcount⟩)

end Sys2Proof.Machine
end

section
/-! SUPPORT. Wake, training, measurement and supervision of an axis link (R64-R68, R100, R126, R153). -/

namespace Sys2Proof.Machine

theorem adaptTrain_trainFails (x : Burst) (l : Link) : (adaptTrain x l).trainFails = l.trainFails := by
  unfold adaptTrain
  (repeat' split) <;> rfl

section
variable {s b : State} {t : Nat} {a : AxisId} {x : Burst}

theorem execLinkWakeRx_listen (hb : s.begin t = b) (hst : (b.ax a).link.st = .listen) :
    execLinkWakeRx t a x s =
      if prbsOk x 0x94 then
        if 2 ≤ (b.ax a).link.wakes then
          done (sendTrain a (setLink a .train (b.modLink a (fun l => { adapt x l with wakes := 0, exchanges := 0, errorFree := 0 }))))
        else done (b.modLink a (fun l => { adapt x l with wakes := l.wakes + 1 }))
      else done (b.modLink a (fun l => { l with wakes := 0 })) := by
  subst hb
  exact if_pos hst

/-- The link after one exchange of TRAIN. -/
def trainExchange (x : Burst) (l : Link) : Link :=
  { adaptTrain x l with exchanges := l.exchanges + 1, errorFree := if prbsOk x 0x93 then l.errorFree + 1 else 0 }

theorem execLinkTrainRx_goes_on (hb : s.begin t = b) (hst : (b.ax a).link.st = .train) (hex : (b.ax a).link.exchanges < 1023)
    (hf : (b.ax a).link.trainFails < 4 ∨
      ¬ (256 ≤ (trainExchange x (b.ax a).link).exchanges ∧ 64 ≤ (trainExchange x (b.ax a).link).errorFree ∧ 50 ≤ (trainExchange x (b.ax a).link).eyePct)) :
    execLinkTrainRx t a x s =
      let l1 := trainExchange x (b.ax a).link
      let s1 := b.modLink a (fun _ => l1)
      if 256 ≤ l1.exchanges ∧ 64 ≤ l1.errorFree ∧ 50 ≤ l1.eyePct then
        done (setLink a .measure (s1.modLink a (fun l =>
          { l with seq := 0, expect := 0, measCount := 0, measAccepted := 0, idRegs := [], idRot := 0, trainFails := 0, samples := [], dEst := none, dUse := 0, discards := 0, dStamp := none, virt := none, eyePct := 100, up := none, statBPrev := 0, fresh := false, lost := false, lostRun := 0 })))
      else done (sendTrain a s1) := by
  have hin : ¬ ((b.ax a).link.st ≠ .train ∨ 1024 ≤ (b.ax a).link.exchanges) := by
    rintro (h | h)
    · exact h hst
    · omega
  unfold execLinkTrainRx
  rw [hb]
  refine (if_neg hin).trans ?_
  by_cases hexit : 256 ≤ (trainExchange x (b.ax a).link).exchanges ∧ 64 ≤ (trainExchange x (b.ax a).link).errorFree ∧
      50 ≤ (trainExchange x (b.ax a).link).eyePct
  · have hfails : ¬ 4 ≤ (adaptTrain x (b.ax a).link).trainFails := by
      rw [adaptTrain_trainFails]
      exact (hf.resolve_right (not_not.mpr hexit)).not_ge
    refine (if_pos hexit).trans (Eq.trans ?_ (if_pos hexit).symm)
    dsimp only
    rw [if_neg hfails]
    rfl
  · refine (if_neg hexit).trans (Eq.trans ?_ (if_neg hexit).symm)
    exact if_neg (show ¬ 1024 ≤ (b.ax a).link.exchanges + 1 by omega)

theorem State.modAxis_congr {f g : Axis → Axis} (h : f (s.ax a) = g (s.ax a)) : s.modAxis a f = s.modAxis a g :=
  congrArg (fun x : Axis => { s with axes := s.axes.set a.val x }) h

theorem execMeasureDone_due {e : Rat} (hb : s.begin t = b) (hst : (b.ax a).link.st = .measure) (hcount : 64 ≤ (b.ax a).link.measCount)
    (hans : (b.ax a).link.answered b.ft = true) (he : (b.ax a).link.dEst = some e) :
    execMeasureDone t a s =
      if 120 * 2 ^ 17 < e ∨ fieldOf (alGet 0 0 (b.ax a).link.idRegs) 8 8 ≠ 1 ∨ (b.ax a).link.measAccepted < 48 then
        done (toListen a (b.raise fMeasureFail a.val))
      else
        done (setLink a .ready (b.modAxis a (fun x =>
          { x with link := { x.link with dUse := e, sinceReady := false, up := none, lostRun := 0, lostRep := 0 }, cur := { x.cur with coefReady := true } }))) := by
  have hown : b.modAxis a (fun x => { x with
      link := { x.link with dUse := x.link.dEst.getD 0, sinceReady := false, up := none, lostRun := 0, lostRep := 0 }
      cur := { x.cur with coefReady := true } }) = b.modAxis a (fun x => { x with
      link := { x.link with dUse := e, sinceReady := false, up := none, lostRun := 0, lostRep := 0 }
      cur := { x.cur with coefReady := true } }) := by
    refine State.modAxis_congr ?_
    rw [he]
    rfl
  unfold execMeasureDone
  rw [hb]
  refine (if_pos ⟨hst, hcount, hans⟩).trans ?_
  simp only [he, decide_eq_true_eq]
  rw [hown]

theorem execEyeLow_eq {x : Nat} (hb : s.begin t = b) (hx : (b.ax a).link.eyeLowSince = some x) :
    execEyeLow t a s =
      if x + 1000000000 ≤ b.time.lt ∧ ¬ (b.ax a).link.eyeRep then
        done ((b.raise fEyeLow a.val).modLink a (fun l => { l with eyeRep := true }))
      else done b := by
  unfold execEyeLow
  rw [hb]
  simp only [hx]

theorem execStoMismatch_over {x : Nat} (hb : s.begin t = b) (hx : some x ∈ (b.ax a).link.stoSince) (hlt : x + 10000000 < b.time.lt) :
    execStoMismatch t a s =
      if ¬ (b.ax a).link.stoRep then done ((b.raise fStoMismatch a.val).modLink a (fun l => { l with stoRep := true })) else done b := by
  subst hb
  have hcond : ∀ {o : Bool}, o = true → ∀ {r : Bool}, (o = true ∧ ¬ r = true) ↔ ¬ r = true := fun ho => and_iff_right ho
  exact if_congr (hcond (List.any_eq_true.mpr ⟨some x, hx, decide_eq_true hlt⟩)) rfl rfl

/-- The one clear of a trip that has run out of frames ends with TIMEOUT. -/
theorem execTripClearTimeout_out {c : TripClear} {u : UpFrame} (hb : s.begin t = b) (hc : (b.ax a).link.tripClear = [c])
    (hu : (b.ax a).link.up = some u) (htrip : u.trip = true) (hsent : 16 ≤ c.framesSent) :
    execTripClearTimeout t a s = done (((b.modLink a (fun l => { l with tripClear := [] })).modRec c.slot (fun r => { r with acting := false })).finish c.req
      { status := stTimeout }) := by
  have hempty : b.modLink a (fun l => { l with tripClear := l.tripClear.filter (fun c => !decide (16 ≤ c.framesSent)) }) =
      b.modLink a (fun l => { l with tripClear := [] }) := by
    refine State.modAxis_congr ?_
    simp [hc, hsent]
  have hends : endTripClearIf (fun c => decide (16 ≤ c.framesSent)) a stTimeout b =
      tripClearEnds a stTimeout (b.modLink a (fun l => { l with tripClear := [] })) c := by
    rw [endTripClearIf, hempty, hc]
    simp [hsent]
  unfold execTripClearTimeout
  rw [hb]
  simp only [hu, htrip, if_true]
  rw [hends]
  rfl

theorem idHeld_since {x : Nat} (had : b.pa pAxCurAdapt a = 2)
    (hx : some x ∈ (b.ax a).cur.id.boundSince ∨ (b.ax a).vel.jBoundSince = some x) (hle : x + 1000000000 ≤ b.time.lt) :
    idHeld b a (b.ax a) = true := by
  unfold idHeld
  dsimp only
  rw [decide_eq_true had, Bool.true_and, Bool.or_eq_true]
  obtain hx | hx := hx
  · exact Or.inl (List.any_eq_true.mpr ⟨some x, hx, decide_eq_true hle⟩)
  · rw [hx]
    exact Or.inr (decide_eq_true hle)

end

/-- Settles O42, from what each exchange, end of a phase and supervised time leads to. -/
theorem linkTrainingAndSupervisionEventsComplete : Obligations.LinkTrainingAndSupervisionEventsComplete := by
  refine ⟨?_, ?_, ?_, ?_, ?_, ?_, ?_, ?_⟩
  · intro s b t a x hb hst
    have hrun : exec (.linkWakeRx t a x) s = _ := execLinkWakeRx_listen hb hst
    rw [hrun]
    refine ⟨fun hp hw => ?_, fun hp hw => ?_, fun hp => ?_⟩
    · rw [if_pos hp, if_neg hw.not_ge]
      rfl
    · rw [if_pos hp, if_pos hw]
      rfl
    · rw [if_neg (Bool.eq_false_iff.mp hp)]
      rfl
  · intro s b t a x hb hst hex l1 s1
    refine ⟨fun hgo => ?_, fun h256 h64 h50 hf => ?_⟩
    · have hnot : ¬ (256 ≤ l1.exchanges ∧ 64 ≤ l1.errorFree ∧ 50 ≤ l1.eyePct) := fun ⟨h1, h2, h3⟩ =>
        hgo.elim h1.not_gt fun h => h.elim h2.not_gt h3.not_gt
      exact (execLinkTrainRx_goes_on hb hst hex (Or.inr hnot)).trans (if_neg hnot)
    · exact (execLinkTrainRx_goes_on hb hst hex (Or.inl hf)).trans (if_pos ⟨h256, h64, h50⟩)
  · intro s b t a hb hst hex s1
    subst hb
    have hfour : ((s.begin t).ax a).link.trainFails + 1 = 4 ↔ ((s.begin t).ax a).link.trainFails = 3 := by omega
    exact (if_pos ⟨hst, hex⟩).trans (congrArg done (if_congr hfour rfl rfl))
  · intro s b t a e hb hst hcount hans he
    have hrun : exec (.measureDone t a) s = _ := execMeasureDone_due hb hst hcount hans he
    rw [hrun]
    refine ⟨fun hnear hmaj hacc => if_neg ?_, fun hbad => if_pos hbad⟩
    rintro (h | h | h)
    · exact hnear.not_gt h
    · exact h hmaj
    · exact hacc.not_gt h
  · intro s b t x a hb hx
    have hrun : exec (.eyeLow t a) s = _ := execEyeLow_eq hb hx
    rw [hrun]
    exact ⟨fun hle hrep => if_pos ⟨hle, Bool.eq_false_iff.mp hrep⟩, fun hno => if_neg fun ⟨hle, hrep⟩ => hno.elim hle.not_gt hrep⟩
  · intro s b t x a hb hx hlt
    have hrun : exec (.stoMismatch t a) s = _ := execStoMismatch_over hb hx hlt
    rw [hrun]
    exact ⟨fun hrep => if_pos (Bool.eq_false_iff.mp hrep), fun hrep => if_neg (not_not.mpr hrep)⟩
  · intro s b t a c u hb hc hu htrip hsent
    exact execTripClearTimeout_out hb hc hu htrip hsent
  · intro s b t x a hb had hx hle
    have hheld := idHeld_since had hx hle
    subst hb
    exact ⟨fun hrep => if_pos ⟨hheld, Bool.eq_false_iff.mp hrep⟩, fun hrep => if_neg fun h => h.2 hrep⟩

end Sys2Proof.Machine
end

section
/-! SUPPORT. What an APPLY leaves of the parameter state, and the events of an APPLY (R441, R443, R444, R611). -/

namespace Sys2Proof.Machine

section
variable (s : State)

theorem State.ite_prm {c : Prop} [Decidable c] {x y : State} (hx : x.prm = s.prm) (hy : y.prm = s.prm) : (if c then x else y).prm = s.prm := by
  split
  · exact hx
  · exact hy

@[simp] theorem nominalReset_prm (old : Bank) (a : AxisId) : (nominalReset old a s).prm = s.prm := by
  unfold nominalReset
  dsimp only
  (repeat' split) <;> rfl

@[simp] theorem referenceReset_prm (old : Bank) (a : AxisId) : (referenceReset old a s).prm = s.prm :=
  s.ite_prm rfl rfl

@[simp] theorem installBlocks_prm : (installBlocks s).prm = s.prm := by
  refine forAxes_keeps State.prm (fun a s => ?_) _ _
  refine foldl_keeps State.prm (fun s p => ?_) _ s
  split <;> rfl

@[simp] theorem canOff_prm (c : Fin 2) : (canOff c s).prm = s.prm := by
  unfold canOff
  dsimp only
  (repeat' split) <;> rfl

@[simp] theorem canConfigure_prm (c : Fin 2) : (canConfigure c s).prm = s.prm := canOff_prm s c

@[simp] theorem renumber_prm : (renumber s).prm = s.prm := rfl

@[simp] theorem portConditionsEnd_prm (p : PortId) (x : Port) : (portConditionsEnd p x s).prm = s.prm := by
  unfold portConditionsEnd
  dsimp only
  (repeat' split) <;> rfl

@[simp] theorem portsOff_prm : (portsOff s).prm = s.prm :=
  foldl_keeps State.prm (fun s p => s.ite_prm (portConditionsEnd_prm (dropPort p s) p _) rfl) _ s

@[simp] theorem fabDomain_prm : (fabDomain s).prm = s.prm :=
  s.ite_prm rfl (s.ite_prm rfl rfl)

@[simp] theorem ptpMode_prm (old : Bank) : (ptpMode old s).prm = s.prm :=
  s.ite_prm rfl (s.ite_prm rfl rfl)

@[simp] theorem timedPads_prm : (timedPads s).prm = s.prm := by
  have hpads := foldl_keeps State.prm (f := fun s i => s.modTq i (fun c =>
    let m := s.p1 pTimeTqMode i.val
    if m = 0 then { c with prog := none, pulseEnd := none, pad := false } else if m = 1 then c else { c with prog := none })) (fun _ _ => rfl)
    (List.finRange 4) s
  exact s.ite_prm hpads hpads

@[simp] theorem tideSources_prm (old : Bank) : (tideSources old s).prm = s.prm := by
  refine foldl_keeps State.prm (fun s i => ?_) _ s
  split <;> rfl

@[simp] theorem emuOff_prm : (emuOff s).prm = s.prm :=
  s.ite_prm rfl rfl

@[simp] theorem emuSource_prm : (emuSource s).prm = s.prm :=
  s.ite_prm (emuOff_prm s) rfl

@[simp] theorem refreshTiles_prm : (refreshTiles s).prm = s.prm := by
  refine foldl_keeps State.prm (fun s i => ?_) _ s
  rfl

@[simp] theorem profDomain_prm : (profDomain s).prm = s.prm :=
  s.ite_prm (s.ite_prm rfl rfl) rfl

@[simp] theorem tileDomains_prm : (tileDomains s).prm = s.prm := by
  unfold tileDomains
  dsimp only
  rw [refreshTiles_prm, profDomain_prm]
  refine (foldl_keeps State.prm (fun s i => ?_) _ _).trans (profDomain_prm s)
  (repeat' split) <;> rfl

@[simp] theorem State.finish?_prm (q : Option ReqRef) (r : Rsp) : (s.finish? q r).prm = s.prm := by
  cases q with
  | none => rfl
  | some q => exact s.finish_prm q r

/-- What an APPLY does to the rest of the block once the topcoat stands: references, control blocks, CAN, ports, time, tides, tiles. -/
def applyStages (old : Bank) (fabCyc : Bool) (s : State) : State :=
  let s2 := installBlocks (forAxes allAxes (fun a s => referenceReset old a (nominalReset old a s)) s)
  let s3 := (List.finRange 2).foldl (fun s c =>
    if [pCanMode, pCanRateNominal, pCanRateData, pCanSpNominal, pCanSpData, pCanObjects].any (fun key => bankDiff old s.prm.topcoat key c.val)
    then canConfigure c s else s) s2
  let s4 := emuSource (tideSources old (timedPads (ptpMode old (fabDomain (portsOff (if fabCyc then renumber s3 else s3))))))
  if s4.cyc.cycling then refreshTiles s4 else tileDomains s4

theorem applyStages_prm (old : Bank) (fabCyc : Bool) : (applyStages old fabCyc s).prm = s.prm := by
  unfold applyStages
  extract_lets s2 s3 s4
  have h2 : s2.prm = s.prm := (installBlocks_prm _).trans
    (forAxes_keeps State.prm (fun a s => (referenceReset_prm _ old a).trans (nominalReset_prm s old a)) allAxes s)
  have h3 : s3.prm = s2.prm := by
    refine foldl_keeps State.prm (fun s c => ?_) _ s2
    exact s.ite_prm (canConfigure_prm s c) rfl
  have h4 : s4.prm = s3.prm := by
    simp only [s4, emuSource_prm, tideSources_prm, timedPads_prm, ptpMode_prm, fabDomain_prm, portsOff_prm]
    exact s3.ite_prm (renumber_prm s3) rfl
  exact (s4.ite_prm (refreshTiles_prm s4) (tileDomains_prm s4)).trans (h4.trans (h3.trans h2))

/-- Every stage of an APPLY after the first works on the topcoat that this one has put in force. -/
theorem applyTake_prm {p : PendApply} (n k : Nat) (hp : s.prm.pend = some p) :
    ∃ q set result, (applyTake n k s).prm = { s.prm with
      topcoat := s.prm.undercoat, topcoatValid := true, applyGen := (s.prm.applyGen + 1) % 2 ^ 32, pend := none, frozen := false
      persist := q, persistSet := set, persistResult := result } := by
  have hstages := applyStages_prm { s with
    prm := { s.prm with topcoat := s.prm.undercoat, topcoatValid := true, applyGen := (s.prm.applyGen + 1) % 2 ^ 32, pend := none, frozen := false }
    tiles := { s.tiles with map := formMap s s.prm.undercoat } } s.prm.topcoat (s.differs pFabCycleNs 0)
  unfold applyTake
  split
  next hnone => simp [hnone] at hp
  next p' hp' =>
    generalize hx : applyStages _ _ _ = x at hstages
    unfold applyStages at hx
    dsimp only at hx ⊢
    rw [hx]
    split
    · exact ⟨_, _, _, by rw [State.postEvent_prm, hstages]⟩
    · exact ⟨_, _, _, by rw [State.finish?_prm, State.postEvent_prm, hstages]⟩

end

section
variable {s b : State} {t : Nat} {p : PendApply}

theorem execApplyPrepared_now (hb : s.begin t = b) (hp : b.prm.pend = some p) (hprep : p.prepared = false) (htiles : b.tilesPowered = true) :
    execApplyPrepared t s =
      let s1 := { b with prm := { b.prm with pend := some { p with prepared := true, n := if p.fabric then p.n else b.time.lt } } }
      if ¬ p.fabric ∧ ¬ b.cyc.cycling then done (applyTake b.fabN 0 s1) else done s1 := by
  unfold execApplyPrepared
  rw [hb]
  simp only [hp]
  exact if_neg (by simp [hprep, htiles])

theorem execApplyTakeEffect_own (hb : s.begin t = b) (hp : b.prm.pend = some p) (hprep : p.prepared = true) (hown : p.fabric = false) :
    execApplyTakeEffect t s =
      if ¬ b.cyc.cycling then done (applyTake b.fabN 0 b)
      else if b.cyc.posCyc ∧ ¬ b.cyc.opened ∧ b.ftOf p.n ≤ b.cyc.start then done (applyTake b.cyc.n b.cyc.k b)
      else done b := by
  unfold execApplyTakeEffect
  rw [hb]
  simp only [hp]
  exact if_neg (by simp [hprep, hown])

theorem execApplyPersistDone_some {q : ReqRef} {gen n k : Nat} {ok : Bool} (hb : s.begin t = b) (hq : b.prm.persist = some q)
    (hres : b.prm.persistResult = (gen, n, k)) :
    execApplyPersistDone t ok s =
      let s1 := { b with prm := { b.prm with persist := none, persistSet := [] } }
      if ok then
        done (({ s1 with prm := { s1.prm with stored := some b.prm.persistSet }, tiles := { s1.tiles with storedImage := bankImage b.prm.persistSet } } : State).finish q
          (okRsp (toLE 4 (gen : Int) ++ toLE 4 (n : Int) ++ toLE 2 (k : Int))))
      else done ((s1.finish q { status := stTimeout }).raise fFlashStore 0xFF) := by
  unfold execApplyPersistDone
  rw [hb]
  simp only [hq, hres]

theorem execFabricApplyDecision_due (hb : s.begin t = b) (hp : b.prm.pend = some p) (hfab : p.fabric = true) (horig : p.origin = b.fab.addr)
    (hopen : p.decision = 0) (hdue : p.n ≤ b.fabN + 8) (hst : b.startupMode = false) :
    execFabricApplyDecision t s = done { b with prm := { b.prm with pend := some { p with
      decision := if p.members ≠ [] ∧ ∀ a ∈ p.members, a ∈ p.acked then 1 else 2 } } } := by
  have hall : (!p.members.isEmpty && p.members.all (fun a => p.acked.contains a)) = decide (p.members ≠ [] ∧ ∀ a ∈ p.members, a ∈ p.acked) := by
    rw [Bool.eq_iff_iff]
    simp
  unfold execFabricApplyDecision
  rw [hb]
  simp only [hp]
  refine (if_pos ⟨hfab, horig, hopen, hdue, Bool.eq_false_iff.mp hst⟩).trans ?_
  simp only [hall, decide_eq_true_eq]

theorem execFabricApplySwitch_due (hb : s.begin t = b) (hp : b.prm.pend = some p) (hfab : p.fabric = true) (hdue : p.n ≤ b.fabN) :
    execFabricApplySwitch t s =
      if p.decision = 1 ∧ p.ownAck then
        if b.cyc.cycling ∧ b.stopsCycling then done b
        else done (applyTake b.fabN (if b.cyc.cycling ∧ b.cyc.n = b.fabN then b.cyc.k else 0) b)
      else if p.decision = 2 ∨ p.origin = b.fab.addr then done (applyCancel p b)
      else
        let s1 := { b with prm := { b.prm with pend := none, frozen := false } }
        done (if p.ownAck then s1.raise fApplyUndecided 0xFF else s1) := by
  unfold execFabricApplySwitch
  rw [hb]
  simp only [hp]
  exact if_neg (by simp [hfab, hdue])

end

/-- Settles O44: the stages after the first keep what the first puts in force. -/
theorem applyMakesTheUndercoatTheTopcoat : Obligations.ApplyMakesTheUndercoatTheTopcoat := by
  intro s n k p hp s1
  obtain ⟨q, set, result, hprm⟩ := applyTake_prm s n k hp
  simp only [s1, hprm, and_self]

/-- Settles O43, from the equation of each event of an APPLY while it waits. -/
theorem applyEventsComplete : Obligations.ApplyEventsComplete := by
  refine ⟨?_, ?_, ?_, ?_, ?_⟩
  · intro s b t p hb hp hprep htiles at_ s1
    have hrun : exec (.applyPrepared t) s = _ := execApplyPrepared_now hb hp hprep htiles
    rw [hrun]
    refine ⟨fun h => if_neg fun ⟨hf, hc⟩ => h.elim hf hc, fun hf hc => if_pos ⟨Bool.eq_false_iff.mp hf, Bool.eq_false_iff.mp hc⟩⟩
  · intro s b t p hb hp hprep hown
    have hrun : exec (.applyTakeEffect t) s = _ := execApplyTakeEffect_own hb hp hprep hown
    rw [hrun]
    refine ⟨fun hc => if_pos (Bool.eq_false_iff.mp hc), fun hc hpos hop hstart => ?_, fun hc hno => ?_⟩
    · exact (if_neg (not_not.mpr hc)).trans (if_pos ⟨hpos, Bool.eq_false_iff.mp hop, hstart⟩)
    · refine (if_neg (not_not.mpr hc)).trans (if_neg fun ⟨hpos, hop, hstart⟩ => ?_)
      exact hno.elim (fun h => Bool.eq_false_iff.mp h hpos) fun h => h.elim hop fun h => hstart.not_gt h
  · intro s b t gen n k q hb hq hres
    exact ⟨execApplyPersistDone_some hb hq hres, execApplyPersistDone_some hb hq hres⟩
  · intro s b t p hb hp hfab horig hopen hdue hst
    exact execFabricApplyDecision_due hb hp hfab horig hopen hdue hst
  · intro s b t p hb hp hfab hdue
    have hrun : exec (.fabricApplySwitch t) s = _ := execFabricApplySwitch_due hb hp hfab hdue
    rw [hrun]
    refine ⟨fun hd ha hc => ?_, fun hd ha hc hst => ?_, fun hd ha hc hst => ?_, fun hd => ?_, fun hd horig ha => ?_⟩
    · have hcyc := Bool.eq_false_iff.mp hc
      rw [if_pos ⟨hd, ha⟩, if_neg fun h => hcyc h.1, if_neg fun h => hcyc h.1]
      rfl
    · rw [if_pos ⟨hd, ha⟩, if_neg fun h => Bool.eq_false_iff.mp hst h.2]
      simp only [hc, true_and]
      rfl
    · exact (if_pos ⟨hd, ha⟩).trans (if_pos ⟨hc, hst⟩)
    · have hno : ¬ (p.decision = 1 ∧ p.ownAck = true) := fun h => by omega
      exact (if_neg hno).trans (if_pos (Or.inl hd))
    · have hno : ¬ (p.decision = 1 ∧ p.ownAck = true) := fun h => by omega
      have hkeep : ¬ (p.decision = 2 ∨ p.origin = b.fab.addr) := fun h => h.elim (by omega) horig
      refine (if_neg hno).trans ((if_neg hkeep).trans ?_)
      exact congrArg done (if_pos ha)

end Sys2Proof.Machine
end

section
/-! SUPPORT. Enables, motion, homing, switches and the encoder emulation: what each of their events does when its condition holds
(R145, R176-R183, R207, R218, R237, R242, R250-R257). -/

namespace Sys2Proof.Machine

section
variable {s b : State} {t : Nat} {a : AxisId} {k : SwitchSel}

/-- The one enable that waits takes effect as it falls due, if every axis of its mask computes. -/
theorem enableDue_one {p : PendEnable} (hpend : b.cyc.pendEnable = [p]) (hdue : p.due b = true) (hready : p.ready b = true) :
    enableDue b = forAxes (maskAxes p.mask) enableAxis { b with cyc := { b.cyc with pendEnable := [{ p with effective := true }] } } := by
  unfold enableDue
  rw [hpend]
  simp [hdue, hready]

theorem execMoveStartAtDue_axis {m : MoveReq} {tag : Nat} {r : List (MoveReq × Nat)} (hb : s.begin t = b) (hw : (b.ax a).prof.waiting = true)
    (hq : (b.ax a).prof.queue = (m, tag) :: r) (hat : m.startAt = true) :
    execMoveStartAtDue t a.val s =
      if b.startNs m.startN ≤ b.ft then done (b.modProf a (fun p => { p with released := true })) else done b := by
  unfold execMoveStartAtDue
  rw [hb]
  simp only [tgtAxis?_val, hw, hq, hat, Bool.true_and, decide_eq_true_eq]

theorem execJogTimeout_some {d : Nat} (hb : s.begin t = b) (hd : (b.ax a).prof.jogUntil = some d) :
    execJogTimeout t a s =
      if d ≤ b.time.lt ∧ (b.ax a).mode = 4 then
        done ((b.modProf a (fun p => { axRamp b a (limitsOf p.lim) p with kind := .jogv, jogUntil := none, jog := none })).raise fJogTimeout a.val)
      else done b := by
  unfold execJogTimeout
  rw [hb]
  simp only [hd]

theorem execStepperHoldReduce_due {since : Nat} (hb : s.begin t = b) (hs : (b.ax a).cur.stp.holdSince = some since) (hmode : (b.ax a).mode = 5)
    (hhold : (b.ax a).cur.stp.holding = false) (hdue : since + b.pn pAxStpHoldDelayMs a.val * 1000000 ≤ b.time.lt) :
    execStepperHoldReduce t a s = done (b.modAxis a (fun x =>
      { x with cur := { x.cur with stp := { x.cur.stp with holding := true, rampStep := 0 } } })) := by
  unfold execStepperHoldReduce
  rw [hb]
  simp only [hs]
  exact if_pos ⟨hmode, Bool.eq_false_iff.mp hhold, hdue⟩

theorem execStopTimeout_axis {d : Nat} (hb : s.begin t = b) (hd : (b.ax a).prof.stopDeadline = some d) (hle : d ≤ b.time.lt)
    (hmoves : (b.ax a).prof.stillRun < 8) :
    execStopTimeout t a s = done ((axisOff a 4 (b.modProf a (fun p => { p with stopDeadline := none }))).raise fStopTimeout a.val) := by
  unfold execStopTimeout
  rw [hb]
  simp only [hd]
  exact if_pos ⟨decide_eq_true hle, hmoves⟩

/-- The phases that end on a switch (R254). -/
theorem execHomePhaseEnd_switch {level : Bool} (hb : s.begin t = b) (hn : (b.ax a).home.next = none)
    (hin : homeInput b a (b.ax a).home.phase = some (k, level)) :
    execHomePhaseEnd t a s =
      if (b.ax a).home.met = true then
        if ((b.ax a).sw k).chatter then done (b.raise fHomeChatter a.val) else done (homeStop a (homeAfter b a (b.ax a).home.phase) b)
      else done b := by
  unfold execHomePhaseEnd
  rw [hb]
  simp only [hn, hin, Option.isSome_none, Bool.false_eq_true, if_false]
  exact ite_not ..

section switch
variable {level : Bool} (hb : s.begin t = b) (hn : (b.ax a).home.next = none) (hin : homeInput b a (b.ax a).home.phase = some (k, level))
include hb hn hin

theorem execHomePhaseEnd_met (hmet : (b.ax a).home.met = true) (hchat : ((b.ax a).sw k).chatter = false) :
    execHomePhaseEnd t a s = done (homeStop a (homeAfter b a (b.ax a).home.phase) b) :=
  (execHomePhaseEnd_switch hb hn hin).trans ((if_pos hmet).trans (if_neg (Bool.eq_false_iff.mp hchat)))

theorem execHomePhaseEnd_chatter (hmet : (b.ax a).home.met = true) (hchat : ((b.ax a).sw k).chatter = true) :
    execHomePhaseEnd t a s = done (b.raise fHomeChatter a.val) :=
  (execHomePhaseEnd_switch hb hn hin).trans ((if_pos hmet).trans (if_pos hchat))

theorem execHomePhaseEnd_unmet (hmet : (b.ax a).home.met = false) : execHomePhaseEnd t a s = done b :=
  (execHomePhaseEnd_switch hb hn hin).trans (if_neg (Bool.eq_false_iff.mp hmet))

end switch

theorem homeInput_target {n : Nat} (h : n = 1 ∨ n = 2) : ∃ level, homeInput b a n = some (homeTarget b a, level) := by
  obtain rfl | rfl := h
  · exact ⟨true, rfl⟩
  · exact ⟨false, rfl⟩

theorem homeInput_isSwitch {n : Nat} (h : n = 1 ∨ n = 2 ∨ n = 3) : ∃ k level, homeInput b a n = some (k, level) := by
  obtain rfl | rfl | rfl := h
  · exact ⟨_, _, rfl⟩
  · exact ⟨_, _, rfl⟩
  · exact ⟨_, _, rfl⟩

theorem homeAfter_one : homeAfter b a 1 = 2 := by simp [homeAfter, homeIsRef]

theorem homeAfter_two : homeAfter b a 2 = if b.pa pAxHomeMethod a = 0 then 6 else 3 := by simp [homeAfter, homeIsRef]

theorem homeAfter_three : homeAfter b a 3 = if b.pa pAxHomeMethod a = 1 then 6 else 4 := by simp [homeAfter, homeIsRef]

/-- The phase that ends on the reference mark. -/
theorem execHomePhaseEnd_mark (hb : s.begin t = b) (hn : (b.ax a).home.next = none) (hphase : (b.ax a).home.phase = 4)
    (href : (b.ax a).home.ref ≠ none) : execHomePhaseEnd t a s = done (homeStop a 6 b) := by
  unfold execHomePhaseEnd
  rw [hb]
  simp only [hn, hphase, homeInput, Option.isSome_none, Bool.false_eq_true, if_false]
  exact if_pos ⟨trivial, Option.isSome_iff_ne_none.mpr href⟩

theorem execHomePressed_due {since : Nat} (hb : s.begin t = b) (hs : (b.ax a).home.pressSince = some since) (hphase : (b.ax a).home.phase = 5)
    (hn : (b.ax a).home.next = none) (hdue : since + b.pn pAxHomePressMs a.val * 1000000 ≤ b.time.lt) :
    execHomePressed t a s =
      let p := (b.ax a).fb.pFb
      done (homeSet a (b.modAxis a (fun x =>
        { x with
          home := { x.home with phase := 6, ref := some (p - x.fb.pRef) }
          vel := velClear x.vel, pSet := p, vSet := 0, aSet := 0
          spEven := { x.spEven with p := p, v := 0, a := 0 }, spOdd := { x.spOdd with p := p, v := 0, a := 0 }
          prof := { x.prof with kind := .stop, plan := restPlan p, vt := 0, sp := ⟨p, 0, 0, true⟩ } }))) := by
  unfold execHomePressed
  rw [hb]
  simp only [hs]
  exact if_pos ⟨hphase, by rw [hn, Option.isNone_none], hdue⟩

theorem homeSees_ignored {level : Bool} (h : homeInput s a (s.ax a).home.phase ≠ some (k, level)) : homeSees a k level s = s :=
  if_neg fun hin => h hin.1

theorem homeSees_met (hin : homeInput s a (s.ax a).home.phase = some (k, level)) (hmet : (s.ax a).home.met = false)
    (hn : (s.ax a).home.next = none) :
    homeSees a k level s =
      let s1 := s.modAxis a (fun x => { x with home := { x.home with met := true } })
      if homeIsRef s a (s.ax a).home.phase then homeRef a k s1 else s1 :=
  if_pos ⟨hin, Bool.eq_false_iff.mp hmet, Or.inl hn⟩

theorem State.modAxis_ax_same (f : Axis → Axis) : (s.modAxis a f).ax a = f (s.ax a) :=
  Vector.getElem_set_self a.isLt

theorem homeRef_home : ((homeRef a k s).ax a).home =
    { (s.ax a).home with ref := if ((s.ax a).sw k).edgePend then none else some ((s.ax a).sw k).stampBase, refWait := ((s.ax a).sw k).edgePend } :=
  congrArg Axis.home (State.modAxis_ax_same ..)

theorem Axis.sw_home_congr (x : Axis) (h : Homing) : ({ x with home := h } : Axis).sw k = x.sw k := by
  cases k <;> rfl

/-- A switch input whose debounce time has passed is taken; the change counts for chatter (R250, R251). -/
theorem execLimitDebounce_due (hb : s.begin t = b) (hpend : ((b.ax a).sw k).pend = true) (hraw : ((b.ax a).sw k).raw ≠ ((b.ax a).sw k).deb)
    (hchat : ((b.ax a).sw k).chatter = false) (hsrc : swSource b a k ≠ 0xFF)
    (htime : ((b.ax a).sw k).tE + b.pa pAxLimDebounceUs a * 4000 ≤ ((b.ax a).sw k).evalAt)
    (hseen : b.pa pAxLimDebounceUs a ≠ 0 ∨ ((b.ax a).sw k).again = true) :
    execLimitDebounce t a k s =
      let l := ((b.ax a).sw k).counted (b.pn pAxLimChatterWindowMs a.val * 1000000) b.time.lt
      let s1 := b.modSw a k (fun w => w.take l (chatters b a l))
      done (swBecame a k (swActive b a k) (if chatters b a l then s1.raise fLimChatter a.val else s1)) := by
  have hdue : ((b.ax a).sw k).due (b.pa pAxLimDebounceUs a) = true := by
    simp [Switch.due, hpend, hraw, htime, hseen]
  unfold execLimitDebounce
  rw [hb]
  exact if_pos ⟨hdue, Bool.eq_false_iff.mp hchat, hsrc⟩

theorem execChatterEnd_due (hb : s.begin t = b) (hchat : ((b.ax a).sw k).chatter = true)
    (htime : max ((b.ax a).sw k).tE ((b.ax a).sw k).chatFrom + b.pa pAxLimStableMs a * 4000000 ≤ 4 * b.ft) :
    execChatterEnd t a k s =
      let s1 := endChatter a (b.modSw a k (fun w => w.take w.changes false))
      if swActive s1 a k then done s1
      else
        let l := ((b.ax a).sw k).counted (b.pn pAxLimChatterWindowMs a.val * 1000000) b.time.lt
        if chatters b a l then
          done ((s1.modSw a k (fun w => { w with changes := l, chatter := true, chatFrom := 4 * b.ft })).raise fLimChatter a.val)
        else done (swBecame a k (swActive b a k) (s1.modSw a k (fun w => { w with changes := l }))) := by
  unfold execChatterEnd
  rw [hb]
  exact if_pos ⟨hchat, htime⟩

end

/-- Settles O45, from the equation of each event once its condition holds. -/
theorem motionHomingAndSwitchEventsComplete : Obligations.MotionHomingAndSwitchEventsComplete := by
  refine ⟨?_, ?_, ?_, ?_, ?_, ?_, ?_, ?_, ?_, ?_, ?_, ?_, ?_⟩
  · intro s b t a hb hc hop
    have hbefore : b.cyc.cycling = true ∧ ¬ b.cyc.opened = true := ⟨hc, Bool.eq_false_iff.mp hop⟩
    subst hb
    exact ⟨if_pos hbefore, if_pos hbefore⟩
  · intro s b t p hb hc hop hpos hpend heff hat hcomp
    have hdue : p.due b = true := by simp [PendEnable.due, heff, hpos, hat]
    have hready : p.ready b = true := List.all_eq_true.mpr hcomp
    rw [← enableDue_one hpend hdue hready]
    have hbefore : b.cyc.cycling = true ∧ ¬ b.cyc.opened = true := ⟨hc, Bool.eq_false_iff.mp hop⟩
    subst hb
    exact if_pos hbefore
  · intro s b t since a hb hs hmode hhold hdue
    exact execStepperHoldReduce_due hb hs hmode hhold hdue
  · intro s b t a m tag r hb hw hq hat
    have hrun : exec (.moveStartAtDue t a.val) s = _ := execMoveStartAtDue_axis hb hw hq hat
    rw [hrun]
    exact ⟨fun h => if_pos h, fun h => if_neg h.not_ge⟩
  · intro s b t d a hb hd
    have hrun : exec (.jogTimeout t a) s = _ := execJogTimeout_some hb hd
    rw [hrun]
    exact ⟨fun h hmode => if_pos ⟨h, hmode⟩, fun h => if_neg fun hh => h.not_ge hh.1⟩
  · intro s b t a hb hstill s1
    subst hb
    have hrun : exec (.standstill t a) s = _ := if_pos hstill
    rw [hrun]
    exact ⟨fun h => congrArg done (if_neg (Bool.eq_false_iff.mp h)), fun h => congrArg done (if_pos h)⟩
  · intro s b t d a hb hd hle hmoves
    exact execStopTimeout_axis hb hd hle hmoves
  · intro s b t a hb hn k
    refine ⟨fun hp hmet hchat => ?_, fun hp hmet hchat hm => ?_, fun hp hmet hchat hm => ?_, fun hp hmet hchat => ?_, fun hp hmet hchat => ?_,
      fun hp hmet => ?_, fun hp href => execHomePhaseEnd_mark hb hn hp href⟩
    · refine (execHomePhaseEnd_met hb hn (by rw [hp]; rfl) hmet hchat).trans ?_
      rw [hp, homeAfter_one]
      rfl
    · refine (execHomePhaseEnd_met hb hn (by rw [hp]; rfl) hmet hchat).trans ?_
      rw [hp, homeAfter_two, if_pos hm]
      rfl
    · refine (execHomePhaseEnd_met hb hn (by rw [hp]; rfl) hmet hchat).trans ?_
      rw [hp, homeAfter_two, if_neg hm]
      rfl
    · obtain ⟨level, hin⟩ := homeInput_target hp
      exact execHomePhaseEnd_chatter hb hn hin hmet hchat
    · refine (execHomePhaseEnd_met hb hn (by rw [hp]; rfl) hmet hchat).trans ?_
      rw [hp, homeAfter_three]
      rfl
    · obtain ⟨k, level, hin⟩ := homeInput_isSwitch hp
      exact execHomePhaseEnd_unmet hb hn hin hmet
  · intro s b t since a hb hs hphase hn hdue p
    exact execHomePressed_due hb hs hphase hn hdue
  · intro s a k active hin hmet hn
    refine ⟨?_, ?_, fun href hedge => ?_⟩
    · rw [homeSees_met hin hmet hn]
      dsimp only
      split
      · rw [homeRef_home, State.modAxis_ax_same]
      · rw [State.modAxis_ax_same]
    · rw [homeSees_ignored (by rw [hin]; simp)]
    · rw [homeSees_met hin hmet hn]
      dsimp only
      rw [if_pos href, homeRef_home, State.modAxis_ax_same, Axis.sw_home_congr, hedge]
      rfl
  · intro s b t a k hb hpend hraw hchat hsrc htime hseen l cnt taken
    have hrun : exec (.limitDebounce t a k) s = _ := execLimitDebounce_due hb hpend hraw hchat hsrc htime hseen
    rw [hrun]
    refine ⟨fun hfew => ?_, fun hcnt hmany => ?_⟩
    · have hno : chatters b a (((b.ax a).sw k).counted (b.pn pAxLimChatterWindowMs a.val * 1000000) b.time.lt) = false :=
        decide_eq_false fun ⟨h0, hlt⟩ => hfew.elim h0 fun h => (h.trans_lt hlt).false
      dsimp only
      rw [hno]
      rfl
    · have hyes : chatters b a (((b.ax a).sw k).counted (b.pn pAxLimChatterWindowMs a.val * 1000000) b.time.lt) = true :=
        decide_eq_true ⟨hcnt, hmany⟩
      dsimp only
      rw [hyes]
      rfl
  · intro s b t a k hb hchat htime s1 l
    have hrun : exec (.chatterEnd t a k) s = _ := execChatterEnd_due hb hchat htime
    rw [hrun]
    exact ⟨fun hact => if_pos hact, fun hact hfew => (if_neg (Bool.eq_false_iff.mp hact)).trans (if_neg (Bool.eq_false_iff.mp hfew)),
      fun hact hmany => (if_neg (Bool.eq_false_iff.mp hact)).trans (if_pos hmany)⟩
  · intro s b t hb
    subst hb
    rfl

end Sys2Proof.Machine
end

section
/-! SUPPORT. Tides and gears: their decisions, switches and losses when the cycle has come (R277-R290). -/

namespace Sys2Proof.Machine

section
variable {s b : State} {t : Nat} {a : AxisId} {i : TideId}

theorem execTideDecision_due {c : TideChange} (hb : s.begin t = b) (hc : (b.tides.get i).pend = some c) (horig : c.origin = true)
    (hopen : c.decision = 0) (hdue : c.n ≤ b.fabN + 8) :
    execTideDecision t i s = done (b.modTide i (fun x => { x with pend := some { c with
      decision := if ∀ a ∈ c.members, a ∈ c.acked then 1 else 2 } })) := by
  have hall : c.members.all (fun a => c.acked.contains a) = decide (∀ a ∈ c.members, a ∈ c.acked) := by
    rw [Bool.eq_iff_iff]
    simp
  unfold execTideDecision
  rw [hb]
  simp only [hc]
  refine (if_pos ⟨horig, hopen, hdue⟩).trans ?_
  simp only [hall, decide_eq_true_eq]

theorem execTideSwitch_some {c : TideChange} (hb : s.begin t = b) (hc : (b.tides.get i).pend = some c) :
    execTideSwitch t i s =
      if b.fabN < c.n ∨ b.applyFirst c.n then done b
      else if c.decision = 1 then
        let d := newDef (b.tides.get i) c
        let s1 := b.modTide i (fun x => { x with defn := some d, old := x.defn, pend := none, st := 1 })
        done (s1.finish? c.req (okRsp (toLE 4 d.gen)))
      else if c.decision = 2 ∨ c.origin then
        let s1 := (b.modTide i (fun x => { x with pend := none })).finish? c.req { status := stTimeout }
        done (if c.origin then s1.raise fTideCancel (0x40 + i.val) else s1)
      else
        let s1 := b.modTide i (fun x => { x with pend := none })
        done (if c.ownAck then tideFetch i (tideDiverges i false s1) else s1) := by
  unfold execTideSwitch
  rw [hb]
  simp only [hc]

theorem execTideAdopt_free {d : TideDef} (hb : s.begin t = b) (hd : (b.tides.get i).fetched = some d) (hst : (b.tides.get i).st = 2)
    (hadopt : (b.tides.get i).adopt = true) (hfree : b.tideAxes i.val = []) :
    execTideAdopt t i s = done ((b.modTide i (fun x =>
      { x with defn := if tideSegs d.body = [] then none else some d, old := x.defn, fetched := none, adopt := false, st := 1, diverged := 0,
               agreed := true })).clearCond fTideDiverged (0x40 + i.val)) := by
  unfold execTideAdopt
  rw [hb]
  simp only [hd]
  refine (if_pos ⟨hst, hadopt, List.isEmpty_iff.mpr hfree⟩).trans ?_
  simp only [List.isEmpty_iff]

/-- A remote master is stale without a record or with one that is too old (R286). -/
theorem remoteStale_of_record {code : Nat} (hkind : fieldOf code 0 8 = 4)
    (hrec : b.pubRec (fieldOf code 16 8) (fieldOf code 8 8) = none ∨
      ∃ r, b.pubRec (fieldOf code 16 8) (fieldOf code 8 8) = some r ∧ b.pn pTideStaleCycles 0 ≤ r.age) : b.remoteStale code = true := by
  unfold State.remoteStale
  obtain hnone | ⟨r, hr, hage⟩ := hrec
  · simp [hkind, hnone]
  · simp [hkind, hr, hage]

theorem execGearEngageBegin_some {c : GCurve} (hb : s.begin t = b) (hc : (b.ax a).gear.next = some c) :
    execGearEngageBegin t a s =
      if ((b.ax a).gear.st = 1 ∨ (b.ax a).gear.st = 3) ∧ c.len ≠ 0 ∧ c.m0 ≤ (b.ax a).gear.mNext then
        done (b.modAxis a (fun x => { x with gear := { x.gear with st := 2 } }))
      else done b := by
  unfold execGearEngageBegin
  rw [hb]
  simp only [hc]

theorem execGearSynced_early {c : GCurve} (hb : s.begin t = b) (hc : (b.ax a).gear.next = some c) (hearly : (b.ax a).gear.mNext < c.mS) :
    execGearSynced t a s = done b := by
  unfold execGearSynced
  rw [hb]
  simp only [hc]
  exact if_neg fun h => h.2.not_gt hearly

theorem execGearSynced_gear {c : GCurve} (hb : s.begin t = b) (hc : (b.ax a).gear.next = some c) (hst : (b.ax a).gear.st ≠ 0)
    (hreached : c.mS ≤ (b.ax a).gear.mNext) (hkind : c.kind ≠ 1) :
    execGearSynced t a s = done ((b.modAxis a (fun x =>
      { x with gear := { x.gear with st := 3, run := { c with len := 0 }, next := none, u := 0 } })).postEvent 0x8005 (b.ax a).gear.tag a.val
        [0xFF]) := by
  unfold execGearSynced
  rw [hb]
  simp only [hc]
  refine (if_pos ⟨hst, hreached⟩).trans ?_
  simp only [decide_eq_false hkind, Bool.false_and, Bool.false_eq_true, if_false]
  rfl

end

/-- Settles O46, from the equation of each event once its cycle or its position has come. -/
theorem tideAndGearEventsComplete : Obligations.TideAndGearEventsComplete := by
  refine ⟨?_, ?_, ?_, ?_, ?_, ?_⟩
  · intro s b t i c hb hc horig hopen hdue
    exact execTideDecision_due hb hc horig hopen hdue
  · intro s b t i c hb hc
    have hrun : exec (.tideSwitch t i) s = _ := execTideSwitch_some hb hc
    rw [hrun]
    have hcome : c.n ≤ b.fabN → b.applyFirst c.n = false → ¬ (b.fabN < c.n ∨ b.applyFirst c.n = true) := fun hle hap h =>
      h.elim hle.not_gt (Bool.eq_false_iff.mp hap)
    refine ⟨fun hle hap hd => (if_neg (hcome hle hap)).trans (if_pos hd), fun hle hap hd horig => ?_, fun h => if_pos h⟩
    refine (if_neg (hcome hle hap)).trans ((if_neg (by omega)).trans ((if_pos (Or.inl hd)).trans ?_))
    exact congrArg done (if_pos horig)
  · intro s b t i d hb hd hst hadopt hfree
    exact execTideAdopt_free hb hd hst hadopt hfree
  · intro s b t i hb hsrc hstale hst
    subst hb
    exact if_pos ⟨hsrc, hstale, hst⟩
  · intro s b t code a hb hmem hkind hfresh hrec
    have hany : (b.ax a).gear.masters.any b.remoteStale = true := List.any_eq_true.mpr ⟨code, hmem, remoteStale_of_record hkind hrec⟩
    subst hb
    exact if_pos ⟨hany, Bool.eq_false_iff.mp hfresh⟩
  · intro s b t a c hb hc
    have hbegin : exec (.gearEngageBegin t a) s = _ := execGearEngageBegin_some hb hc
    rw [hbegin]
    exact ⟨fun hst hlen hm => if_pos ⟨hst, hlen, hm⟩, fun hst hm hkind => execGearSynced_gear hb hc hst hm hkind,
      fun hearly => if_neg fun h => h.2.2.not_gt hearly, fun hearly => execGearSynced_early hb hc hearly⟩

end Sys2Proof.Machine
end

section
/-! SUPPORT. The fabric cycle: anchors, berths, frames of the circuit and the clock correction (R344-R347, R362, R379). -/

namespace Sys2Proof.Machine

section
variable {s b : State} {t i : Nat} {p : PortId} {f : CFrame}

/-- SYNC carries no payload of another node, so its launch changes nothing but the list of the launched. -/
theorem execBerthLaunch_sync {q : PortId} (hb : s.begin t = b) (hdue : b.berthDue i = true) (hkind : (berthOf b.ttBody i).kind = 1)
    (hport : b.launchPort b.portActive = some q) :
    execBerthLaunch t i s = done (({ b with fab := { b.fab with launched := i :: b.fab.launched } } : State).sendFab q
      (sealFrame (frameHead 1 0 b.fab.ttNow b.fab.addr i (b.fabN % 2 ^ 32) (b.lateness (berthOf b.ttBody i).ofs) (syncPayload b)) false)) := by
  have hpay : berthPayload (berthOf b.ttBody i) b = (syncPayload b, b) := if_pos hkind
  have hport' : State.launchPort { b with fab := { b.fab with launched := i :: b.fab.launched } }
      (State.portActive { b with fab := { b.fab with launched := i :: b.fab.launched } }) = some q := hport
  unfold execBerthLaunch
  rw [hb]
  refine (if_pos hdue).trans ?_
  simp only [hpay, hport']
  rw [hkind]
  rfl

/-- A frame at a port that is up is counted, joins the node where it is whole, and goes to its owner's or to another's handling. -/
theorem execBerthFrameRx_up (hb : s.begin t = b) (hlive : b.fabLive = true) (hup : (b.port p).st = 2 ∨ (b.port p).st = 3) :
    execBerthFrameRx t p f s =
      let k := frameState f
      let s1 := countFrame p k b
      if k = 1 ∨ fType f.body < 1 ∨ 4 < fType f.body then done s1
      else
        let s2 := if k = 0 then berthJoin p f s1 else s1
        if fOwner f.body = b.fab.addr ∧ b.fab.addr ≠ 0xFF then
          done (if fCycle f.body = s2.fabN % 2 ^ 32 then berthOwn p f k s2 else s2)
        else done (berthOther p f k s2) := by
  unfold execBerthFrameRx
  rw [hb]
  exact if_neg fun h => h.elim (fun h => h hlive) fun h => h (decide_eq_true hup)

theorem execBerthFrameRx_whole (hb : s.begin t = b) (hlive : b.fabLive = true) (hup : (b.port p).st = 2 ∨ (b.port p).st = 3)
    (hk : frameState f = 0) (hlow : 1 ≤ fType f.body) (hhigh : fType f.body ≤ 4) :
    execBerthFrameRx t p f s =
      if fOwner f.body = b.fab.addr ∧ b.fab.addr ≠ 0xFF then
        done (if fCycle f.body = (berthJoin p f b).fabN % 2 ^ 32 then berthOwn p f 0 (berthJoin p f b) else berthJoin p f b)
      else done (berthOther p f 0 (berthJoin p f b)) := by
  refine (execBerthFrameRx_up hb hlive hup).trans ?_
  rw [hk]
  exact if_neg (by omega)

theorem berthJoin_member (hst : b.fab.st = 5) : berthJoin p f b = { b with fab := { b.fab with heard := some b.time.lt } } :=
  (if_neg (by omega)).trans (if_neg (by omega))

theorem berthJoin_listening (hst : b.fab.st = 1) (hsync : fType f.body = 1) :
    berthJoin p f b = { b with fab := { b.fab with st := 3, stepped := false, joinRun := 0, leader := false, ftValid := false, heard := some b.time.lt } } :=
  if_pos ⟨hst, hsync⟩

theorem berthOwn_back {k : Nat} (hact : b.portActive p = true) (hback : b.isBack b.portActive p = true) : berthOwn p f k b = berthReturn k f.body b :=
  (if_neg (not_not.mpr hact)).trans (if_pos hback)

theorem berthOwn_unmatched (hact : b.portActive p = true) (hback : b.isBack b.portActive p = false) (hnone : b.berthMatch f.body = none) :
    berthOwn p f 0 b = berthForward p f f.body false b := by
  unfold berthOwn
  rw [if_neg (not_not.mpr hact), if_neg (Bool.eq_false_iff.mp hback), hnone]
  rfl

theorem execClockSyncUpdate_idle (hb : s.begin t = b) (h : b.fab.st ≤ 2 ∨ b.fab.synced = true) : execClockSyncUpdate t s = done b := by
  subst hb
  refine if_pos (h.imp (fun hst => ?_) Or.inl)
  have hno : ¬ ((s.begin t).fab.st = 4 ∨ (s.begin t).fab.st = 5 ∨ (s.begin t).fab.st = 6) := by omega
  have hjoin : (s.begin t).fab.st ≠ 3 := by omega
  rw [decide_eq_false hno, decide_eq_false hjoin]
  exact Bool.false_ne_true

/-- The correction that the sources in use give, while nothing is at its limit. -/
theorem execClockSyncUpdate_plain (hb : s.begin t = b) (hst : b.fab.st = 4 ∨ b.fab.st = 5) (hsynced : b.fab.synced = false)
    (hreached : b.ftReached b.fabN b.lastSyncOfs = true) (hfall : b.fab.fallback = false) (hlisted : b.listed ≠ [])
    (hrho : absI b.fab.rho ≠ 112589990684) (hlim : (syncCalc b (b.sourcesFor false b.fab.devs)).limited = false) :
    ∃ f : FabState, execClockSyncUpdate t s = done { b with fab := f } ∧ f.synced = true ∧
      f.mid = (syncCalc b (b.sourcesFor false b.fab.devs)).mid ∧ f.corr = (syncCalc b (b.sourcesFor false b.fab.devs)).corr ∧
      f.rho = (syncCalc b (b.sourcesFor false b.fab.devs)).rho ∧ f.sources = (syncCalc b (b.sourcesFor false b.fab.devs)).count ∧
      f.fallback = false ∧ f.st = b.fab.st ∧ f.addr = b.fab.addr ∧ f.ports = b.fab.ports ∧ f.tables = b.fab.tables := by
  have hruns : ¬ ((decide (b.fab.st = 4 ∨ b.fab.st = 5 ∨ b.fab.st = 6) || (decide (b.fab.st = 3) && b.fab.stepped)) ≠ true ∨
      b.fab.synced = true ∨ ¬ b.ftReached b.fabN b.lastSyncOfs = true) := by
    rw [not_or, not_or, not_not, not_not, Bool.or_eq_true, decide_eq_true_eq]
    exact ⟨Or.inl (hst.imp_right Or.inl), Bool.eq_false_iff.mp hsynced, hreached⟩
  have hallFf : b.listed.isEmpty = false := by simpa using hlisted
  have hnear : ¬ (b.fab.st = 6 ∨ b.fab.st = 3) := by omega
  unfold execClockSyncUpdate
  rw [hb]
  dsimp only
  rw [if_neg hruns]
  simp only [hfall, hallFf, Bool.false_or, Bool.false_and, hlim, Bool.false_eq_true, if_false, hrho, false_and, hnear]
  exact ⟨_, rfl, rfl, rfl, rfl, rfl, rfl, rfl, rfl, rfl, rfl, rfl⟩

end

/-- Settles O47, from the equation of each event of the fabric cycle. -/
theorem fabricCycleEventsComplete : Obligations.FabricCycleEventsComplete := by
  refine ⟨?_, ?_, ?_, ?_, ?_, ?_, ?_⟩
  · intro s b t hb hlt hdom f s1 s2
    subst hb
    exact if_neg fun h => h.elim hlt.not_gt fun h => h hdom
  · intro s b t hb h
    subst hb
    exact if_pos (h.imp_right fun h => Bool.eq_false_iff.mp h)
  · intro s b t i q hb hdue hkind hport
    exact execBerthLaunch_sync hb hdue hkind hport
  · intro s b t i hb hdue
    subst hb
    exact if_neg (Bool.eq_false_iff.mp hdue)
  · intro s b t p f hb hlive hup heard
    refine ⟨fun hk => ?_, fun hk hlow hhigh hst hown => ?_, fun hk hlow hhigh hst hown haddr hcyc hact hback => ?_,
      fun hk hlow hhigh hst hown haddr hcyc hact hback hnone => ?_, fun hk hsync hst hown => ?_, fun hk hlow hhigh hown => ?_⟩
    · refine (execBerthFrameRx_up hb hlive hup).trans ?_
      rw [hk]
      rfl
    · refine (execBerthFrameRx_whole hb hlive hup hk hlow hhigh).trans ?_
      rw [berthJoin_member hst]
      exact if_neg fun h => hown h.1
    · refine (execBerthFrameRx_whole hb hlive hup hk hlow hhigh).trans ?_
      rw [berthJoin_member hst]
      exact (if_pos ⟨hown, haddr⟩).trans (congrArg done ((if_pos hcyc).trans (berthOwn_back (b := heard) hact hback)))
    · refine (execBerthFrameRx_whole hb hlive hup hk hlow hhigh).trans ?_
      rw [berthJoin_member hst]
      exact (if_pos ⟨hown, haddr⟩).trans (congrArg done ((if_pos hcyc).trans (berthOwn_unmatched (b := heard) hact hback hnone)))
    · refine (execBerthFrameRx_whole hb hlive hup hk (by omega) (by omega)).trans ?_
      rw [berthJoin_listening hst hsync]
      exact if_neg fun h => hown h.1
    · refine (execBerthFrameRx_up hb hlive hup).trans ?_
      rw [hk]
      refine (if_neg (by omega)).trans ?_
      exact if_neg fun h => hown h.1
  · intro s b t hb hst hsynced hreached hfall hlisted hrho c hlim
    exact execClockSyncUpdate_plain hb hst hsynced hreached hfall hlisted hrho hlim
  · intro s b t hb h
    exact execClockSyncUpdate_idle hb h

end Sys2Proof.Machine
end

section
/-! SUPPORT. Loss, absence and return of synchronism, the end of a join and lost nodes (R364-R372). -/

namespace Sys2Proof.Machine

/-- The first report of lost nodes names the lowest of them and counts the others as repetitions. -/
theorem execNodesLost_report {s b : State} {t a : Nat} {r : List Nat} (hb : s.begin t = b) (hrep : b.fab.lostRep = false)
    (hbreak : b.atBreak = false) (hlost : sortBy id ((b.fab.missing.filter (fun e => decide (8 ≤ e.2))).map (fun e => e.1)) = a :: r) :
    execNodesLost t s =
      let s1 := settle (({ b with fab := { b.fab with lostRep := true } } : State).raise fNodesLost a)
      let hit := s1.openSlots.filter (fun i => decide ((s1.frec i).code = fNodesLost ∧ (s1.frec i).unit = a))
      done (hit.foldl (fun s i => s.modRec i (fun x => { x with repeat_ := min (1 + r.length) 65535 })) s1) := by
  unfold execNodesLost
  rw [hb]
  dsimp only
  rw [hlost]
  exact if_neg fun h => h.elim (Bool.eq_false_iff.mp hrep) (Bool.eq_false_iff.mp hbreak)

/-- Settles O48, from the condition on which each event of synchronism acts. -/
theorem synchronismEventsComplete : Obligations.SynchronismEventsComplete := by
  refine ⟨?_, ?_, ?_, ?_, ?_⟩
  · intro s b t hb
    subst hb
    exact ⟨fun hrun hfall => if_pos ⟨hrun, Bool.eq_false_iff.mp hfall⟩,
      fun h => if_neg fun ⟨hrun, hfall⟩ => h.elim hrun.not_gt hfall⟩
  · intro s b t hb hst
    subst hb
    exact ⟨fun h => if_pos ⟨hst, h⟩,
      fun hw hsrc hharb => if_neg fun ⟨_, h⟩ => h.elim hw.not_ge fun h => h.elim hsrc.not_ge hharb.not_ge⟩
  · intro s b t hb hst
    subst hb
    exact ⟨fun hrun hholds => if_pos ⟨hst, hrun, (Bool.or_eq_true _ _).mpr hholds⟩, fun hfew => if_neg fun h => hfew.not_ge h.2.1⟩
  · intro s b t hb hst hstep
    subst hb
    exact ⟨fun hrun => if_pos ⟨hst, hstep, hrun⟩, fun hfew => if_neg fun h => hfew.not_ge h.2.2⟩
  · intro s b t a r hb hrep hbreak hlost s1 hit
    exact execNodesLost_report hb hrep hbreak hlost

end Sys2Proof.Machine
end

section
/-! SUPPORT. Ports, probes and the coldstart: what each of their events does when its condition holds (R339-R341, R369, R370). -/

namespace Sys2Proof.Machine

section
variable {s b : State} {t : Nat} {p : PortId} {f : CFrame}

theorem portConditionsEnd_none {x : Port} (hst : x.st ≠ 5) (hdelay : x.delayRep = false) : portConditionsEnd p x s = s := by
  unfold portConditionsEnd
  rw [if_neg hst]
  exact if_neg (Bool.eq_false_iff.mp hdelay)

/-- A port that is lost without a condition of its own is dropped; the loss of an active port is a LINK_DOWN. -/
theorem execLinkDown_lock (hb : s.begin t = b) (hup : (b.port p).st ≠ 0) (hst : (b.port p).st ≠ 5) (hdelay : (b.port p).delayRep = false) :
    execLinkDown t p .lock s = done (if (b.port p).st = 3 then
      ({ dropPort p b with fab := { (dropPort p b).fab with ring := false } } : State).raise fLinkDown (0x68 + p.val) else dropPort p b) := by
  have hon : ¬ ((b.port p).st = 0 ∨ ¬ true = true) := by simp [hup]
  unfold execLinkDown
  rw [hb]
  exact (if_neg hon).trans (congrArg done (portConditionsEnd_none hst hdelay))

theorem execProbeSend_unaligned {stamp a : Nat} (hb : s.begin t = b) (hlive : b.fabLive = true) (hst : (b.port p).st = 1)
    (hft : b.fab.ftValid = false) (ha : (b.port p).probeAt = some a) (hdue : a + 1000000 ≤ b.time.lt) :
    execProbeSend t p stamp s =
      let s2 := b.sendFab p (sealFrame (frameHead 0x20 0 0xFF b.fab.addr 0 (b.fabN % 2 ^ 32) 0 (probePayload b p)) false)
      let s3 := s2.modPort p (fun x => { x with
        txPrev := x.txStamp, txStamp := some (s2.ftFine8 stamp), probeAt := some s2.time.lt, readySent := b.readyAt p
        probes := if x.seen then x.probes else 0, missed := if x.seen ∨ x.probeAt.isNone then 0 else x.missed + 1, seen := false })
      done { s3 with fab := { s3.fab with launched := probeMark p :: s3.fab.launched } } := by
  have hsend : ¬ (¬ b.fabLive = true ∨ (b.port p).st = 0 ∨ ¬ decide (a + 1000000 ≤ b.time.lt) = true) := by simp [hlive, hst, hdue]
  have hinactive : ¬ ((b.port p).st = 2 ∧ (b.port p).ready = true ∧ ¬ b.tableBlocks (b.port p) = true) := fun h => by omega
  unfold execProbeSend
  rw [hb]
  simp only [hft, ha, Bool.false_eq_true, if_false]
  rw [if_neg hsend, if_neg hinactive]

/-- A probe that gives no sample starts the count of probes again. -/
theorem execProbeRx_unsampled (hb : s.begin t = b) (hlive : b.fabLive = true) (hst : (b.port p).st ≠ 0) (hk : frameState f = 0)
    (htype : fType f.body = 0x20) (hlen : (fPayload f.body).length = 40)
    (hsample : probeSample (b.port p) (b.ftFine8 f.stamp) (getS (fPayload f.body) 8 8) (getS (fPayload f.body) 16 8) = none) :
    execProbeRx t p f s = done (admitPort p (getU (fPayload f.body) 24 8) (getU (fPayload f.body) 32 1) (getU (fPayload f.body) 35 1)
      (alignEnd p (b.modPort p (fun _ => { b.port p with
        probes := 0, seen := true, rxStamp := some (b.ftFine8 f.stamp), nUid := getU (fPayload f.body) 0 8, nAddr := getU (fPayload f.body) 34 1
        nLeader := getU (fPayload f.body) 24 8 })))) := by
  have hcount : countFrame p 0 b = b := rfl
  have hup : ¬ (¬ b.fabLive = true ∨ (b.port p).st = 0) := by simp [hlive, hst]
  have hprobe : ¬ ((0 : Nat) ≠ 0 ∨ fType f.body ≠ 0x20 ∨ (fPayload f.body).length ≠ 40) := by simp [htype, hlen]
  unfold execProbeRx
  rw [hb]
  dsimp only
  rw [if_neg hup, hk, if_neg hprobe]
  simp only [hcount, hsample]

theorem execColdstartEntry_quiet {a : Nat} (hb : s.begin t = b) (hst : b.fab.st = 1) (ha : b.fab.listenSince = some a)
    (hwaited : a + 4000000 ≤ b.time.lt) (hallowed : b.p1 pModColdstartAllowed 0 = 1) (hquiet : ∀ h, b.fab.heard = some h → h + 4000000 ≤ b.time.lt) :
    execColdstartEntry t s =
      if b.cyc.cycling then done { b with fab := { b.fab with st := 2, corr := 0, corrNow := 0, corrPrev := 0, coldSent := 0 } }
      else done { b with fab := { b.fab with st := 2, rho := 0, corr := 0, corrNow := 0, corrPrev := 0, coldSent := 0 }
                         time := { b.time with anchors := [⟨b.time.lt / max 1 b.cycleNs, b.time.lt, (b.time.lt : Int) * 65536, 0⟩] } } := by
  unfold execColdstartEntry
  rw [hb]
  simp only [ha]
  cases hheard : b.fab.heard with
  | none => exact if_pos ⟨hst, decide_eq_true hwaited, Or.inr ⟨hallowed, rfl⟩⟩
  | some h => exact if_pos ⟨hst, decide_eq_true hwaited, Or.inr ⟨hallowed, decide_eq_true (hquiet h hheard)⟩⟩

theorem execColdstartSend_entry (hb : s.begin t = b) (hlive : b.fabLive = true) (hst : b.fab.st = 2)
    (hfree : b.fab.launched.contains coldMark = false) :
    execColdstartSend t s =
      let x := sealFrame (frameHead 0x21 0 0xFF b.fab.addr 0 (b.fabN % 2 ^ 32) (b.lateness 0) (coldPayload b.host.ident.uid b.cycleNs 0)) false
      let s1 := (allPorts.filter b.portUp).foldl (fun s p => s.sendFab p x) b
      let s2 := { s1 with fab := { s1.fab with launched := coldMark :: b.fab.launched, coldSent := b.fab.coldSent + 1 } }
      done (if 8 ≤ b.fab.coldSent + 1 then
        { s2 with fab := { s2.fab with st := 4, leader := true, leaderUid := b.host.ident.uid, ftValid := true, startupRun := 0 } } else s2) := by
  have hsend : ¬ (¬ b.fabLive = true ∨ b.fab.launched.contains coldMark = true ∨ ¬ (b.fab.st = 2 ∨ b.fab.st = 4 ∧ b.fab.leader = true ∧ b.startupMode = true)) := by
    simp only [hlive, hfree, hst, true_or, not_true_eq_false, Bool.false_eq_true, or_false, not_false_eq_true]
  have hnot4 : ¬ (b.fab.st = 4 ∧ b.fab.coldSent + 1 = 8) := by omega
  unfold execColdstartSend
  rw [hb]
  dsimp only
  rw [if_neg hsend, if_neg hnot4]
  simp only [hst, true_and]

/-- A coldstart frame of another node at the same cycle time is forwarded and judged. -/
theorem execColdstartRx_other {uid : Nat} (hb : s.begin t = b) (hlive : b.fabLive = true) (hup : b.portUp p = true) (hk : frameState f = 0)
    (htype : fType f.body = 0x21) (hlen : (fPayload f.body).length = 16) (huid : getU (fPayload f.body) 0 8 = uid) (hne : uid ≠ b.host.ident.uid)
    (hnew : (uid, fCycle f.body) ∉ b.fab.coldSeen) (hcyc : getU (fPayload f.body) 8 4 = b.cycleNs)
    (hrec : ∀ i ∈ b.openSlots, (b.frec i).code ≠ fCycleMismatch) :
    execColdstartRx t p f s = done (coldTake p f uid (coldForward p f.stamp f.body
      { b with fab := { b.fab with coldSeen := ((uid, fCycle f.body) :: b.fab.coldSeen).take 64, heard := some b.time.lt } })) := by
  have hcount : countFrame p 0 b = b := rfl
  have hports : ¬ (¬ b.fabLive = true ∨ ¬ b.portUp p = true) := by simp [hlive, hup]
  have htaken : ¬ ((0 : Nat) ≠ 0 ∨ fType f.body ≠ 0x21 ∨ (fPayload f.body).length ≠ 16 ∨ uid = b.host.ident.uid ∨
      b.fab.coldSeen.contains (uid, fCycle f.body) = true) := by
    simp [htype, hlen, hne, hnew]
  have hsame : ¬ getU (fPayload f.body) 8 4 ≠ b.cycleNs := not_not.mpr hcyc
  have hnone : b.openSlots.any (fun i => decide ((b.frec i).code = fCycleMismatch)) = false :=
    List.any_eq_false.mpr fun i hi => by simpa using hrec i hi
  unfold execColdstartRx
  rw [hb]
  dsimp only
  rw [if_neg hports, hk, huid, if_neg htaken, hcount, if_neg hsame, hnone]
  rfl

end

/-- Settles O49, from the equation of each event of the ports and of the coldstart. -/
theorem portAndColdstartEventsComplete : Obligations.PortAndColdstartEventsComplete := by
  refine ⟨?_, ?_, ?_, ?_, ?_, ?_, ?_⟩
  · intro s b t p hb hlive hst hen
    subst hb
    exact ⟨fun hmask => if_pos ⟨hlive, hst, hen, Bool.eq_false_iff.mp hmask⟩, fun hmask => if_neg fun h => h.2.2.2 hmask⟩
  · intro s b t p hb hdelay
    refine ⟨fun hst => ?_, fun hst => ?_, fun hst => ?_, fun hmissed => ?_⟩
    · exact (execLinkDown_lock hb (by omega) (by omega) hdelay).trans (congrArg done (if_neg (by omega)))
    · exact (execLinkDown_lock hb (by omega) (by omega) hdelay).trans (congrArg done (if_pos hst))
    · subst hb
      exact if_pos (Or.inl hst)
    · subst hb
      exact if_pos (Or.inr fun h => hmissed.not_ge (of_decide_eq_true h))
  · intro s b t stamp a p hb hlive hst hft ha hdue s2 s3
    exact execProbeSend_unaligned hb hlive hst hft ha hdue
  · intro s b t p f hb hlive hst hk htype hlen q x at_ hsample
    exact execProbeRx_unsampled hb hlive hst hk htype hlen hsample
  · intro s b t a hb hst ha hwaited hallowed hquiet
    have hrun : exec (.coldstartEntry t) s = _ := execColdstartEntry_quiet hb hst ha hwaited hallowed hquiet
    rw [hrun]
    exact ⟨fun hc => if_neg (Bool.eq_false_iff.mp hc), fun hc => if_pos hc⟩
  · intro s b t hb hlive hst hfree x s1 s2
    have hrun : exec (.coldstartSend t) s = _ := execColdstartSend_entry hb hlive hst hfree
    rw [hrun]
    exact ⟨fun h => congrArg done (if_neg (by omega)), fun h => congrArg done (if_pos (by omega))⟩
  · intro s b t uid p f hb hlive hup hk htype hlen huid hne hnew hcyc hrec
    exact execColdstartRx_other hb hlive hup hk htype hlen huid hne hnew hcyc hrec

end Sys2Proof.Machine
end

section
/-! SUPPORT. Census, addresses, START frames, timetables and the ferry: what each of their events does when its condition holds
(R348-R358, R443). -/

namespace Sys2Proof.Machine

section
variable {s b : State} {t : Nat} {p : PortId} {f : CFrame}

theorem portHears (hlive : b.fabLive = true) (hup : b.portUp p = true) : ¬ (¬ b.fabLive = true ∨ ¬ b.portUp p = true) := fun h =>
  h.elim (fun h => h hlive) fun h => h hup

theorem wholeFrame {kind len : Nat} {x : List Byte} (htype : fType f.body = kind) (hlen : len ≤ x.length) :
    ¬ ((0 : Nat) ≠ 0 ∨ fType f.body ≠ kind ∨ x.length < len) := by
  rintro (h | h | h)
  · exact h rfl
  · exact h htype
  · exact h.not_ge hlen

/-- A census of another node that this node has passed on comes in again: at a port where it was sent it goes on, at another it closes. -/
theorem execCensusRx_again {l : List Nat} (hb : s.begin t = b) (hlive : b.fabLive = true) (hup : b.portUp p = true) (hk : frameState f = 0)
    (htype : fType f.body = 0x22) (hlen : 16 ≤ (fPayload f.body).length) (hfwd : bitOf (getU f.body 1 1) 1 = false)
    (huid : getU (fPayload f.body) 0 8 ≠ b.host.ident.uid) (hcensus : b.fab.census = some (censusKey (fPayload f.body), l)) :
    execCensusRx t p f s =
      let q := fPayload f.body
      let s1 := { b with fab := { b.fab with heard := some b.time.lt } }
      let s2 := s1.modPort p (fun x => { x with closing := true })
      if l.contains p.val then done (sendCensus p (nextPort s1.censusOk p) f false q s1)
      else done (sendCensus p p f true (censusUpdate s2 q) s2) := by
  have hcount : countFrame p 0 b = b := rfl
  unfold execCensusRx
  rw [hb]
  dsimp only
  rw [if_neg (portHears hlive hup), hk, if_neg (wholeFrame htype hlen)]
  simp only [hcount, hcensus, hfwd, huid, Bool.false_eq_true, if_true, if_false, false_and]

/-- The first census that a node hears makes the port its parent. -/
theorem execCensusRx_first (hb : s.begin t = b) (hlive : b.fabLive = true) (hup : b.portUp p = true) (hk : frameState f = 0)
    (htype : fType f.body = 0x22) (hlen : 16 ≤ (fPayload f.body).length) (hfwd : bitOf (getU f.body 1 1) 1 = false)
    (hcensus : b.fab.census = none) (hidle : b.fab.discover = none) :
    execCensusRx t p f s =
      let q := fPayload f.body
      let s1 := allPorts.foldl (fun s q => s.modPort q (fun x => { x with closing := false })) { b with fab := { b.fab with heard := some b.time.lt } }
      let s2 := { s1 with fab := { s1.fab with parent := some p.val, depth := getU q 8 1 + 1, census := some (censusKey q, []) } }
      done (sendCensus p (nextPort s2.censusOk p) f false
        (censusHead (getU q 0 8) (getU q 8 1 + 1) (getU q 9 1) ++ q.drop 16 ++ censusEntry s2 (getU q 8 1 + 1) p.val) s2) := by
  have hcount : countFrame p 0 b = b := rfl
  unfold execCensusRx
  rw [hb]
  dsimp only
  rw [if_neg (portHears hlive hup), hk, if_neg (wholeFrame htype hlen)]
  simp only [hcount, hcensus, hidle, hfwd, Bool.false_eq_true, if_false]

/-- A table of addresses that the node has not taken ends its census and goes on. -/
theorem execAssignRx_new (hb : s.begin t = b) (hlive : b.fabLive = true) (hup : b.portUp p = true) (hk : frameState f = 0)
    (htype : fType f.body = 0x23) (hidle : b.fab.discover = none) (hnew : b.fab.topoCrc ≠ crc32 (fPayload f.body))
    (hafter : (applyAssign (fPayload f.body) (fOwner f.body) (assignEntries (fPayload f.body)) b).fab.discover = none) :
    execAssignRx t p f s =
      let a := applyAssign (fPayload f.body) (fOwner f.body) (assignEntries (fPayload f.body)) b
      let s1 := { a with fab := { a.fab with census := none } }
      done (relay p (nextPort s1.startOk p) f.stamp f.body s1) := by
  have hcount : countFrame p 0 b = b := rfl
  have hwhole : ¬ ((0 : Nat) ≠ 0 ∨ fType f.body ≠ 0x23) := by simp [htype]
  have htakes : ¬ (b.fab.discover.isSome = true ∨ b.fab.topoCrc = crc32 (fPayload f.body) ∧ b.fab.census.isNone = true) := by
    simp [hidle, hnew]
  unfold execAssignRx
  rw [hb]
  dsimp only
  rw [if_neg (portHears hlive hup), hk, if_neg hwhole, hcount, if_neg htakes]
  exact if_neg fun h => absurd h.1 (by rw [hafter]; exact Bool.false_ne_true)

theorem execStartFrameRx_heard (hb : s.begin t = b) (hlive : b.fabLive = true) (hup : b.portUp p = true) (hk : frameState f = 0)
    (htype : fType f.body = 0x24) (hlen : 48 ≤ (fPayload f.body).length) :
    execStartFrameRx t p f s =
      let q := fPayload f.body
      let r := startTake q b
      let map := if r.1 = true ∧ ¬ bitOf (getU q 16 32) b.fab.addr = true then getU q 16 32 + b.ownBit else getU q 16 32
      if fOwner f.body = b.fab.addr then
        if b.isBack b.startOk p then done (startBack q b) else done (relay p (nextPort b.startOk p) f.stamp f.body b)
      else done (relay p (nextPort r.2.startOk p) f.stamp (f.body.take 16 ++ q.take 16 ++ toLE 32 (map : Int) ++ q.drop 48 ++ toLE 4 0) r.2) := by
  unfold execStartFrameRx
  rw [hb]
  dsimp only
  rw [if_neg (portHears hlive hup), hk]
  exact if_neg (wholeFrame htype hlen)

theorem execTimetableSwitchAt_cycling {q : TtPend} (hb : s.begin t = b) (hq : b.fab.ttPend = some q) (hcyc : q.startup = false) :
    execTimetableSwitchAt t s =
      if b.fabN < q.n + 2 then done b
      else if q.members ≠ [] ∧ ∀ a ∈ q.members, a ∈ q.acked then done ((setTimetable q.tt b).finish? q.req (okRsp []))
      else
        let s1 := { b with fab := { b.fab with ttPend := none, ttReq := none, ttAck := none } }
        done (if q.own then (s1.finish? q.req { status := stTimeout }).raise fTtAbandon 0xFF else s1) := by
  have hall : (!q.members.isEmpty && q.members.all (fun a => q.acked.contains a)) = decide (q.members ≠ [] ∧ ∀ a ∈ q.members, a ∈ q.acked) := by
    rw [Bool.eq_iff_iff]
    simp
  unfold execTimetableSwitchAt
  rw [hb]
  simp only [hq, hcyc, Bool.false_eq_true, if_false, hall, decide_eq_true_eq]

/-- The one message of the ferry that waits for its acknowledgement is due after 4 cycles. -/
theorem execFerryRetransmit_due {n l : Nat} {m : FerryMsg} (hb : s.begin t = b) (hout : b.fab.ferryOut = [m]) (hagain : m.again = false)
    (hsent : m.sentAt = some (n, l)) (hdue : n + 4 ≤ b.fabN) :
    (m.repeats < 8 → execFerryRetransmit t m.msg m.seg s =
      done { b with fab := { b.fab with ferryOut := [{ m with repeats := m.repeats + 1, again := true }] } }) ∧
    (∀ q, 8 ≤ m.repeats → m.kind = 1 → m.req = some q → execFerryRetransmit t m.msg m.seg s =
      done (({ b with fab := { b.fab with ferryOut := [] } } : State).respond q m.region.1 { status := stUnreachable })) ∧
    (8 ≤ m.repeats → m.kind ≠ 1 → execFerryRetransmit t m.msg m.seg s = done { b with fab := { b.fab with ferryOut := [] } }) := by
  unfold execFerryRetransmit
  rw [hb]
  refine ⟨fun hfew => ?_, fun q hmany hkind hreq => ?_, fun hmany hkind => ?_⟩
  · simp [hout, hagain, hsent, hdue, hfew.not_ge]
  · simp [hout, hagain, hsent, hdue, hmany, hkind, hreq]
  · simp only [hout, hagain, hsent, hdue, hmany, List.find?_cons, List.filter_cons, List.filter_nil, and_self, decide_true, Bool.not_false, Bool.and_self,
      Bool.not_true, Bool.false_eq_true, if_true, if_false]
    split
    next hk _ => exact absurd hk hkind
    next => rfl

theorem execTimetableLoadTimeout_some {l : TtLoad} (hb : s.begin t = b) (hl : b.fab.ttLoad = some l) :
    execTimetableLoadTimeout t s =
      if l.since + 256 ≤ b.fabN then
        done (({ b with fab := { b.fab with ttLoad := none } } : State).finish? l.req { status := stTimeout })
      else done b := by
  unfold execTimetableLoadTimeout
  rw [hb]
  simp only [hl]

end

/-- Settles O50, from the equation of each event of the fabric's protocols. -/
theorem discoveryTimetableAndFerryEventsComplete : Obligations.DiscoveryTimetableAndFerryEventsComplete := by
  refine ⟨?_, ?_, ?_, ?_, ?_, ?_, ?_, ?_, ?_, ?_, ?_⟩
  · intro s b t p f l hb hlive hup hk htype hlen hfwd huid hcensus q s1 s2
    have hrun : exec (.censusRx t p f) s = _ := execCensusRx_again hb hlive hup hk htype hlen hfwd huid hcensus
    rw [hrun]
    exact ⟨fun h => if_pos h, fun h => if_neg (Bool.eq_false_iff.mp h)⟩
  · intro s b t p f hb hlive hup hk htype hlen hfwd hcensus hidle q uid depth s1 s2
    exact execCensusRx_first hb hlive hup hk htype hlen hfwd hcensus hidle
  · intro s b t f hb hk htype hlen huid hown hlive
    subst hb
    exact if_pos ⟨hk, htype, hlen, huid, hown, hlive⟩
  · intro s b t p f hb hlive hup hk htype hidle hnew a s1 hafter
    exact execAssignRx_new hb hlive hup hk htype hidle hnew hafter
  · intro s b t hb hharb hst hstart hrun hauto hidle
    subst hb
    exact if_pos ⟨hharb, hst, hstart, hrun, Bool.eq_false_iff.mp hauto, by rw [hidle]; rfl⟩
  · intro s b t p f hb hlive hup hk htype hlen q
    have hrun : exec (.startFrameRx t p f) s = _ := execStartFrameRx_heard hb hlive hup hk htype hlen
    rw [hrun]
    refine ⟨fun hown hback => (if_pos hown).trans (if_pos hback), fun hown => ?_⟩
    simp only [Bool.not_eq_true]
    exact if_neg hown
  · intro s b t p hb hp hcyc
    have hrun : exec (.timetableSwitchAt t) s = _ := execTimetableSwitchAt_cycling hb hp hcyc
    rw [hrun]
    refine ⟨fun hlt => if_pos hlt, fun hle hne hall => (if_neg hle.not_gt).trans (if_pos ⟨hne, hall⟩), fun hle hown ⟨a, ha, hno⟩ => ?_⟩
    refine (if_neg hle.not_gt).trans ((if_neg fun h => hno (h.2 a ha)).trans ?_)
    exact congrArg done (if_pos hown)
  · intro s b t x hb
    subst hb
    exact ⟨fun h => if_pos h, fun h => if_neg (Bool.eq_false_iff.mp h)⟩
  · intro s b t n l m hb hout hagain hsent hdue
    exact execFerryRetransmit_due hb hout hagain hsent hdue
  · intro s b t hb hharb hst ⟨n, hn, hsilent⟩
    have hgone : b.fab.nodes.any (fun n => !b.heardNodes.contains n.addr) = true := List.any_eq_true.mpr ⟨n, hn, by simpa using hsilent⟩
    subst hb
    exact ⟨fun hdue => if_pos ⟨hharb, hst, hgone, hdue⟩, fun hearly => if_neg fun h => hearly.not_ge h.2.2.2⟩
  · intro s b t l hb hl
    have hrun : exec (.timetableLoadTimeout t) s = _ := execTimetableLoadTimeout_some hb hl
    rw [hrun]
    exact ⟨fun h => if_pos h, fun h => if_neg h.not_ge⟩

end Sys2Proof.Machine
end

section
/-! SUPPORT. Network time: the PTP port, the PPS input, the source's records, holdover and the KEEP counter (R385-R391, R402, R403). -/

namespace Sys2Proof.Machine

section
variable {s b : State} {t : Nat}

section ptp
variable (hb : s.begin t = b) (hmode : b.p1 pTimePtpMode 0 ≠ 0)
include hb hmode

/-- The first master that a port hears is the one it takes. -/
theorem execPtpMessageRx_announce {rank : List Nat} {steps gm q : Nat} {utc : Int} {l61 l59 : Bool} (hm : b.time.master = none) :
    execPtpMessageRx t (.announce (b.pn pTimePtpDomain 0) rank steps gm q utc l61 l59) s =
      let m : Master := { rank := rank, steps := steps, gmId := gm, quality := q, utcOffset := utc, leap61 := l61, leap59 := l59 }
      let st := ptpDecide b m
      done { b with time := { b.time with
        master := some m, portState := st, lastSync := if st = 9 ∧ b.time.portState ≠ 9 then some b.time.lt else b.time.lastSync
        isSource := b.time.isSource && (decide (b.p1 pTimeNtSource 0 ≠ 1) || decide (st = 9)) } } := by
  unfold execPtpMessageRx
  rw [hb]
  dsimp only
  rw [if_neg hmode]
  simp only [hm]
  exact if_neg (not_not.mpr rfl)

theorem execPtpMessageRx_sync {stamp : Nat} {origin corr : Int} (hst : b.time.portState = 9) :
    execPtpMessageRx t (.sync (b.pn pTimePtpDomain 0) stamp origin corr) s =
      let t1 := origin + corr
      let t2 := b.ntStamp stamp
      let s1 := ({ b with time := { b.time with lastSync := some b.time.lt, ptpSync := some (t1, t2) } } : State).clearCond fPtpLost 0xFF
      done (if b.p1 pTimeNtSource 0 = 1 then ntMeasure (t2 - t1 - b.time.ptpPath) s1 else s1) := by
  unfold execPtpMessageRx
  rw [hb]
  exact (if_neg hmode).trans (if_neg fun h => h.elim (fun h => h rfl) fun h => h hst)

theorem execPtpMessageRx_delayResp {t1 t2 t3 t4 : Int} (hst : b.time.portState = 9) (hdelay : b.p1 pTimePtpDelay 0 = 0)
    (hsync : b.time.ptpSync = some (t1, t2)) (hreq : b.time.ptpReq = some t3) :
    execPtpMessageRx t (.delayResp (b.pn pTimePtpDomain 0) t4) s =
      done { b with time := { b.time with ptpPath := ptpDelay t1 t2 t3 t4, ptpReq := none } } := by
  unfold execPtpMessageRx
  rw [hb]
  dsimp only
  rw [if_neg hmode]
  simp only [hsync, hreq]
  exact if_neg fun h => h.elim (fun h => h rfl) fun h => h.elim (fun h => h hst) fun h => h hdelay

theorem execPtpMessageRx_pdelayResp {stamp : Nat} {t1 t2 t3 : Int} (hdelay : b.p1 pTimePtpDelay 0 = 1) (hreq : b.time.ptpReq = some t1) :
    execPtpMessageRx t (.pdelayResp (b.pn pTimePtpDomain 0) stamp t2 t3) s =
      done { b with time := { b.time with ptpPath := ptpDelay t1 t2 t3 (b.ntStamp stamp), ptpReq := none } } := by
  unfold execPtpMessageRx
  rw [hb]
  dsimp only
  rw [if_neg hmode]
  simp only [hreq]
  exact if_neg fun h => h.elim (fun h => h rfl) fun h => h hdelay

end ptp

/-- Only a port in LISTENING can find itself without a master. -/
theorem ptpNotAlone (hst : b.time.portState ≠ 4) (w : Bool) :
    ¬ (decide (b.p1 pTimePtpMode 0 = 2 ∧ b.time.portState = 4 ∧ b.time.master = none) && w) = true := fun h =>
  hst (of_decide_eq_true (Bool.and_elim_left h)).2.1

section send
variable (hb : s.begin t = b) (heth : b.host.ethUp = true)
include hb heth

theorem execPtpMessageSend_sync (hst : b.time.portState = 6) :
    execPtpMessageSend t .sync s = done { b with out := { b.out with ptp := b.out.ptp ++ [.sync b.ntEgress] } } := by
  unfold execPtpMessageSend
  rw [hb]
  dsimp only
  rw [if_neg (ptpNotAlone (by omega) _)]
  exact congrArg done (if_pos ⟨decide_eq_true hst, heth⟩)

theorem execPtpMessageSend_announce (hst : b.time.portState = 6) :
    execPtpMessageSend t .announce s = done { b with out := { b.out with ptp := b.out.ptp ++ [b.announced] } } := by
  unfold execPtpMessageSend
  rw [hb]
  dsimp only
  rw [if_neg (ptpNotAlone (by omega) _)]
  exact congrArg done (if_pos ⟨decide_eq_true hst, heth⟩)

theorem execPtpMessageSend_delayReq (hst : b.time.portState = 9) :
    execPtpMessageSend t .delayReq s =
      done { b with out := { b.out with ptp := b.out.ptp ++ [.delayReq] }, time := { b.time with ptpReq := some b.ntEgress } } := by
  unfold execPtpMessageSend
  rw [hb]
  dsimp only
  rw [if_neg (ptpNotAlone (by omega) _)]
  exact congrArg done (if_pos ⟨decide_eq_true (Or.inl hst), heth⟩)

end send

theorem execPtpLost_slave {l : Nat} (hb : s.begin t = b) (hst : b.time.portState = 9) (hl : b.time.lastSync = some l) :
    execPtpLost t s =
      if l + 6000000000 ≤ b.time.lt then
        done (({ b with time := { b.time with portState := 4, master := none, ptpSync := none, ptpReq := none, ptpPath := 0
                                              isSource := b.time.isSource && decide (b.p1 pTimeNtSource 0 ≠ 1) } } : State).raise fPtpLost 0xFF)
      else done b := by
  unfold execPtpLost
  rw [hb]
  simp only [hst, hl, true_and, decide_eq_true_eq]

theorem execPpsiEdge_first (hb : s.begin t = b) (hl : b.time.ppsiLast = none) :
    execPpsiEdge t s = done { b with time := { b.time with ppsiLast := some b.ftNow } } := by
  unfold execPpsiEdge
  rw [hb]
  simp only [hl]

theorem execPpsiEdge_again {l : Int} (hb : s.begin t = b) (hl : b.time.ppsiLast = some l) (hsrc : b.p1 pTimeNtSource 0 ≠ 2) :
    execPpsiEdge t s =
      if -100000 * 65536 ≤ b.ftNow - l - secFine ∧ b.ftNow - l - secFine < 100000 * 65536 then
        done { b with time := { b.time with ppsiLast := some b.ftNow, ppsiOk := true } }
      else done (({ b with time := { b.time with ppsiOk := false, ppsiBad := incSat 32 b.time.ppsiBad } } : State).raise fPpsBad 0xFF) := by
  unfold execPpsiEdge
  rw [hb]
  simp only [hl]
  have hnt : ∀ x y : Host.Outcome State Fault Refusal, (if b.p1 pTimeNtSource 0 = 2 then x else y) = y := fun x y => if_neg hsrc
  exact if_congr Iff.rfl (hnt _ _) rfl

theorem execPpsiEdge_bad {l : Int} (hb : s.begin t = b) (hl : b.time.ppsiLast = some l)
    (hbad : b.ftNow - l - secFine < -100000 * 65536 ∨ 100000 * 65536 ≤ b.ftNow - l - secFine) :
    execPpsiEdge t s = done (({ b with time := { b.time with ppsiOk := false, ppsiBad := incSat 32 b.time.ppsiBad } } : State).raise fPpsBad 0xFF) := by
  unfold execPpsiEdge
  rw [hb]
  simp only [hl]
  exact if_neg fun h => hbad.elim h.1.not_gt h.2.not_ge

theorem queueNt_empty {r : NtRec} (hnext : b.time.ntNext = none) (hlater : b.time.ntLater = []) :
    queueNt r b = { b with time := { b.time with ntNext := some r } } := by
  simp [queueNt, hnext, hlater]

/-- The source's next record continues the one in force; with a PPS input it carries no UTC offset (R385). -/
theorem execNtRecordSend_pps {n : Nat} {r : NtRec} (hb : s.begin t = b) (hsource : b.time.isSource = true) (hsent : b.time.ntSent = some n)
    (hdue : n + 16 ≤ b.fabN) (hstep : b.time.stepDue = none) (hnt : b.time.nt = some r) (hvalid : r.valid = true) (hnext : b.time.ntNext = none)
    (hlater : b.time.ntLater = []) (hpps : b.p1 pTimeNtSource 0 = 2) (hst : b.fab.st ≠ 5) :
    execNtRecordSend t s = done { b with time := { b.time with
      ntNext := some { gen := (r.gen + 1) % 2 ^ 32, applyN := b.fabN + 8, o := r.offsetAt (b.startOf (b.fabN + 8) * 65536), valid := true, step := false
                       utcValid := false, leap61 := false, leap59 := false, slew := b.time.servoS, utcOffset := 0, source := b.fab.addr
                       gmId := b.ntOwn.2.1, gmQuality := b.ntOwn.1, steps := b.ntOwn.2.2, sN := b.startOf (b.fabN + 8) * 65536 }
      ntSent := some b.fabN, stepDue := none } } := by
  have hnewest : b.ntNewest = some r := by simp [State.ntNewest, hlater, hnext, hnt]
  have hntValid : b.ntValid = true := by simp [State.ntValid, hnt, hvalid]
  have hsends : ¬ (¬ b.time.isSource = true ∨ ¬ ((none : Option Int).isSome || decide (n + 16 ≤ b.fabN)) = true ∨ ¬ (b.ntValid = true ∨ (none : Option Int).isSome = true)) := by
    simp [hsource, hdue, hntValid]
  unfold execNtRecordSend
  rw [hb]
  dsimp only
  rw [hstep, hsent, hnewest, hpps]
  refine (if_neg hsends).trans ?_
  simp only [if_neg hst, Nat.add_zero, Option.getD_none, Option.isSome_none, sub_zero]
  exact congrArg done (queueNt_empty (b := { b with time := { b.time with ntSent := some b.fabN, stepDue := none } }) hnext hlater)

theorem boundaryPort_mode (hmode : b.p1 pTimePtpMode 0 ≠ 3) : boundaryPort b = b := if_pos (Or.inl hmode)

theorem execNtRecordApply_early {r : NtRec} (hb : s.begin t = b) (hr : b.time.ntNext = some r) (hearly : b.fabN < r.applyN) :
    execNtRecordApply t s = done b := by
  unfold execNtRecordApply
  rw [hb]
  simp only [hr, hearly, if_true]

theorem execNtRecordApply_due {r : NtRec} (hb : s.begin t = b) (hr : b.time.ntNext = some r) (hdue : r.applyN ≤ b.fabN) (hstep : r.step = false) (hvalid : b.ntValid = true)
    (hhold : b.time.holdover = false) (hmode : b.p1 pTimePtpMode 0 ≠ 3) :
    execNtRecordApply t s =
      done { b with time := { b.time with nt := some r, ntNext := b.time.ntLater.head?, ntLater := b.time.ntLater.drop 1 } } := by
  have hheld : (b.time.holdover && b.ntFresh) = false := by rw [hhold, Bool.false_and]
  unfold execNtRecordApply
  rw [hb]
  simp only [hr, hdue.not_gt, hstep, hvalid, hheld, Bool.false_eq_true, if_false, false_and, not_true_eq_false, and_false]
  exact congrArg done (boundaryPort_mode (b := { b with time := { b.time with nt := some r, ntNext := b.time.ntLater.head?, ntLater := b.time.ntLater.drop 1 } }) hmode)

theorem execNtHoldover_lost {r : NtRec} (hb : s.begin t = b) (hr : b.time.nt = some r) (hvalid : r.valid = true) (hcand : b.ntCandidate = false)
    (hfresh : b.ntFresh = false) (hsource : b.time.isSource = false) (hnext : b.time.ntNext = none) (hhold : b.time.holdover = false) :
    execNtHoldover t s =
      let n := r.applyN + 16 * ((b.fabN - r.applyN) / 16 + 1)
      let sN := b.startOf n * 65536
      done (({ b with time := { b.time with
        ntNext := some { r with applyN := n, o := r.offsetAt sN, sN := sN, slew := 0, step := false }, holdover := true } } : State).raise
          fNtHoldover 0xFF) := by
  unfold execNtHoldover
  rw [hb]
  simp only [hr, hcand, hsource, Bool.false_and, Bool.false_eq_true, false_and, if_false]
  exact if_pos ⟨hvalid, not_false, Bool.eq_false_iff.mp hfresh, by rw [hnext]; rfl, Bool.eq_false_iff.mp hhold⟩

theorem execKeepSecondsCorrect_some {c : Nat} (hb : s.begin t = b) (hvalid : b.ntValid = true) (hc : b.time.keepCorrected = some c) :
    execKeepSecondsCorrect t s = done (if c + 600000000000 ≤ b.time.lt then
      { b with time := { b.time with keepSeconds := b.ntSeconds, keepCorrected := some b.time.lt } } else b) := by
  unfold execKeepSecondsCorrect
  rw [hb]
  simp only [hc, hvalid, true_and, decide_eq_true_eq]

end

/-- Settles O51, from the equation of each event of network time. -/
theorem networkTimeEventsComplete : Obligations.NetworkTimeEventsComplete := by
  refine ⟨?_, ?_, ?_, ?_, ?_, ?_, ?_, ?_, ?_⟩
  · intro s b t hb hmode
    refine ⟨?_, ?_, ?_, ?_, ?_, ?_⟩
    · intro rank steps gm q utc l61 l59 hm m st
      exact execPtpMessageRx_announce hb hmode hm
    · intro stamp origin corr hst t1 t2 s1
      exact execPtpMessageRx_sync hb hmode hst
    · intro t1 t2 t3 t4 hst hdelay hsync hreq
      exact execPtpMessageRx_delayResp hb hmode hst hdelay hsync hreq
    · intro stamp t1 t2 t3 hdelay hreq
      exact execPtpMessageRx_pdelayResp hb hmode hdelay hreq
    · intro heth
      subst hb
      exact (if_neg hmode).trans (congrArg done (if_pos heth))
    · subst hb
      exact if_neg hmode
  · intro s b t m hb hmode
    subst hb
    exact if_pos hmode
  · intro s b t hb heth
    exact ⟨fun hst => ⟨execPtpMessageSend_sync hb heth hst, execPtpMessageSend_announce hb heth hst⟩,
      fun hst => execPtpMessageSend_delayReq hb heth hst⟩
  · intro s b t l hb hst hl
    have hrun : exec (.ptpLost t) s = _ := execPtpLost_slave hb hst hl
    rw [hrun]
    exact ⟨fun h => if_pos h, fun h => if_neg h.not_ge⟩
  · intro s b t hb
    exact ⟨fun hl => execPpsiEdge_first hb hl, fun l hl hbad => execPpsiEdge_bad hb hl hbad,
      fun l hl hlow hhigh hsrc => (execPpsiEdge_again hb hl hsrc).trans (if_pos ⟨hlow, hhigh⟩)⟩
  · intro s b t n r hb hsource hsent hdue hstep hnt hvalid hnext hlater hpps hst a sN
    exact execNtRecordSend_pps hb hsource hsent hdue hstep hnt hvalid hnext hlater hpps hst
  · intro s b t r hb hr
    refine ⟨fun hearly => ?_, fun hdue hstep hvalid hhold hmode => ?_⟩
    · exact execNtRecordApply_early hb hr hearly
    · exact (execNtRecordApply_due hb hr hdue hstep hvalid hhold hmode)
  · intro s b t r hb hr hvalid hcand hfresh hsource hnext hhold n sN
    exact execNtHoldover_lost hb hr hvalid hcand hfresh hsource hnext hhold
  · intro s b t c hb hvalid hc
    have hrun : exec (.keepSecondsCorrect t) s = _ := execKeepSecondsCorrect_some hb hvalid hc
    rw [hrun]
    exact ⟨fun h => congrArg done (if_pos h), fun h => congrArg done (if_neg h.not_ge)⟩

end Sys2Proof.Machine
end

section
/-! SUPPORT. Timed outputs, the PPS output, clock checks and injection windows (R21, R396-R401, R484). -/

namespace Sys2Proof.Machine

section
variable {s b : State} {t : Nat} {ch : Fin 4}

theorem tqRuns (href : b.power.refStopped = false) (hsup : b.domOn .sup = true) : ¬ (b.power.refStopped = true ∨ ¬ b.domOn .sup = true) := fun h => h.elim (Bool.eq_false_iff.mp href) fun h => h hsup

section timed
variable (hb : s.begin t = b) (href : b.power.refStopped = false) (hsup : b.domOn .sup = true)
include hb href hsup

theorem execTqEdge_pulse {e : Int} (hmode : b.p1 pTimeTqMode ch.val ≠ 0) (he : (b.time.tq.get ch).pulseEnd = some e) :
    execTqEdge t ch s =
      if e ≤ b.ft then done (b.modTq ch (fun c =>
        { c with pulseEnd := none, pad := (match c.prog with | some p => p.lowPulse | none => c.pulseLow), pulseLow := false }))
      else done b := by
  unfold execTqEdge
  rw [hb]
  dsimp only
  rw [if_neg (tqRuns href hsup), if_neg hmode, he]
  exact if_congr decide_eq_true_iff rfl (if_pos rfl)

theorem execTqEdge_program {p : TqProg} (hmode : b.p1 pTimeTqMode ch.val = 1) (he : (b.time.tq.get ch).pulseEnd = none)
    (hp : (b.time.tq.get ch).prog = some p) (hnt : p.nt = false) :
    execTqEdge t ch s =
      if (p.t0 + p.k * p.period) * 65536 ≤ b.ftNow then done (b.modTq ch (fun c =>
        { c with prog := progAt p (p.k + 1), pad := !p.lowPulse, pulseLow := p.lowPulse, pulseEnd := some (p.t0 + p.k * p.period + p.width) }))
      else done b := by
  unfold execTqEdge
  rw [hb]
  dsimp only
  rw [if_neg (tqRuns href hsup)]
  simp only [hmode, he, hp, hnt]
  rfl

end timed

theorem execPpsoEdge_end {e : Int} (hb : s.begin t = b) (he : b.time.ppsoEnd = some e) (hle : e ≤ b.ft) :
    execPpsoEdge t s = done { b with time := { b.time with ppso := false, ppsoEnd := none } } := by
  unfold execPpsoEdge
  rw [hb]
  dsimp only
  rw [he]
  exact if_pos (Or.inl (decide_eq_true hle))

theorem execPpsoEdge_second (hb : s.begin t = b) (he : b.time.ppsoEnd = none) (hmode : b.p1 pTimePpsOut 0 = 2) :
    execPpsoEdge t s =
      if b.ftNow % secFine < 2 * 65536 then done { b with time := { b.time with ppso := true, ppsoEnd := some (b.ft + 100000000) } }
      else done b := by
  unfold execPpsoEdge
  rw [hb]
  dsimp only
  rw [he, hmode]
  refine (if_neg (by simp)).trans ((if_neg (by simp)).trans ?_)
  exact if_congr (and_iff_left ⟨Or.inl rfl, by simp⟩) rfl rfl

end

/-- Settles O52, from the equation of each event of the timed outputs, the clocks and the injections. -/
theorem timedOutputClockAndInjectionEventsComplete : Obligations.TimedOutputClockAndInjectionEventsComplete := by
  refine ⟨?_, ?_, ?_, ?_, ?_, ?_⟩
  · intro s b t ch hb href hsup
    refine ⟨fun hmode => ?_, fun e hmode he => ?_, fun p hmode he hp hnt => ?_⟩
    · have hruns := tqRuns href hsup
      subst hb
      exact (if_neg hruns).trans (if_pos hmode)
    · have hrun : exec (.tqEdge t ch) s = _ := execTqEdge_pulse hb href hsup hmode he
      rw [hrun]
      exact ⟨fun h => if_pos h, fun h => if_neg h.not_ge⟩
    · have hrun : exec (.tqEdge t ch) s = _ := execTqEdge_program hb href hsup hmode he hp hnt
      rw [hrun]
      exact ⟨fun h => if_pos h, fun h => if_neg h.not_ge⟩
  · intro s b t hb
    exact ⟨fun e he hle => execPpsoEdge_end hb he hle, fun he hmode h => (execPpsoEdge_second hb he hmode).trans (if_pos h),
      fun he hmode h => (execPpsoEdge_second hb he hmode).trans (if_neg h.not_gt)⟩
  · intro s b t ppm stopped hb hsup
    have hon : ¬ ¬ b.domOn .sup = true := not_not.mpr hsup
    subst hb
    exact ⟨if_neg hon, if_neg hon, if_neg hon, if_neg hon⟩
  · intro s b t p hb hsup hnew
    have hruns : ¬ (¬ b.domOn .sup = true ∨ b.power.pllLost.contains p.val = true) := by simp [hsup, hnew]
    subst hb
    exact if_neg hruns
  · intro s b t p hb
    refine ⟨fun hone => ?_, fun hnew => ?_⟩
    · have hleft : b.power.pllLost.filter (fun i => decide (i ≠ p.val)) = [] := by simp [hone]
      have hlast : b.power.pllLost.contains p.val = true ∧ (b.power.pllLost.filter (fun i => decide (i ≠ p.val))).isEmpty = true := by simp [hone]
      rw [← hleft]
      subst hb
      exact if_pos hlast
    · have hall : b.power.pllLost.filter (fun i => decide (i ≠ p.val)) = b.power.pllLost :=
        List.filter_eq_self.mpr fun i hi => decide_eq_true fun h => hnew (h ▸ hi)
      have hnot : ¬ (b.power.pllLost.contains p.val = true ∧ (b.power.pllLost.filter (fun i => decide (i ≠ p.val))).isEmpty = true) := by
        simp [hnew]
      have hsame : { b with power := { b.power with pllLost := b.power.pllLost.filter (fun i => decide (i ≠ p.val)) } } = b := by rw [hall]
      subst hb
      exact (if_neg hnot).trans (congrArg done hsame)
  · intro s b t i hb hact hinj hreal
    subst hb
    exact ⟨fun h => if_pos ⟨hact, hinj, Bool.eq_false_iff.mp hreal, h⟩, fun h => if_neg fun hh => h.not_ge hh.2.2.2⟩

end Sys2Proof.Machine
end

section
/-! SUPPORT. The two safety paths: exchange, filters, test pulses, discrepancy, SS1, reset and readback (R26, R27, R495-R502). -/

namespace Sys2Proof.Machine

section
variable {s b : State} {t : Nat} {p : SPath}

theorem State.modPath_congr {f g : SPathSt → SPathSt} (h : f (s.spath p) = g (s.spath p)) : s.modPath p f = s.modPath p g := by
  cases p
  · exact congrArg (fun q => { s with safe := { s.safe with proc := q } }) h
  · exact congrArg (fun q => { s with safe := { s.safe with logic := q } }) h

/-- An input other than RESET follows a raw level that it has held for its time, up to the boundary that the demand level sets. -/
theorem execSafeInputFilter_input {i : Fin 8} {level : Bool} (hb : s.begin t = b) (hreset : b.resetIn ≠ i.val)
    (hraw : bitOf (b.spath p).raw i.val = level) (hfilt : bitOf (b.spath p).filt i.val ≠ level) :
    ((b.spath p).rawSince.getD i.val 0 + 1000000 < b.time.lt →
      execSafeInputFilter t p i level s = done (safeEval (b.modPath p (fun q => { q with filt := Nat.xor q.filt (2 ^ i.val) })))) ∧
    (b.time.lt < (b.spath p).rawSince.getD i.val 0 + 1000000 → execSafeInputFilter t p i level s = done b) := by
  unfold execSafeInputFilter
  rw [hb]
  simp only [hreset, decide_false, Bool.false_eq_true, false_and, if_false, not_false_eq_true, and_true]
  constructor
  · intro hlong
    refine if_pos ⟨hraw, hfilt, ?_⟩
    split
    · exact decide_eq_true hlong
    · exact decide_eq_true hlong.le
  · intro hshort
    refine if_neg fun h => absurd h.2.2 ?_
    split
    · exact decide_eq_true_iff.not.mpr (by omega)
    · exact decide_eq_true_iff.not.mpr (by omega)

theorem execTestPulse_low {tp : Fin 2} {r : Byte} (hb : s.begin t = b) (hdue : b.pulseDue tp = true) (hcfg : b.safe.config = none) :
    execTestPulse t tp true r s =
      done { b with safe := { b.safe with tp := b.safe.tp.set tp.val true tp.isLt, tpLast := some (tp.val, b.time.lt) } } := by
  subst hb
  refine (if_neg fun h => h.2 hdue).trans (if_pos (Or.inr ?_))
  exact Option.isNone_iff_eq_none.mpr hcfg

theorem execDiscrepancy_due {since : Nat} {i : Fin 4} (hb : s.begin t = b) (hs : ((b.spath p).pairs.get i).discSince = some since)
    (hcfg : b.safe.config ≠ none) (hfn : b.pairFn i.val ≠ 0) (hnew : ((b.spath p).pairs.get i).discDone = false)
    (hdue : since + b.pairDisc i.val * 1000000 ≤ b.time.lt) :
    execDiscrepancy t p i s = done (safeEval ((b.raise fDiscrepancy (0xB0 + i.val)).modPath p
      (fun q => { q with pairs := q.pairs.set i.val { (b.spath p).pairs.get i with discDone := true } i.isLt }))) := by
  unfold execDiscrepancy
  rw [hb]
  simp only [hs]
  exact if_pos ⟨Option.isSome_iff_ne_none.mpr hcfg, hfn, Bool.eq_false_iff.mp hnew, hdue⟩

theorem execSs1TimerEnd_some {start ms : Nat} (hb : s.begin t = b) (hss : (b.spath p).ss1 = some (start, ms)) :
    execSs1TimerEnd t p s =
      if start + ms * 950000 ≤ b.time.lt then
        done (safeFollow b.safe (b.modPath p (fun q => { q with closed := false, ss1 := none, seen := b.time.lt })))
      else done b := by
  unfold execSs1TimerEnd
  rw [hb]
  simp only [hss]

/-- The release of RESET, once it has passed the filter; it counts when it was held between 50 ms and 5 s. -/
theorem execResetRelease_released {x : Nat} (hb : s.begin t = b) (hx : (b.spath p).resetSince = some x) (hin : b.resetIn < 8)
    (hraw : bitOf (b.spath p).raw b.resetIn = false) (hfilt : bitOf (b.spath p).filt b.resetIn = true)
    (hlow : (b.spath p).rawSince.getD b.resetIn 0 + 1000000 ≤ b.time.lt) :
    execResetRelease t p s =
      let low := (b.spath p).rawSince.getD b.resetIn 0
      let s1 := safeEval (b.modPath p (fun q => { q with filt := q.filt - 2 ^ b.resetIn, resetSince := none, resetValid := false }))
      if (b.spath p).resetValid && decide (x + 50000000 ≤ low ∧ low ≤ x + 5000000000) && resetConds s1 p then
        done (safeEval (s1.modPath p (fun q => { q with resetMade := true, waitLocal := false })))
      else done s1 := by
  have hfall : b.modPath p (fun q => { q with
      filt := if bitOf q.filt b.resetIn then q.filt - 2 ^ b.resetIn else q.filt, resetSince := none, resetValid := false }) =
      b.modPath p (fun q => { q with filt := q.filt - 2 ^ b.resetIn, resetSince := none, resetValid := false }) := by
    refine State.modPath_congr ?_
    rw [hfilt]
    rfl
  unfold execResetRelease
  rw [hb]
  simp only [hx]
  rw [if_pos ⟨hin, Bool.eq_false_iff.mp hraw, hlow⟩, hfall]

theorem execSoReadback_own {since : Nat} (hb : s.begin t = b) (hdiff : b.safe.readDiff.getD 0 none = some since)
    (hrep : b.safe.readRep.getD 0 false = false) :
    execSoReadback t .proc .soa s =
      if since + 2000000 < b.time.lt then
        done { b.raise fSoReadback 0xA8 with safe := { (b.raise fSoReadback 0xA8).safe with readRep := (b.raise fSoReadback 0xA8).safe.readRep.set 0 true } }
      else done b := by
  unfold execSoReadback
  rw [hb]
  dsimp only
  rw [Nat.add_zero, hdiff, hrep]
  exact if_congr (by simp) rfl rfl

end

/-- Settles O53, from the equation of each event of the safety paths. -/
theorem safetyPathEventsComplete : Obligations.SafetyPathEventsComplete := by
  refine ⟨?_, ?_, ?_, ?_, ?_, ?_, ?_, ?_, ?_⟩
  · intro s b t f hb hcrc
    subst hb
    exact if_pos (Bool.eq_false_iff.mp hcrc)
  · intro s b t hb
    subst hb
    exact ⟨fun h => if_pos h, fun h => if_neg h.not_ge⟩
  · intro s b t f hb hcrc s0 s1 s2 s3
    subst hb
    exact if_neg (not_not.mpr hcrc)
  · intro s b t p i level hb hreset hraw hfilt
    exact execSafeInputFilter_input hb hreset hraw hfilt
  · intro s b t tp r hb
    refine ⟨?_, fun hdue hcfg => execTestPulse_low hb hdue hcfg, fun hearly => ?_⟩
    · subst hb
      rfl
    · subst hb
      exact if_pos ⟨rfl, Bool.eq_false_iff.mp hearly⟩
  · intro s b t since p i hb hs hcfg hfn hnew hdue
    exact execDiscrepancy_due hb hs hcfg hfn hnew hdue
  · intro s b t start ms p hb hss
    have hrun : exec (.ss1TimerEnd t p) s = _ := execSs1TimerEnd_some hb hss
    rw [hrun]
    exact ⟨fun h => if_pos h, fun h => if_neg h.not_ge⟩
  · intro s b t x p hb hx hin hraw hfilt low hlow s1
    have hrun : exec (.resetRelease t p) s = _ := execResetRelease_released hb hx hin hraw hfilt hlow
    rw [hrun]
    refine ⟨fun hvalid hlong hshort hconds => if_pos ?_, fun hout => if_neg fun h => ?_⟩
    · rw [hvalid, decide_eq_true ⟨hlong, hshort⟩]
      exact hconds
    · have hheld := of_decide_eq_true (Bool.and_elim_right (Bool.and_elim_left h))
      exact hout.elim hheld.1.not_gt hheld.2.not_gt
  · intro s b t since hb hdiff hrep
    have hrun : exec (.soReadback t .proc .soa) s = _ := execSoReadback_own hb hdiff hrep
    rw [hrun]
    exact ⟨fun h => if_pos h, fun h => if_neg h.not_gt⟩

end Sys2Proof.Machine
end

section
/-! SUPPORT. Safe messages, their watchdogs and the configuration block (R493, R505-R509). -/

namespace Sys2Proof.Machine

section
variable {s b : State} {t : Nat}

/-- With CAN1 off a message that is due goes to the Causeway alone. -/
theorem execSafeMessageSend_changed (hb : s.begin t = b) (hcfg : b.safe.config ≠ none) (hon : bitOf (b.cfgU 1 1) 0 = true)
    (hsafe : b.domOn .safe = true) (hsup : b.domOn .sup = true) (hdata : b.safe.txData ≠ some b.safeData) (hcan : (b.can.get 1).st = 0) :
    execSafeMessageSend t s = done { b with safe := { b.safe with
      txSeq := (b.safe.txSeq + 1) % 2 ^ 16, txData := some b.safeData, txAt := b.time.lt
      txQueue := b.safe.txQueue ++ [safeMessage b b.safe.txSeq b.safeData] } } := by
  have hoff : ¬ ((b.can.get 1).st = 2 ∨ (b.can.get 1).st = 3) := by omega
  unfold execSafeMessageSend
  rw [hb]
  dsimp only
  rw [if_pos ⟨Option.isSome_iff_ne_none.mpr hcfg, hon, hsafe, hsup, (Bool.or_eq_true _ _).mpr (Or.inl (decide_eq_true hdata))⟩, if_neg hoff,
    List.append_nil]

theorem execSafeMessageSend_idle (hb : s.begin t = b) (hdata : b.safe.txData = some b.safeData)
    (hearly : b.time.lt < b.safe.txAt + b.cfgU 8 2 * 1000000) : execSafeMessageSend t s = done b := by
  subst hb
  refine if_neg fun h => ?_
  obtain ⟨_, _, _, _, hdue⟩ := h
  rw [Bool.or_eq_true, decide_eq_true_eq, decide_eq_true_eq] at hdue
  exact hdue.elim (fun h => h hdata) hearly.not_ge

/-- A copy is taken when its form, its CRC and its version are right. -/
theorem safeCopy_whole {net : SNet} {m : List Byte} (hcfg : b.safe.config ≠ none) (hsafe : b.domOn .safe = true) (hlen : m.length = 32) :
    safeCopy net m b = if getU m 28 4 = crc32c (m.take 28) ∧ getU m 0 1 = 1 then
      safeEvalFrom b ((List.finRange 8).foldl (fun s i => subCopy net m i s) b) else b := by
  unfold safeCopy
  refine if_congr ?_ rfl rfl
  simp [Option.isSome_iff_ne_none, hcfg, hsafe, hlen]

theorem execSafetyConfigDone_writing {c d since : Nat} {x : List Byte} {q : ReqRef} (hb : s.begin t = b)
    (hw : b.safe.writing = some (x, q, since)) :
    execSafetyConfigDone t c d s =
      if c = d ∧ c = blockCrc x ∧ b.time.lt ≤ since + 500000000 then
        let s1 := safeInstall x b
        done ((safeEval { s1 with safe := { s1.safe with storedConfig := some x, crcHold := false } }).finish q (okRsp (toLE 4 (blockCrc x))))
      else if since + 500000000 ≤ b.time.lt then
        done ((safeEval { b with safe := { b.safe with
          writing := none, proc := { b.safe.proc with resetMade := false }, logic := { b.safe.logic with resetMade := false } } }).finish q
            { status := stTimeout })
      else done b := by
  unfold execSafetyConfigDone
  rw [hb]
  simp only [hw]

end

/-- Settles O54, from the equation of each event of the safe messages and the configuration. -/
theorem safetyMessageEventsComplete : Obligations.SafetyMessageEventsComplete := by
  refine ⟨?_, ?_, ?_, ?_⟩
  · intro s b t hb hcfg hon hsafe hsup m
    exact ⟨fun hdata hcan => execSafeMessageSend_changed hb hcfg hon hsafe hsup hdata hcan,
      fun hdata hearly => execSafeMessageSend_idle hb hdata hearly⟩
  · intro s b t net m hb hcfg hsafe hlen
    have hcopy := safeCopy_whole (net := net) hcfg hsafe hlen
    have hrun : exec (.safeMessageRx t net m) s = done (safeCopy net m b) := by
      subst hb
      rfl
    rw [hrun, hcopy]
    exact ⟨fun hcrc hver => congrArg done (if_pos ⟨hcrc, hver⟩), fun hcrc => congrArg done (if_neg fun h => hcrc h.1)⟩
  · intro s b t i hb hcfg hsub hwd
    subst hb
    exact ⟨fun hdue => if_pos ⟨Option.isSome_iff_ne_none.mpr hcfg, hsub, Bool.eq_false_iff.mp hwd, hdue⟩,
      fun hearly => if_neg fun h => hearly.not_ge h.2.2.2⟩
  · intro s b t c d since x q hb hw
    have hdone := fun c d => execSafetyConfigDone_writing (c := c) (d := d) hb hw
    refine ⟨fun hle => (hdone _ _).trans (if_pos ⟨rfl, rfl, hle⟩), fun hbad hearly => ?_, fun hbad hlate => ?_⟩
    · exact (hdone c d).trans ((if_neg fun h => hbad.elim (fun n => n h.1) fun n => n h.2.1).trans (if_neg hearly.not_ge))
    · exact (hdone c d).trans ((if_neg fun h => hbad.elim (fun n => n h.1) fun n => n h.2.1).trans (if_pos hlate))

end Sys2Proof.Machine
end

section
/-! SUPPORT. Field inputs, the field link and the field outputs (R516-R525). -/

namespace Sys2Proof.Machine

section
variable {s b : State} {t : Nat} {i : Fin 16} {level : Bool}

/-- A level that a powered input did not have is its raw level; without a hold it passes at once. -/
theorem execDiEdge_changed (hb : s.begin t = b) (hdom : b.domOn .field = true) (hraw : (b.fld.di.get i).raw ≠ level) :
    execDiEdge t i level s =
      let s1 := b.modDi i (fun d => { d with raw := level, edgeAt := b.ft, edgeLt := b.time.lt })
      let s2 := if diHold b i = 0 ∧ ¬ (b.fld.di.get i).wb ∧ (b.fld.di.get i).filt ≠ level then setFilt i level s1 else s1
      done (if i.val < 8 then cellsToLogic s2 else s2) := by
  subst hb
  exact if_neg fun h => h.elim hraw fun h => h hdom

theorem execWireBreak_broken (hb : s.begin t = b) (hin : 8 ≤ i.val) (hmon : bitOf b.fld.die.wireBreak i.val = true) (hvfld : 1800 ≤ b.fld.vfld)
    (hwb : (b.fld.di.get i).wb = false) :
    execWireBreak t i true s =
      let s1 := (b.modDi i (fun d => { d with wb := true, edgeAt := b.ft, edgeLt := b.time.lt })).raise fWireBreak (0x90 + i.val)
      done (if (b.fld.di.get i).filt then setFilt i false s1 else s1) := by
  have hnew : ¬ (¬ bitOf b.fld.die.wireBreak i.val = true ∨ b.fld.vfld < 1800 ∨ (b.fld.di.get i).wb = true) := by
    simp [hmon, hvfld, hwb]
  unfold execWireBreak
  rw [hb]
  exact (if_neg hnew).trans (congrArg done (if_neg hin.not_gt))

theorem execFieldLinkUpFrame_fresh {f : FieldUp} (hb : s.begin t = b) (hsup : b.domOn .sup = true) (hdom : b.domOn .field = true)
    (hfresh : b.fld.stale = false) :
    execFieldLinkUpFrame t f s =
      let m := b.dieLevels + (b.fld.fldIn / 256) * 256
      done ((List.range 8).foldl (fun s i => evalDi i (bitOf m i) none s)
        { b with fld := { b.fld with lastUp := b.time.lt, stale := false, fldIn := m, wbReg := b.dieBreaks, vfld := f.vfld % 65536
                                     diag := b.fldDiag f.acting, restored := b.fld.restored && decide (1800 ≤ f.vfld) } }) := by
  unfold execFieldLinkUpFrame
  rw [hb]
  refine (if_neg fun h => h.elim (fun h => h hsup) fun h => h hdom).trans ?_
  dsimp only
  rw [if_neg (Bool.eq_false_iff.mp hfresh)]

end

/-- Settles O55, from the condition on which each event of the field inputs and of the field link acts. -/
theorem fieldInputAndLinkEventsComplete : Obligations.FieldInputAndLinkEventsComplete := by
  refine ⟨?_, ?_, ?_, ?_, ?_, ?_, ?_⟩
  · intro s b t i level hb hdom hin hraw s1
    have hrun : exec (.diEdge t i level) s = _ := execDiEdge_changed hb hdom hraw
    rw [hrun]
    exact ⟨fun hhold => congrArg done ((if_neg hin.not_gt).trans (if_neg fun h => hhold h.1)),
      fun hhold hwb hfilt => congrArg done ((if_neg hin.not_gt).trans (if_pos ⟨hhold, Bool.eq_false_iff.mp hwb, hfilt⟩))⟩
  · intro s b t i level hb hdom hin hraw hhold
    refine (execDiEdge_changed hb hdom hraw).trans (congrArg done ((if_pos hin).trans ?_))
    exact congrArg cellsToLogic (if_neg fun h => hhold h.1)
  · intro s b t i hb hdom hfilt need
    subst hb
    exact ⟨fun hdue => if_pos ⟨hfilt, hdue, hdom⟩, fun hearly => if_neg fun h => hearly.not_ge h.2.1⟩
  · intro s b t i hb hin hmon hvfld hwb s1
    exact execWireBreak_broken hb hin hmon hvfld hwb
  · intro s b t hb hsup hdom
    subst hb
    exact if_neg fun h => h.elim (fun h => h hsup) fun h => h hdom
  · intro s b t f hb hsup hdom hfresh m
    exact execFieldLinkUpFrame_fresh hb hsup hdom hfresh
  · intro s b t hb
    subst hb
    exact ⟨fun hsup hfresh hdue => if_pos ⟨hsup, Bool.eq_false_iff.mp hfresh, hdue⟩,
      fun hdom hheld hdue => if_pos ⟨hdom, Bool.eq_false_iff.mp hheld, hdue⟩⟩

end Sys2Proof.Machine
end

section
/-! SUPPORT. The field supply and the field outputs act on their own conditions (R521-R523). -/

namespace Sys2Proof.Machine

/-- Settles O56, from the condition on which each event of the field outputs and of their supply acts. -/
theorem fieldOutputEventsComplete : Obligations.FieldOutputEventsComplete := by
  refine ⟨?_, ?_, ?_⟩
  · intro s b t hb hvalid
    have hknown : ¬ ¬ b.fld.vfldValid = true := not_not.mpr hvalid
    subst hb
    refine ⟨fun hsag => if_pos ⟨hvalid, Or.inl (Bool.eq_false_iff.mp hsag)⟩, fun hsag hauto => ?_, fun hsag hauto => ?_⟩
    · exact (if_neg hknown).trans ((if_neg (not_not.mpr hsag)).trans (if_neg (Bool.eq_false_iff.mp hauto)))
    · exact (if_neg hknown).trans ((if_neg (not_not.mpr hsag)).trans (if_pos hauto))
  · intro s b t hb hunknown
    subst hb
    exact ⟨if_neg fun h => Bool.eq_false_iff.mp hunknown h.1, if_pos (Bool.eq_false_iff.mp hunknown)⟩
  · intro s b t o hb
    subst hb
    refine ⟨fun hout hnew => if_pos ⟨hout, Bool.eq_false_iff.mp hnew⟩, fun hacts => if_pos hacts, fun hout hnew => ?_, fun hacts => if_pos hacts,
      fun hout => if_pos hout, fun hout => if_neg (Bool.eq_false_iff.mp hout)⟩
    exact if_pos ⟨Bool.eq_false_iff.mp hout, Bool.eq_false_iff.mp hnew⟩

end Sys2Proof.Machine
end

section
/-! SUPPORT. CAN: reception, transmission, periodic objects and error states (R529-R533). -/

namespace Sys2Proof.Machine

section
variable {s b : State} {t : Nat} {c : Fin 2}

theorem State.modCan_self {f : CanChan → CanChan} (h : f (s.can.get c) = s.can.get c) : s.modCan c f = s := by
  unfold State.modCan
  rw [h]
  exact congrArg (fun v => { s with can := v }) (Vector.set_getElem_self c.isLt)

/-- An error active channel whose counters are within their limits stays as it is. -/
theorem canLimits_active (hst : (b.can.get c).st = 2) (htec : (b.can.get c).tec ≤ 127) (hrec : (b.can.get c).rec_ ≤ 127) : canLimits c b = b := by
  have hpassive : ¬ (127 < (b.can.get c).tec ∨ 127 < (b.can.get c).rec_) := by omega
  unfold canLimits
  dsimp only
  rw [if_neg (by omega), if_neg (by omega), decide_eq_false hpassive]
  refine (if_neg fun h => Bool.false_ne_true h.1).trans (if_neg fun h => by omega)

/-- A good frame changes nothing of a channel whose receive error counter is 0. -/
theorem canSuccess_received (hst : (b.can.get c).st = 2) (htec : (b.can.get c).tec ≤ 127) (hrec : (b.can.get c).rec_ = 0) :
    canSuccess c false b = b := by
  have hkeep : ∀ n : Nat, b.modCan c (fun x => { x with rec_ := if 127 < x.rec_ then n else x.rec_ - 1 }) = b := fun n =>
    State.modCan_self (by rw [hrec]; exact congrArg (fun k => { b.can.get c with rec_ := k }) hrec.symm)
  unfold canSuccess
  dsimp only
  rw [if_neg Bool.false_ne_true, if_neg (by omega), hkeep]
  exact canLimits_active hst htec (by omega)

/-- A data frame that an error active channel takes goes to the object that matches, or is counted. -/
theorem execCanFrameRx_data {f : CanFrame} (hb : s.begin t = b) (hst : (b.can.get c).st = 2) (hrec : (b.can.get c).rec_ = 0)
    (htec : (b.can.get c).tec ≤ 127) (hdata : f.remote = false) (hform : f.fdf = false ∨ b.p1 pCanMode c.val ≠ 1) (hcfg : b.safe.config = none) :
    (∀ o, (List.range 128).find? (objMatches b c.val f) = some o → execCanFrameRx t c f s = done (storeFrame c o f b)) ∧
    ((List.range 128).find? (objMatches b c.val f) = none →
      execCanFrameRx t c f s = done (b.modCan c (fun x => { x with unmatched := incSat 16 x.unmatched }))) := by
  have htaken : ¬ ((b.can.get c).st ≠ 2 ∧ (b.can.get c).st ≠ 3 ∨ f.fdf = true ∧ b.p1 pCanMode c.val = 1) := fun h =>
    h.elim (fun h => h.1 hst) fun h => hform.elim (fun n => Bool.eq_false_iff.mp n h.1) fun n => n h.2
  have hsafe : b.canSafe = false := by simp [State.canSafe, hcfg]
  unfold execCanFrameRx
  rw [hb]
  dsimp only
  rw [if_neg htaken, canSuccess_received hst htec hrec, if_neg (Bool.eq_false_iff.mp hdata), if_neg fun h => Bool.eq_false_iff.mp hsafe h.1]
  exact ⟨fun o ho => by simp only [ho], fun hnone => by simp only [hnone]⟩

theorem execCanTxDone_first {sof : Nat} {o : Fin 128} {f : CanFrame} {ok : Bool} (hb : s.begin t = b)
    (hst : (b.can.get c).st = 2 ∨ (b.can.get c).st = 3) (hf : b.sendFrame c o.val sof = some f) (harb : b.arbFirst c o.val sof = true) :
    execCanTxDone t c o ok sof s =
      if ok then
        let s2 := canSuccess c true (b.modObj c o.val (fun x => { pendDone sof x with
          txDone := true, dlc := f.dlc, fdf := f.fdf, brs := f.brs, id := b.objU c.val o.val 0 4 % 2 ^ 30, ts := shrHalfUp (b.ftFine8 sof) 16 }))
        done { s2 with out := { s2.out with can := s2.out.can ++ [(c.val, f)] } }
      else if bitOf (b.objU c.val o.val 9 1) 2 then done (b.modObj c o.val (fun x => { pendDone sof x with txFail := true }))
      else done b := by
  have hwins : ¬ (¬ b.arbFirst c o.val sof = true ∨ (b.can.get c).st ≠ 2 ∧ (b.can.get c).st ≠ 3) := fun h =>
    h.elim (fun h => h harb) fun h => hst.elim h.1 h.2
  unfold execCanTxDone
  rw [hb]
  simp only [hf]
  rw [if_neg hwins]

/-- A periodic object asks once in each of its periods; a channel that takes no part in the bus lets the period pass. -/
theorem execCanPeriodicDue_periodic {o : Fin 128} (hb : s.begin t = b) (hkind : b.objKind c.val o.val = 2) (hper : b.objU c.val o.val 12 2 ≠ 0)
    (hbuf : (b.canObj c o.val).buf ≠ none) (hconf : b.objConflict c.val o.val = false) (hmode : b.p1 pCanMode c.val ≠ 3) :
    execCanPeriodicDue t c o s =
      let k := (b.ft / ((b.objU c.val o.val 12 2 : Nat) * 1000000 : Int)).toNat
      if (b.canObj c o.val).served < k + 1 then
        done (b.modObj c o.val (fun x =>
          if (b.can.get c).st = 2 ∨ (b.can.get c).st = 3 then
            { x with served := k + 1, txPend := true, pendAt := if x.txPend then x.pendAt else b.time.lt, askAt := b.time.lt }
          else { x with served := k + 1 }))
      else done b := by
  have hmax : max 1 (b.objU c.val o.val 12 2) = b.objU c.val o.val 12 2 := max_eq_right (Nat.one_le_iff_ne_zero.mpr hper)
  unfold execCanPeriodicDue
  rw [hb]
  dsimp only
  rw [hmax]
  refine if_congr ⟨fun h => ?_, fun h => ?_⟩ rfl rfl
  · obtain ⟨_, _, _, _, _, hdue⟩ := h
    exact hdue
  · exact ⟨hkind, hper, Option.isSome_iff_ne_none.mpr hbuf, Bool.eq_false_iff.mp hconf, hmode, h⟩

end

/-- Settles O57, from the equation of each event of the CAN channels. -/
theorem canEventsComplete : Obligations.CanEventsComplete := by
  refine ⟨?_, ?_, ?_, ?_⟩
  · intro s b t c f hb hst hrec htec hdata hform hcfg
    exact execCanFrameRx_data hb hst hrec htec hdata hform hcfg
  · intro s b t sof c o f hb hst hf harb flags id s2
    exact ⟨execCanTxDone_first hb hst hf harb, fun hlow => (execCanTxDone_first hb hst hf harb).trans (if_pos hlow),
      fun hlow => (execCanTxDone_first hb hst hf harb).trans (if_neg (Bool.eq_false_iff.mp hlow))⟩
  · intro s b t c o hb hkind hper hbuf hconf hmode k
    have hrun : exec (.canPeriodicDue t c o) s = _ := execCanPeriodicDue_periodic hb hkind hper hbuf hconf hmode
    rw [hrun]
    refine ⟨fun hdue hst => ?_, fun hdue h2 h3 => ?_, fun hserved => if_neg (by omega)⟩
    · refine (if_pos (Nat.lt_succ_of_le hdue)).trans ?_
      simp only [if_pos hst]
      rfl
    · refine (if_pos (Nat.lt_succ_of_le hdue)).trans ?_
      simp only [if_neg (not_or.mpr ⟨h2, h3⟩)]
      rfl
  · intro s b t c e hb
    subst hb
    refine ⟨fun hst => if_pos hst, fun hst => if_pos (Or.inl hst), fun hst => if_pos hst, fun hst => ⟨if_neg ?_, if_neg ?_, if_neg ?_⟩⟩
    · omega
    · omega
    · omega

end Sys2Proof.Machine
end

section
/-! SUPPORT. Self-test, fuses, challenges, image trials and ageing (R563-R583). -/

namespace Sys2Proof.Machine

section
variable {s b : State} {t : Nat}

/-- A self-test ends without cycling; its result says whether every count and signature was right and nothing cut it short. -/
theorem execBistDone_idle {scope : Nat} {q : ReqRef} {x y : Bool} (hb : s.begin t = b) (hq : b.life.bist = some (scope, q))
    (hc : b.cyc.cycling = false) :
    execBistDone t x y s =
      let pass := x && y && !b.life.bistCut
      let s1 := { b with life := { b.life with bist := none, bistCut := false } }
      let s2 := if scope = 0 then { s1 with rcd := {}, acq := { s1.acq with recs := [] } } else s1
      let s3 := if pass then s2 else s2.raise fBistFail 0xFF
      done (startCycling (s3.finish q (okRsp (toLE 1 (b2n pass))))) := by
  unfold execBistDone
  rw [hb]
  simp only [hq]
  exact if_neg (Bool.eq_false_iff.mp hc)

theorem execBistDone_cycling {scope : Nat} {q : ReqRef} {x y : Bool} (hb : s.begin t = b) (hq : b.life.bist = some (scope, q))
    (hc : b.cyc.cycling = true) : execBistDone t x y s = done b := by
  unfold execBistDone
  rw [hb]
  simp only [hq]
  exact if_pos hc

theorem execLifecycleProgrammed_some {target : Nat} {q : ReqRef} {body : List Byte} (hb : s.begin t = b) (hq : b.life.advance = some (target, q, body)) :
    execLifecycleProgrammed t s =
      let s1 := (advanceEffect target body b).finish q (okRsp [])
      done { s1 with life := { s1.life with advance := none, resetDue := some (b.time.lt + 10000000) } } := by
  unfold execLifecycleProgrammed
  rw [hb]
  simp only [hq]

theorem execLifecycleReset_some {d : Nat} {o : BootObs} (hb : s.begin t = b) (hd : b.life.resetDue = some d) :
    execLifecycleReset t o s = if d ≤ b.time.lt then done (boot 5 o (lastFrames b)) else done b := by
  unfold execLifecycleReset
  rw [hb]
  simp only [hd]

theorem execDebugNonceExpire_some {k d : Nat} {n : List Byte} (hb : s.begin t = b) (hn : b.life.nonce = some (k, n, d)) :
    execDebugNonceExpire t s = if d ≤ b.time.lt then done { b with life := { b.life with nonce := none } } else done b := by
  unfold execDebugNonceExpire
  rw [hb]
  simp only [hn]

/-- The one AUTH answer that waits leaves when its time has come. -/
theorem execDebugAuthDelay_one {q : ReqRef} {d : Nat} (hb : s.begin t = b) (hq : b.life.authPend = [(q, d)]) :
    execDebugAuthDelay t s =
      if d ≤ b.time.lt then
        done (({ b with life := { b.life with authPend := [], authFails := b.life.authFails + 1 } } : State).finish q { status := stAuth })
      else done b := by
  unfold execDebugAuthDelay
  rw [hb]
  dsimp only
  rw [hq]
  by_cases hdue : d ≤ b.time.lt
  · rw [if_pos hdue]
    simp [hdue, hdue.not_gt]
  · rw [if_neg hdue]
    have hearly : b.time.lt < d := not_le.mp hdue
    simp only [List.filter_cons, List.filter_nil, decide_eq_false hdue, decide_eq_true hearly, Bool.false_eq_true, if_true, if_false,
      List.length_nil, Nat.add_zero, List.foldl_nil]
    rw [← hq]

theorem execFwTrialReadyTimeout_waiting {a : Nat} {o : BootObs} (hb : s.begin t = b) (ha : b.life.trial = some a) (hr : b.life.trialReady = none) :
    execFwTrialReadyTimeout t o s = if a + 2000000000 ≤ b.time.lt then done (boot 3 o (rollBack (lastFrames b))) else done b := by
  unfold execFwTrialReadyTimeout
  rw [hb]
  simp only [ha, hr]

theorem execFwTrialReadyTimeout_ready {a r : Nat} {o : BootObs} (hb : s.begin t = b) (ha : b.life.trial = some a)
    (hr : b.life.trialReady = some r) : execFwTrialReadyTimeout t o s = done b := by
  unfold execFwTrialReadyTimeout
  rw [hb]
  simp only [ha, hr]

theorem execFwTrialEnd_ready {a r : Nat} (hb : s.begin t = b) (ha : b.life.trial = some a) (hr : b.life.trialReady = some r) :
    execFwTrialEnd t s =
      if r + 60000000000 ≤ b.time.lt then
        done { b with life := { b.life with
          trial := none, trialReady := none
          rollback := max b.life.rollback (if b.host.ident.image = 0 then b.life.imgA else b.life.imgB).floor } }
      else done b := by
  unfold execFwTrialEnd
  rw [hb]
  simp only [ha, hr]

theorem execAgeingMeasure_on {l : List Int} (hb : s.begin t = b) (hsup : b.domOn .sup = true) :
    execAgeingMeasure t l s =
      if b.time.lt / 600000000000 ≤ b.age.measured then done b
      else if b.life.bist.isSome then done { b with age := { b.age with measured := b.time.lt / 600000000000 } }
      else
        let s1 := takeReadings l { b with age := { b.age with measured := b.time.lt / 600000000000 } }
        done (setTarget (wantedVt b.reserve s1.age.vFail) s1) := by
  subst hb
  exact if_congr (or_iff_right (not_not.mpr hsup)) rfl rfl

theorem execMarginReplan_on {m : List (List Int)} (hb : s.begin t = b) (hsup : b.domOn .sup = true) :
    execMarginReplan t m s =
      if b.life.bist.isSome ∨ b.time.lt < b.age.planAt + 86400000000000 then done b
      else done (projectMargins (closeDay (replan b.age.minPeriod m b))) := by
  subst hb
  exact if_congr (or_iff_right (not_not.mpr hsup)) rfl rfl

end

/-- Settles O58, from the equation of each event of the lifecycle and of ageing. -/
theorem lifecycleEventsComplete : Obligations.LifecycleEventsComplete := by
  refine ⟨?_, ?_, ?_, ?_, ?_, ?_, ?_⟩
  · intro s b t scope q x y hb hq
    refine ⟨fun hc => execBistDone_cycling hb hq hc, fun hc hscope hx hy hcut => ?_, fun hc hscope hbad => ?_⟩
    · refine (execBistDone_idle hb hq hc).trans ?_
      rw [hx, hy, hcut]
      dsimp only
      rw [if_neg hscope]
      rfl
    · have hfail : (x && y && !b.life.bistCut) = false := by
        obtain h | h := hbad <;> simp [h]
      refine (execBistDone_idle hb hq hc).trans ?_
      dsimp only
      rw [hfail, if_pos hscope]
      rfl
  · intro s b t target q body hb hq s1
    exact execLifecycleProgrammed_some hb hq
  · intro s b t d o hb hd
    have hrun : exec (.lifecycleReset t o) s = _ := execLifecycleReset_some hb hd
    rw [hrun]
    exact ⟨fun h => if_pos h, fun h => if_neg h.not_ge⟩
  · intro s b t k d n hb hn
    have hrun : exec (.debugNonceExpire t) s = _ := execDebugNonceExpire_some hb hn
    rw [hrun]
    exact ⟨fun h => if_pos h, fun h => if_neg h.not_ge⟩
  · intro s b t d q hb hq
    have hrun : exec (.debugAuthDelay t) s = _ := execDebugAuthDelay_one hb hq
    rw [hrun]
    exact ⟨fun h => if_pos h, fun h => if_neg h.not_ge⟩
  · intro s b t a o hb ha
    exact ⟨fun hr hdue => (execFwTrialReadyTimeout_waiting hb ha hr).trans (if_pos hdue), fun r hr => execFwTrialReadyTimeout_ready hb ha hr,
      fun r hr hdue => (execFwTrialEnd_ready hb ha hr).trans (if_pos hdue),
      fun r hr hearly => (execFwTrialEnd_ready hb ha hr).trans (if_neg hearly.not_ge)⟩
  · intro s b t l m hb hsup
    have hmeasure : exec (.ageingMeasure t l) s = _ := execAgeingMeasure_on hb hsup
    have hplan : exec (.marginReplan t m) s = _ := execMarginReplan_on hb hsup
    rw [hmeasure, hplan]
    refine ⟨fun hno hdue => ?_, fun hdone => if_pos hdone, fun hno hdue => ?_, fun hbist => ?_⟩
    · exact (if_neg hdue.not_ge).trans (if_neg (by rw [hno]; exact Bool.false_ne_true))
    · exact if_neg fun h => h.elim (by rw [hno]; exact Bool.false_ne_true) hdue.not_gt
    · have hruns : b.life.bist.isSome = true := Option.isSome_iff_ne_none.mpr hbist
      exact ⟨if_pos (Or.inl hruns), fun hdue => (if_neg hdue.not_ge).trans (if_pos hruns)⟩

end Sys2Proof.Machine
end

section
/-! SUPPORT. Power, supply thresholds, reset, lost domains and the watchdog (R19, R476, R591-R598). -/

namespace Sys2Proof.Machine

section
variable {s b : State} {t : Nat} {o : BootObs} {d : Domain}

theorem execDomainLost_off (hb : s.begin t = b) (hoff : b.domOn d = false) : execDomainLost t d s = done b := by
  subst hb
  exact if_pos (Or.inr (Bool.eq_false_iff.mp hoff))

/-- Without the supervision or its memory the module cannot run on. -/
theorem execDomainLost_core (hb : s.begin t = b) (hon : b.domOn d = true) (hd : d = .sup ∨ d = .mem) :
    execDomainLost t d s = done (powerDown (keepFault fDomainLost (0x70 + (domIdx d).val) 5 (lastFrames b))) := by
  subst hb
  obtain rfl | rfl := hd
  · exact if_neg (not_or.mpr ⟨by decide, not_not.mpr hon⟩)
  · exact if_neg (not_or.mpr ⟨by decide, not_not.mpr hon⟩)

theorem execDomainLost_part (hb : s.begin t = b) (hon : b.domOn d = true) (hd : d = .prof ∨ d = .axl ∨ d = .fab ∨ d = .host ∨ d = .safe ∨ d = .field) :
    execDomainLost t d s = done (domainEffect d (settle (({ b with power := { b.power with lost := b.power.lost ++ [(domIdx d).val] } } : State).raise
      fDomainLost (0x70 + (domIdx d).val)))) := by
  subst hb
  obtain rfl | rfl | rfl | rfl | rfl | rfl := hd
  · exact if_neg (not_or.mpr ⟨by decide, not_not.mpr hon⟩)
  · exact if_neg (not_or.mpr ⟨by decide, not_not.mpr hon⟩)
  · exact if_neg (not_or.mpr ⟨by decide, not_not.mpr hon⟩)
  · exact if_neg (not_or.mpr ⟨by decide, not_not.mpr hon⟩)
  · exact if_neg (not_or.mpr ⟨by decide, not_not.mpr hon⟩)
  · exact if_neg (not_or.mpr ⟨by decide, not_not.mpr hon⟩)

theorem execDomainLost_tile (hb : s.begin t = b) (hon : b.domOn .t0 = true) : execDomainLost t .t0 s = done (tileDomainLost 0 b) := by
  subst hb
  exact if_neg (not_or.mpr ⟨by decide, not_not.mpr hon⟩)

theorem execSupWatchdog_settled (hb : s.begin t = b) (hsup : b.domOn .sup = true) (htrial : b.life.trial = none) :
    execSupWatchdog t o s = done (boot 4 o (keepFault fSupWatchdog 0xFF 5 (lastFrames (settle (b.raise fSupWatchdog 0xFF))))) := by
  unfold execSupWatchdog
  rw [hb]
  refine (if_neg (not_not.mpr hsup)).trans ?_
  simp only [htrial]
  rfl

end

/-- Settles O59, from the condition on which each event of the power and of the resets acts. -/
theorem powerAndResetEventsComplete : Obligations.PowerAndResetEventsComplete := by
  refine ⟨?_, ?_, ?_, ?_, ?_, ?_⟩
  · intro s b t o hb hoff
    subst hb
    refine ⟨fun hrst hv => if_neg fun h => ?_, fun h => if_pos (Or.inr h)⟩
    exact h.elim (Bool.eq_false_iff.mp hoff) fun h => h.elim (Bool.eq_false_iff.mp hrst) hv.not_gt
  · intro s b t mv hb hsup s1
    subst hb
    exact ⟨fun hlow hnew => if_pos ⟨hsup, hlow, Bool.eq_false_iff.mp hnew⟩, fun hhigh => if_neg fun h => hhigh.not_gt h.2.1,
      fun hhigh hact => if_pos ⟨hact, hhigh⟩, fun hlow => if_neg fun h => hlow.not_ge h.2, fun hlow => if_pos ⟨hsup, hlow⟩,
      fun hhigh => if_neg fun h => hhigh.not_gt h.2, if_pos hsup⟩
  · intro s b t o hb
    subst hb
    exact ⟨fun hrst hv => (if_neg (not_not.mpr hrst)).trans (if_neg hv.not_gt), fun hrst => if_pos (Bool.eq_false_iff.mp hrst)⟩
  · intro s b t d hb
    exact ⟨fun hoff => execDomainLost_off hb hoff, fun hon hd => execDomainLost_core hb hon hd, fun hon hd => execDomainLost_part hb hon hd,
      fun hon => execDomainLost_tile hb hon⟩
  · intro s b t mv temp hb hsup
    have hon : ¬ ¬ b.domOn .sup = true := not_not.mpr hsup
    subst hb
    exact ⟨if_neg hon, if_pos hsup⟩
  · intro s b t o hb hsup htrial
    exact execSupWatchdog_settled hb hsup htrial

end Sys2Proof.Machine
end

section
/-! SUPPORT. A start: what it sets first, no later stage of it changes (R378, R431, R560, R573). -/

namespace Sys2Proof.Machine

/-- What a start sets before the stages that bring the parts up: LT, the lifecycle, the identification, the command queue, and that nothing cycles. -/
def State.startFacts (s : State) : Nat × LifeState × Ident × List Instr × Bool × Option Nat :=
  (s.time.lt, s.life, s.host.ident, s.pending, s.cyc.cycling, s.cyc.priming)

section
variable (s : State)

theorem State.ite_startFacts {c : Prop} [Decidable c] {x y : State} (hx : x.startFacts = s.startFacts) (hy : y.startFacts = s.startFacts) :
    (if c then x else y).startFacts = s.startFacts := by
  split
  · exact hx
  · exact hy

section
variable (a : AxisId) (f : Axis → Axis) (x : TilesState) (y : SafeState) (c u l : Nat)

theorem modAxis_startFacts : (s.modAxis a f).startFacts = s.startFacts := rfl
theorem modLink_startFacts (f : Link → Link) : (s.modLink a f).startFacts = s.startFacts := rfl
theorem modProf_startFacts (f : Prof → Prof) : (s.modProf a f).startFacts = s.startFacts := rfl
theorem modGrp_startFacts (g : Fin 8) (f : Group → Group) : (s.modGrp g f).startFacts = s.startFacts := rfl
theorem raise_startFacts : (s.raise c u).startFacts = s.startFacts := rfl
theorem tiles_startFacts : ({ s with tiles := x } : State).startFacts = s.startFacts := rfl
theorem prm_startFacts (p : PrmState) : ({ s with prm := p } : State).startFacts = s.startFacts := rfl
theorem prm_tiles_startFacts (p : PrmState) : ({ s with prm := p, tiles := x } : State).startFacts = s.startFacts := rfl
theorem safe_startFacts : ({ s with safe := y } : State).startFacts = s.startFacts := rfl

end

/-! Events and responses. -/

theorem postEvent_startFacts (code tag unit : Nat) (data : List Byte) : (s.postEvent code tag unit data).startFacts = s.startFacts :=
  s.ite_startFacts rfl rfl

theorem postRsp_startFacts (ring : Nat) (e : List Byte) : (s.postRsp ring e).startFacts = s.startFacts :=
  s.ite_startFacts rfl rfl

theorem respond_startFacts (q : ReqRef) (ofs : Nat) (r : Rsp) : (s.respond q ofs r).startFacts = s.startFacts := by
  unfold State.respond
  dsimp only
  split
  · rfl
  · exact (postRsp_startFacts _ _ _).trans (s.ite_startFacts rfl rfl)

theorem finish_startFacts (q : ReqRef) (r : Rsp) : (s.finish q r).startFacts = s.startFacts := by
  unfold State.finish
  dsimp only
  rw [respond_startFacts]
  split <;> rfl

theorem finish?_startFacts (q : Option ReqRef) (r : Rsp) : (s.finish? q r).startFacts = s.startFacts := by
  cases q with
  | none => rfl
  | some q => exact finish_startFacts s q r

/-! Axes and groups that are switched off or stopped. -/

theorem postDrops_startFacts (unit reason : Nat) (q : List Nat) : (postDrops unit reason q s).startFacts = s.startFacts :=
  foldl_keeps State.startFacts (fun s tag => postEvent_startFacts s 0x8003 tag unit _) q s

theorem gearOff_startFacts (a : AxisId) : (gearOff a s).startFacts = s.startFacts := by
  unfold gearOff
  dsimp only
  split
  · exact finish?_startFacts s _ _
  · rfl

theorem homeAbort_startFacts (a : AxisId) : (homeAbort a s).startFacts = s.startFacts :=
  s.ite_startFacts rfl (finish?_startFacts s _ _)

theorem cancelSwitch_startFacts (a : AxisId) (status : Nat) : (cancelSwitch a status s).startFacts = s.startFacts := by
  unfold cancelSwitch
  split
  · rfl
  · exact finish?_startFacts s _ _

theorem cancelEnable_startFacts (a : AxisId) (status : Nat) : (cancelEnable a status s).startFacts = s.startFacts := by
  unfold cancelEnable
  dsimp only
  refine foldl_keeps State.startFacts (fun s p => ?_) _ _
  rw [finish_startFacts]
  refine forAxes_keeps State.startFacts (fun a s => ?_) _ s
  rfl

theorem dropAxisQueue_startFacts (a : AxisId) (reason : Nat) : (dropAxisQueue a reason s).startFacts = s.startFacts :=
  postDrops_startFacts s _ _ _

theorem dropGrpQueue_startFacts (g : Fin 8) (reason : Nat) : (dropGrpQueue g reason s).startFacts = s.startFacts :=
  postDrops_startFacts s _ _ _

theorem axisOff_startFacts (a : AxisId) (reason : Nat) : (axisOff a reason s).startFacts = s.startFacts := by
  unfold axisOff
  dsimp only
  rw [modAxis_startFacts, postDrops_startFacts, cancelEnable_startFacts, cancelSwitch_startFacts, gearOff_startFacts, homeAbort_startFacts, dropAxisQueue_startFacts]

theorem stopGroup_startFacts (g : Fin 8) (kind reason : Nat) (slot : Option Nat) : (stopGroup g kind reason slot s).startFacts = s.startFacts := by
  refine (foldl_keeps State.startFacts (fun s a => ?_) _ _).trans (dropGrpQueue_startFacts s g reason)
  rfl

theorem torqueHandOver_startFacts (a : AxisId) : (torqueHandOver a s).startFacts = s.startFacts :=
  s.ite_startFacts (cancelSwitch_startFacts s a _) rfl

theorem stopAxisOwn_startFacts (a : AxisId) (kind reason : Nat) (slot : Option Nat) : (stopAxisOwn a kind reason slot s).startFacts = s.startFacts := by
  unfold stopAxisOwn
  dsimp only
  rw [modProf_startFacts, torqueHandOver_startFacts, gearOff_startFacts, homeAbort_startFacts, dropAxisQueue_startFacts]

theorem stopAxis_startFacts (a : AxisId) (kind reason : Nat) : (stopAxis a kind reason none s).startFacts = s.startFacts := by
  unfold stopAxis
  dsimp only
  split
  · refine s.ite_startFacts ?_ ?_
    · rw [stopGroup_startFacts, homeAbort_startFacts]
    · rw [stopAxisOwn_startFacts]
      exact s.ite_startFacts (stopGroup_startFacts s _ _ _ _) rfl
  · exact stopAxisOwn_startFacts s _ _ _ _

theorem quickstopAll_startFacts (reason : Nat) : (quickstopAll reason s).startFacts = s.startFacts := by
  unfold quickstopAll
  refine (forAxes_keeps State.startFacts (fun a s => stopAxis_startFacts s a 2 reason) _ _).trans ?_
  exact foldl_keeps State.startFacts (fun s g => s.ite_startFacts (stopGroup_startFacts s g _ _ _) (dropGrpQueue_startFacts s g reason)) _ s

/-! The safety paths. -/

theorem safeFollow_startFacts (old : SafeState) : (safeFollow old s).startFacts = s.startFacts := by
  have hquick : ∀ {c : Prop} [Decidable c] (x : State), (if c then quickstopAll 0 x else x).startFacts = x.startFacts := fun x =>
    x.ite_startFacts (quickstopAll_startFacts x 0) rfl
  unfold safeFollow
  dsimp only
  split
  · rw [forAxes_keeps State.startFacts (fun a s => axisOff_startFacts s a 3), hquick, safe_startFacts]
  · rw [hquick, safe_startFacts]

theorem safeEval_startFacts : (safeEval s).startFacts = s.startFacts :=
  safeFollow_startFacts _ _

theorem bootSafe_startFacts (ok : Bool) : (bootSafe ok s).startFacts = s.startFacts := by
  unfold bootSafe
  dsimp only
  split
  · rfl
  · exact s.ite_startFacts rfl rfl

/-! Tiles, margins, links, supplies. -/

theorem setTarget_startFacts (v : Int) : (setTarget v s).startFacts = s.startFacts := rfl

theorem raiseAll_startFacts (code : Nat) (units : List Nat) : (units.foldl (fun s i => s.raise code (0x100 + i)) s).startFacts = s.startFacts := by
  refine foldl_keeps State.startFacts (fun s i => ?_) _ s
  rfl

theorem takeReadings_startFacts (r : List Int) : (takeReadings r s).startFacts = s.startFacts := rfl

theorem age_startFacts (x : AgeState) : ({ s with age := x } : State).startFacts = s.startFacts := rfl

theorem replan_startFacts (period : Nat) (readings : List (List Int)) : (replan period readings s).startFacts = s.startFacts := by
  unfold replan
  dsimp only
  split
  · rw [setTarget_startFacts, age_startFacts, takeReadings_startFacts, age_startFacts]
  · split
    · rw [raise_startFacts, age_startFacts, setTarget_startFacts, takeReadings_startFacts, setTarget_startFacts, age_startFacts,
        takeReadings_startFacts, age_startFacts]
    · rw [raiseAll_startFacts]
      split
      · rw [age_startFacts, setTarget_startFacts, age_startFacts, takeReadings_startFacts, age_startFacts]
      · rw [raise_startFacts, age_startFacts, setTarget_startFacts, age_startFacts, takeReadings_startFacts, age_startFacts]

theorem projectMargins_startFacts : (projectMargins s).startFacts = s.startFacts :=
  raiseAll_startFacts _ _ _

theorem bootSlices_startFacts (fails : List (Fin 5)) : (bootSlices fails s).startFacts = s.startFacts := by
  have hmask : (fails.foldl (fun s i => maskTile i s) s).startFacts = s.startFacts := by
    refine foldl_keeps State.startFacts (fun s i => ?_) _ s
    rfl
  unfold bootSlices
  dsimp only
  split
  · exact s.ite_startFacts hmask hmask
  · exact hmask

theorem bootParams_startFacts (o : BootObs) : (bootParams o s).startFacts = s.startFacts := by
  unfold bootParams
  dsimp only
  rw [tiles_startFacts]
  split
  · rw [prm_startFacts, bootSlices_startFacts, projectMargins_startFacts, replan_startFacts, prm_startFacts]
  · rw [bootSlices_startFacts, prm_tiles_startFacts, bootSlices_startFacts, projectMargins_startFacts, replan_startFacts, prm_startFacts]

theorem installBlocks_startFacts : (installBlocks s).startFacts = s.startFacts := by
  refine forAxes_keeps State.startFacts (fun a s => ?_) _ _
  refine foldl_keeps State.startFacts (fun s p => ?_) _ s
  split <;> rfl

theorem bootBlocks_startFacts : (bootBlocks s).startFacts = s.startFacts := by
  unfold bootBlocks
  dsimp only
  split
  · rw [raise_startFacts, tiles_startFacts, installBlocks_startFacts]
  · exact installBlocks_startFacts s

theorem bootFab_startFacts : (bootFab s).startFacts = s.startFacts :=
  s.ite_startFacts rfl rfl

theorem setLink_startFacts (a : AxisId) (st : LinkState) : (setLink a st s).startFacts = s.startFacts :=
  s.ite_startFacts rfl ((postEvent_startFacts (s.modLink a _) _ _ _ _).trans (modLink_startFacts s a _))

theorem linkEnable_startFacts (a : AxisId) : (linkEnable a s).startFacts = s.startFacts :=
  s.ite_startFacts (setLink_startFacts s a _) rfl

theorem bootAxes_startFacts : (bootAxes s).startFacts = s.startFacts := by
  refine forAxes_keeps State.startFacts (fun a s => ?_) allAxes s
  rw [linkEnable_startFacts, modAxis_startFacts]

theorem canConfigure_startFacts (c : Fin 2) : (canConfigure c s).startFacts = s.startFacts := by
  refine s.ite_startFacts ?_ ?_
  · exact s.ite_startFacts rfl rfl
  · exact s.ite_startFacts rfl rfl

theorem ptpMode_startFacts (old : Bank) : (ptpMode old s).startFacts = s.startFacts := by
  unfold ptpMode
  dsimp only
  (repeat' split) <;> rfl

theorem sliceRecords_startFacts (fails : List (Fin 5)) : (sliceRecords fails s).startFacts = s.startFacts := by
  refine foldl_keeps State.startFacts (fun s i => ?_) fails s
  rfl

theorem bootTiles_startFacts : (bootTiles s).startFacts = s.startFacts := by
  refine foldl_keeps State.startFacts (fun s i => ?_) _ s
  split <;> rfl

theorem refreshTiles_startFacts : (refreshTiles s).startFacts = s.startFacts := by
  refine foldl_keeps State.startFacts (fun s i => ?_) _ s
  rfl

theorem profDomain_startFacts : (profDomain s).startFacts = s.startFacts :=
  s.ite_startFacts (s.ite_startFacts rfl rfl) rfl

theorem tileDomains_startFacts : (tileDomains s).startFacts = s.startFacts := by
  unfold tileDomains
  dsimp only
  rw [refreshTiles_startFacts, profDomain_startFacts]
  refine (foldl_keeps State.startFacts (fun s i => ?_) _ _).trans (profDomain_startFacts s)
  (repeat' split) <;> rfl

theorem bootSupplies_startFacts (o : BootObs) : (bootSupplies o s).startFacts = s.startFacts := by
  unfold bootSupplies
  dsimp only
  (repeat' split) <;> rfl

theorem tempEval_startFacts : (tempEval s).startFacts = s.startFacts := by
  refine foldl_keeps State.startFacts (fun s e => ?_) _ s
  dsimp only
  (repeat' split) <;> rfl

theorem restoreFault_startFacts : (restoreFault s).startFacts = s.startFacts := by
  unfold restoreFault
  dsimp only
  split <;> rfl

theorem bootKeep_startFacts (o : BootObs) : (bootKeep o s).startFacts = s.startFacts :=
  s.ite_startFacts rfl rfl

theorem bootHost_startFacts : (bootHost s).startFacts = s.startFacts := rfl

theorem bootCams_startFacts : (bootCams s).startFacts = s.startFacts := rfl

theorem domainsUp_startFacts : (domainsUp s).startFacts = s.startFacts := rfl

theorem power_startFacts (x : PowerState) : ({ s with power := x } : State).startFacts = s.startFacts := rfl

/-- Nothing primes or cycles before, so the end of a start can at most choose the priming cycle. -/
theorem startCycling_idle (hc : s.cyc.cycling = false) (hp : s.cyc.priming = none) :
    (startCycling s).time.lt = s.time.lt ∧ (startCycling s).life = s.life ∧ (startCycling s).host.ident = s.host.ident ∧
      (startCycling s).pending = s.pending ∧ (startCycling s).cyc.cycling = false := by
  unfold startCycling
  rw [if_neg (Bool.eq_false_iff.mp hc), hp]
  dsimp only
  split
  · exact ⟨rfl, rfl, rfl, rfl, hc⟩
  · exact ⟨rfl, rfl, rfl, rfl, hc⟩

/-- The first stage of a start: LT, the fuses and the count of starts. -/
def bootFirst (cause : Nat) (o : BootObs) (s : State) : State :=
  bootIdent cause o (bootKeep o { powerDown s with time := { (powerDown s).time with lt := 0 } })

theorem bootFirst_facts (cause : Nat) (o : BootObs) :
    (bootFirst cause o s).time.lt = 0 ∧ (bootFirst cause o s).life.lc = s.life.fuse ∧ (bootFirst cause o s).life.fuse = s.life.fuse ∧
      (bootFirst cause o s).life.rollback = s.life.rollback ∧
      (bootFirst cause o s).host.ident.bootCount = (s.host.ident.bootCount + 1) % 2 ^ 32 ∧ (bootFirst cause o s).pending = s.pending ∧
      (bootFirst cause o s).cyc.cycling = false ∧ (bootFirst cause o s).cyc.priming = none := by
  have hkeep := bootKeep_startFacts { powerDown s with time := { (powerDown s).time with lt := 0 } } o
  unfold bootFirst
  generalize bootKeep o { powerDown s with time := { (powerDown s).time with lt := 0 } } = x at hkeep
  simp only [State.startFacts, Prod.mk.injEq] at hkeep
  obtain ⟨hlt, hlife, hident, hpend, hcyc, hprime⟩ := hkeep
  have hfuse : x.life.fuse = s.life.fuse := by rw [hlife]; rfl
  have hroll : x.life.rollback = s.life.rollback := by rw [hlife]; rfl
  have hcount : (x.host.ident.bootCount + 1) % 2 ^ 32 = (s.host.ident.bootCount + 1) % 2 ^ 32 := by rw [hident]; rfl
  exact ⟨hlt, hfuse, hfuse, hroll, hcount, hpend, hcyc, hprime⟩

/-- The stages of a start after the first, up to the start of cycling. -/
def bootStages (o : BootObs) (s1 : State) : State :=
  let s2 := restoreFault s1
  let s3 := if s2.host.ident.imageFallback then s2.raise fFwFallback 0xFF else s2
  let s4 := domainsUp (bootParams o { s3 with power := { s3.power with on := s3.power.on.set 1 true } })
  let s5 := bootCams (bootBlocks (bootFab s4))
  let s6 := sliceRecords o.sliceFails (bootAxes (ptpMode s5.prm.topcoat (canConfigure 1 (canConfigure 0 (bootHost s5)))))
  let s7 := bootSafe o.safeTestOk s6
  let s8 := if o.postOk then s7 else s7.raise fPostFail 0xFF
  safeEval (tempEval (bootSupplies o (tileDomains (bootTiles s8))))

theorem boot_eq (cause : Nat) (o : BootObs) :
    boot cause o s =
      let s1 := bootFirst cause o s
      if s1.host.hostState = 3 then restoreFault { s1 with power := { s1.power with
        vsysMv := o.vsysMv, on := #v[true, true, true, false, false, false, false, false, false, false, false, true, true, true] } }
      else startCycling (bootStages o s1) := rfl

theorem bootStages_startFacts (o : BootObs) : (bootStages o s).startFacts = s.startFacts := by
  have hraise : ∀ {c : Prop} [Decidable c] (x : State) (code : Nat), (if c then x.raise code 0xFF else x).startFacts = x.startFacts := fun x _ =>
    x.ite_startFacts rfl rfl
  have hpost : ∀ {c : Prop} [Decidable c] (x : State) (code : Nat), (if c then x else x.raise code 0xFF).startFacts = x.startFacts := fun x _ =>
    x.ite_startFacts rfl rfl
  unfold bootStages
  dsimp only
  rw [safeEval_startFacts, tempEval_startFacts, bootSupplies_startFacts, tileDomains_startFacts, bootTiles_startFacts, hpost, bootSafe_startFacts,
    sliceRecords_startFacts, bootAxes_startFacts, ptpMode_startFacts, canConfigure_startFacts, canConfigure_startFacts, bootHost_startFacts,
    bootCams_startFacts, bootBlocks_startFacts, bootFab_startFacts, domainsUp_startFacts, bootParams_startFacts, power_startFacts, hraise,
    restoreFault_startFacts]

end

/-- Settles O60: what a start sets first is kept by every later stage, and the start of cycling leaves nothing cycling. -/
theorem startBeginsAnew : Obligations.StartBeginsAnew := by
  intro cause o s s1
  obtain ⟨hlt, hlc, hfuse, hroll, hcount, hpend, hcyc, hprime⟩ := bootFirst_facts s cause o
  have hkept : ∀ x : State, x.startFacts = (bootFirst cause o s).startFacts →
      x.time.lt = 0 ∧ x.life.lc = s.life.fuse ∧ x.life.fuse = s.life.fuse ∧ x.life.rollback = s.life.rollback ∧
      x.host.ident.bootCount = (s.host.ident.bootCount + 1) % 2 ^ 32 ∧ x.pending = s.pending ∧ x.cyc.cycling = false ∧ x.cyc.priming = none := by
    intro x hx
    simp only [State.startFacts, Prod.mk.injEq] at hx
    obtain ⟨xlt, xlife, xident, xpend, xcyc, xprime⟩ := hx
    rw [xlt, xlife, xident, xpend, xcyc, xprime]
    exact ⟨hlt, hlc, hfuse, hroll, hcount, hpend, hcyc, hprime⟩
  have hs1 : s1 = _ := boot_eq s cause o
  clear_value s1
  dsimp only at hs1
  split at hs1
  · obtain ⟨h1, h2, h3, h4, h5, h6, h7, _⟩ := hkept s1 (by rw [hs1, restoreFault_startFacts, power_startFacts])
    exact ⟨h1, h2, h3, h4, h5, h6, h7⟩
  · obtain ⟨h1, h2, h3, h4, h5, h6, h7, h8⟩ := hkept _ (bootStages_startFacts (bootFirst cause o s) o)
    obtain ⟨clt, clife, cident, cpend, ccyc⟩ := startCycling_idle _ h7 h8
    rw [hs1, clt, clife, cident, cpend]
    exact ⟨h1, h2, h3, h4, h5, h6, ccyc⟩

end Sys2Proof.Machine
end
